-- ==== Sys2Proof/Word.lean ====
section
/-! DEFINITION. The units the lines of the GPC-12 carry: bytes, and the two-byte words of settings and
checks. Every measured quantity is a whole number (00_scope.md, Conventions) and is a `Nat` or an `Int`. -/

namespace Sys2Proof

/-- One byte of a line (R196, R114). -/
abbrev Byte := BitVec 8

/-- Two bytes sent most significant first: a signature, a check, a setting value (R182, R183). -/
abbrev Half := BitVec 16

end Sys2Proof
end

