-- ==== Sys2Proof/Config.lean ====
section
/-! DEFINITION. What the part fixes once (sizes of its tables) and the values its manual leaves open. -/

namespace Sys2Proof.Config

/-- R173: the notice queue holds up to 32 notices. -/
abbrev noticeCapacity : Nat := 32

/-- R148: the run log holds up to 24 run records. -/
abbrev runLogCapacity : Nat := 24

/-- R106: the rotation counter saturates at 720 h. -/
abbrev rotationMax : Nat := 2592000

/-- R105: run hours saturate at this many tenths. -/
abbrev runHoursMax : Nat := 9999999

/-- R24: residue units in one cAh. -/
abbrev residueUnit : Nat := 36000

/-- R198: the service address, taken when a strap is out of range. -/
abbrev serviceAddress : Nat := 240

/-- FREE VALUE (DESIGN CHOICE, log 12). R208 gives a field its width and does not say what is sent when
the value does not fit that width. The byte at place `i` of a field of `n` bytes holding `v` is then this
constant, of which nothing is known. -/
opaque unstatedByte (n v i : Nat) : Byte

end Sys2Proof.Config
end

