-- ==== Sys2Proof/Syntax.lean ====
section
/-! DEFINITION. The commands of the GPC-12: one constructor per row of spec/opcode_table.json, with the
operands the row's rule gives it. The table gives its rows no fields; a request row carries the payload
fields of R210, an event row what the rule says the part takes at that event. -/

namespace Sys2Proof

/-- The blocks that take a measurement event after the measurement unit has presented it (00_scope.md,
R3). `measurement` is the measurement unit's own report of its conditions (R6, R7). The source supervisor
does nothing at the event of its own. -/
inductive Block where
  | measurement | account | charge | protection | rectifier | moduleBus | generator | calendar | alarm
  | store | link
  deriving DecidableEq, Repr, Inhabited

/-- The blocks in the order of the manual's table of blocks. -/
def allBlocks : List Block :=
  [.measurement, .account, .charge, .protection, .rectifier, .moduleBus, .generator, .calendar, .alarm,
    .store, .link]

/-- The eleven raw conversions of one measurement event (R3, R4), in the units of the channels. A value
outside its channel's range is an invalid conversion. -/
structure Readings where
  bus : Int
  load : Int
  string1 : Int
  string2 : Int
  string3 : Int
  string4 : Int
  therm1 : Int
  therm2 : Int
  therm3 : Int
  therm4 : Int
  fuel : Int
  deriving DecidableEq, Repr, Inhabited

/-- What the part finds at its pins at a start: the two strap resistances in ohms (R198), the AC senses
(R9, R10) and the eight raw input levels, true for a closed contact or high level (R11). -/
structure Pins where
  strapA : Nat
  strapB : Nat
  mainsSense : Bool
  genSense : Bool
  levels : List Bool
  deriving DecidableEq, Repr, Inhabited

/-- A byte of either line as received: its value, and whether its stop bit was good (R117, R197). -/
structure LineByte where
  value : Byte
  goodStop : Bool
  deriving DecidableEq, Repr, Inhabited

/-- R186: the protect mode of a setting group, in the numbering of R211. -/
inductive ProtectMode where
  | open_ | keyed | permanent
  deriving DecidableEq, Repr, Inhabited

/-- The commands. Indexes count from 0: `Fin 4` is a string or thermistor less one, `Fin 8` a site input
less one. -/
inductive Instr where
  /-- POWER_RETURN_START (R1). The plant supply returns and the part makes a start, cold if the backup domain's check marker is broken and warm otherwise. -/
  | powerReturnStart (p : Pins)
  /-- RESET_PIN_START (R1). Asserting the reset pin makes a start of the part, with cause reset pin. -/
  | resetPinStart (p : Pins)
  /-- RESTART_WARM_START (R206). At the end of the last byte of the RESTART reply the part makes a warm start with cause RESTART. -/
  | restartWarmStart (p : Pins)
  /-- MEASUREMENT_EVENT (R3). Once per second the measurement unit presents a new set of readings and every block does its per-second work on them. -/
  | measurementEvent (r : Readings) (order : List Block)
  /-- THERMISTOR_FALLBACK (R5). A thermistor that has been HELD for 600 s goes to FALLBACK and presents the fallback temperature. -/
  | thermistorFallback (t : Fin 4)
  /-- STRING_CHANNEL_UNUSABLE (R7). At the eleventh consecutive invalid conversion a string-current channel becomes UNUSABLE and its string becomes UNSYNC. -/
  | stringChannelUnusable (i : Fin 4)
  /-- MAINS_SENSE_CHANGE (R9). The mains AC sense changes level, which starts or discards the return or fail timer. -/
  | mainsSenseChange (present : Bool)
  /-- MAINS_RETURN_TIMER_EXPIRY (R9). The return timer reaches the mains-return delay and mains becomes QUALIFIED. -/
  | mainsReturnTimerExpiry
  /-- MAINS_FAIL_TIMER_EXPIRY (R9). The fail timer reaches the mains-fail qualify time and mains becomes NOT_QUALIFIED. -/
  | mainsFailTimerExpiry
  /-- GEN_SENSE_CHANGE (R10). The generator AC sense changes level, which starts or restarts its one-second qualification. -/
  | genSenseChange (present : Bool)
  /-- GEN_AC_QUALIFIED (R10). The generator sense has held steady for 1 s and the generator AC state becomes PRESENT or ABSENT. -/
  | genAcQualified
  /-- SITE_INPUT_LEVEL_CHANGE (R11). A site input's raw level changes, which starts or discards its persistence timer. -/
  | siteInputLevelChange (n : Fin 8) (level : Bool)
  /-- PERSISTENCE_EXPIRY (R11). A site input's persistence timer reaches its setting and the input's qualified state changes. -/
  | persistenceExpiry (n : Fin 8)
  /-- HOLD_EXPIRY (R21). An active maintenance hold reaches its expiry and ends. -/
  | holdExpiry
  /-- ABSORB_ENTRY (R51). The absorb entry count reaches 60 and the stage moves from BULK to ABSORB. -/
  | absorbEntry
  /-- TAIL_EXIT (R52). The tail count reaches 600, the stage moves to FLOAT and the full-charge signal and tail report are sent. -/
  | tailExit
  /-- ABSORB_TIMER_EXPIRY (R53). The ABSORB timer reaches the absorb maximum and the stage moves to FLOAT without resync. -/
  | absorbTimerExpiry
  /-- EQUALIZE_COMPLETE (R62). The equalize remaining time reaches 0, the stage returns to FLOAT and EQUALIZE_END COMPLETED is posted. -/
  | equalizeComplete
  /-- SHED_DELAY_EXPIRY (R74). The shed count reaches the shed delay and the NEL contactor opens with cause VOLTAGE. -/
  | shedDelayExpiry
  /-- NEL_RECONNECT (R77). The NEL reconnect count reaches its delay and the NEL contactor closes. -/
  | nelReconnect
  /-- BATTERY_DISCONNECT (R79). The disconnect count reaches the disconnect delay and the BPD contactor opens, making the plant mode PROTECT. -/
  | batteryDisconnect
  /-- BPD_RECONNECT (R81). The BPD reconnect count reaches its delay and the BPD contactor closes. -/
  | bpdReconnect
  /-- DISCHARGE_COUNT_EXPIRY (R83). The discharge count reaches 60 and BATTERY_DISCHARGE becomes true. -/
  | dischargeCountExpiry
  /-- START_TIMEOUT (R99). A STARTING slot's start count reaches the start timeout and the slot goes to FAULT. -/
  | startTimeout (i : Fin 12)
  /-- FAULT_RECOVERY (R100). A FAULT slot's recovery count reaches the fault recovery time and the slot becomes STANDBY. -/
  | faultRecovery (i : Fin 12)
  /-- ROTATION_DUE (R106). The rotation counter reaches the rotation interval and the rotation becomes due. -/
  | rotationDue
  /-- SWAP_OVERLAP_EXPIRY (R108). The overlap count reaches the swap overlap and the swap ends COMPLETED or ABSORBED. -/
  | swapOverlapExpiry
  /-- COMMAND_SENT (R116). The last stop bit of a module command frame is sent and the exchange enters its reply window. -/
  | commandSent
  /-- REPLY_WINDOW_EXPIRY (R117). No reply byte begins within 20 ms, the reply is absent and the exchange enters TURNAROUND. -/
  | replyWindowExpiry
  /-- STATUS_FRAME (R117). A module's twelve-byte status reply is received and the exchange enters TURNAROUND. -/
  | statusFrame (bytes : List LineByte)
  /-- REPLY_GAP_TIMEOUT (R117). More than 1 ms passes between reply bytes, cutting the reply short and entering TURNAROUND. -/
  | replyGapTimeout
  /-- TRAILING_BYTES (R117). A byte begins during TURNAROUND and marks the exchange as having trailing bytes. -/
  | trailingBytes
  /-- TURNAROUND_END (R118). At the end of TURNAROUND the exchange is judged, its outcome handed on, the counts updated and the next exchange begun. -/
  | turnaroundEnd
  /-- PRIME_TIME_EXPIRY (R132). The machine has been in PRIMING for the prime time and enters CRANKING, using an attempt. -/
  | primeTimeExpiry
  /-- CRANK_MAXIMUM_EXPIRY (R132). The crank maximum is reached with generator AC absent and the machine enters CRANK_REST or FAILED. -/
  | crankMaximumExpiry
  /-- CRANK_REST_EXPIRY (R133). The crank rest is reached and the machine enters CRANKING for the next attempt. -/
  | crankRestExpiry
  /-- WARMUP_FAULT_ARM (R134). At the 10th event of WARMUP the oil-pressure and engine-temperature inputs begin to be acted on. -/
  | warmupFaultArm
  /-- WARMUP_END (R134). The warmup time is reached and the machine enters ONLINE or OFFLOAD by the run's basis. -/
  | warmupEnd
  /-- MAINS_FAIL_START_DELAY (R130). The mains-fail timer reaches the mains-fail start delay and the MAINS_FAIL cause becomes true. -/
  | mainsFailStartDelay
  /-- BUS_START_QUALIFIED (R131). The bus-start count reaches the bus-start qualify time and the BUS_LOW cause becomes true. -/
  | busStartQualified
  /-- REST_COUNT_COMPLETE (R129). The rest count reaches the minimum rest, opening that start gate. -/
  | restCountComplete
  /-- MAX_RUN (R137). The run time reaches the maximum run and the run ends with stop reason MAX_RUN. -/
  | maxRun
  /-- DURATION (R137). An EXERCISE or MANUAL run's duration is reached and the run ends with stop reason DURATION. -/
  | duration
  /-- COOLDOWN_EXPIRY (R139). The cooldown time is reached and the machine enters STOPPING. -/
  | cooldownExpiry
  /-- STOP_CONFIRM_EXPIRY (R140). The stop-confirm time is reached with generator AC still present and the machine enters FAILED with STOP_FAIL. -/
  | stopConfirmExpiry
  /-- REARM_EXPIRY (R144). The re-arm count reaches the re-arm interval and the machine leaves FAILED for IDLE. -/
  | rearmExpiry
  /-- MANUAL_STOP_HOLD_EXPIRY (R146). The manual-stop hold time runs out and the hold ends. -/
  | manualStopHoldExpiry
  /-- CALENDAR_TICK (R153). The calendar advances its time by one second and carries through the fields. -/
  | calendarTick
  /-- WINDOW_CLOSE (R161). The exercise window count reaches 0 and a waiting exercise without a run is withdrawn and made missed. -/
  | windowClose
  /-- QUALIFICATION_COUNT_EXPIRY (R166). A raising or clearing record's qualification count reaches its delay and the record is raised or cleared. -/
  | qualificationCountExpiry (c : Fin 40)
  /-- LAMP_HALF_PERIOD (R178). A flashing lamp's half-period runs out and the lamp changes between lit and dark. -/
  | lampHalfPeriod
  /-- IDLE_COUNT_EXPIRY (R189). The unlocked group's idle count reaches 600 and the group is relocked. -/
  | idleCountExpiry
  /-- STORE_WRITE_COMPLETE (R194). A store write of a group completes, replacing the working copy, clearing damage and posting SETTING_WRITTEN. -/
  | storeWriteComplete
  /-- MODE_TABLE_WRITE_COMPLETE (R190). A store write of the mode table completes, the group takes its new mode and SETTING_WRITTEN is posted. -/
  | modeTableWriteComplete
  /-- RUN_CLOSE (R197). The line stays idle over 10 ms after a run of bytes, and the run is judged and taken as a request or discarded. -/
  | runClose
  /-- LINK_BYTE_DISCARD (R202). A byte from another station begins while a request is in hand or the receiver is DEAF, and it is discarded, setting the overrun mark or restarting the idle time. -/
  | linkByteDiscard
  /-- REPLY_BEGIN (R200). The reply begins 2 to 50 ms after the request was taken, with its digest built at that moment. -/
  | replyBegin
  /-- REPLY_END (R200). The last reply byte is sent and the receiver becomes DEAF or LISTENING. -/
  | replyEnd
  /-- DEAF_IDLE_EXPIRY (R202). The line has been idle 50 ms while DEAF, the receiver becomes LISTENING and the overrun mark clears. -/
  | deafIdleExpiry
  /-- SNAPSHOT_DROP (R205). At the 60th measurement event after it was taken the snapshot is dropped. -/
  | snapshotDrop
  /-- STATUS (R203). The request returns the named section of a block's state. -/
  | status (source sect : Byte)
  /-- READ_MEASURE (R201). The request returns every channel's reading and validity, the site-input and function states and the AC states. -/
  | readMeasure (source : Byte)
  /-- READ_STRING (R44). The request returns the record of one string. -/
  | readString (source string : Byte)
  /-- READ_ROSTER (R112). The request returns a run of slot records. -/
  | readRoster (source first count : Byte)
  /-- READ_ALARMS (R181). The request returns a run of alarm records. -/
  | readAlarms (source first count : Byte)
  /-- NEXT_NOTICE (R174). The request removes and returns the oldest notice, or reports empty and clears the resync flag. -/
  | nextNotice (source : Byte)
  /-- READ_RUNLOG (R150). The request returns the run record at a given age. -/
  | readRunlog (source age : Byte)
  /-- READ_CLOCK (R201). The request returns the calendar time, valid flag and exercise record. -/
  | readClock (source : Byte)
  /-- READ_SETTINGS (R195). The request returns a run of a group's working setting values. -/
  | readSettings (source group first count : Byte)
  /-- READ_SIGNATURE (R195). The request returns a group's signature, protect mode, lock state, damage and store-write status. -/
  | readSignature (source group : Byte)
  /-- SNAPSHOT (R205). The request copies measurements, string, slot and alarm records and the generator section into a snapshot. -/
  | snapshot
  /-- SET_CLOCK (R155). The request sets the calendar time and makes it valid. -/
  | setClock (year : Half) (month day hour minute second : Byte)
  /-- ALIGN_CLOCK (R156). The request rounds a valid calendar time to the nearest whole minute. -/
  | alignClock
  /-- ACK_ALARM (R168). The request acknowledges the records named by a code or a severity. -/
  | ackAlarm (form selector : Byte)
  /-- RESET_LATCH (R170). The request returns every GONE_UNSEEN record to IDLE. -/
  | resetLatch
  /-- HOLD (R18). The request starts or replaces a maintenance hold with cause REQUEST. -/
  | hold (minutes : Half)
  /-- RELEASE (R21). The request ends an active maintenance hold. -/
  | release
  /-- GEN_START (R145). The request begins or converts a MANUAL generator run. -/
  | genStart (minutes : Half) (loadFlag : Byte)
  /-- GEN_STOP (R146). The request starts the manual-stop hold and ends a run in progress with MANUAL_STOP. -/
  | genStop
  /-- EQUALIZE_START (R64). The request makes an equalize pending. -/
  | equalizeStart
  /-- EQUALIZE_STOP (R64). The request stops or cancels an equalize and restarts the interval. -/
  | equalizeStop
  /-- CAPACITY_TEST_START (R66). The request starts a capacity test when the stage, mode, sync and equalize state allow. -/
  | capacityTestStart (target : Byte)
  /-- CAPACITY_TEST_ABORT (R68). The request ends a test in flight ABORTED. -/
  | capacityTestAbort
  /-- RECTIFIER_LOCKOUT (R103). The request takes a fitted slot out of service into LOCKOUT. -/
  | rectifierLockout (slot : Byte)
  /-- RECTIFIER_RESTORE (R104). The request returns a locked-out slot to STANDBY or ABSENT. -/
  | rectifierRestore (slot : Byte)
  /-- ROTATE_NOW (R110). The request begins a swap at once, or holds a rotation request under a maintenance hold. -/
  | rotateNow
  /-- UNLOCK (R188). The request relocks any unlocked group and unlocks the named group if its protection and signature allow. -/
  | unlock (group : Byte) (signature : Half)
  /-- LOCK_GROUP_RELOCK (R190). LOCK GROUP with action RELOCK relocks the named group if it is unlocked. -/
  | lockGroupRelock (group : Byte)
  /-- LOCK_GROUP_SEAL (R190). LOCK GROUP with action SEAL sets the group's sealed flag and relocks it. -/
  | lockGroupSeal (group : Byte)
  /-- LOCK_GROUP_MODE (R190). LOCK GROUP with a new mode relocks the unlocked group and begins a mode-table write if the mode differs. -/
  | lockGroupMode (group : Byte) (mode : ProtectMode)
  /-- WRITE_SETTINGS (R191). The request checks a run of values for the unlocked group and begins a store write. -/
  | writeSettings (group first count : Byte) (values : List Half)
  /-- RESTART (R206). The request replies OK and arranges a warm start at the end of its reply. -/
  | restart
  /-- PLANT_SUPPLY_LOSS (R1). The plant supply is lost; every block stops, the backup domain alone is kept by the backup cell, and a store write in flight is cut short. -/
  | plantSupplyLoss
  /-- BACKUP_CELL_FAILURE (R1). The backup cell falls out of range while the plant supply is gone, breaking the backup domain's check marker so that the next start is cold. -/
  | backupCellFailure
  /-- LINK_BYTE_BEGINS (R196). A byte begins on the station link while the receiver is LISTENING or COLLECTING, starting a run or adding to the run being collected. -/
  | linkByteBegins (b : LineByte)
  /-- MODULE_REPLY_BYTE (R117). A byte of a module's reply begins within the window or during reception, moving the exchange from WINDOW to RECEIVING and adding to the bytes held. -/
  | moduleReplyByte (b : LineByte)
  deriving DecidableEq, Repr, Inhabited

end Sys2Proof
end

