-- ==== Sys2Proof/Decode.lean ====
section
/-! DEFINITION. The word form of commands. The table gives no row any bits, so no word spells a command: frames of the
station link are read by RUN_CLOSE (R197, R210), replies of the module bus by TURNAROUND_END (R118, R213). -/

namespace Sys2Proof

/-- The command a word spells by the table's bits: none, for every word. -/
def decodeTableWord (_nbits _w : Nat) : Option Instr := none

end Sys2Proof
end

