-- ==== Sys2Proof/Machine/Settings.lean ====
section
/-! DEFINITION. The setting tables of 10_setting_store.md (R183's tables): sizes, ranges and factory
defaults of the eight groups, and the alarm catalogue and default relay map of
09_alarms_notices_and_relay_outputs.md from which groups 5 and 6 take their defaults. -/

namespace Sys2Proof.Machine

/-- One row of a setting table: its range (`zeroOk` for "0, or a to b") and its default. -/
structure SettingRow where
  lo : Nat
  hi : Nat
  dflt : Nat
  zeroOk : Bool := false
  deriving DecidableEq, Repr, Inhabited

/-- Group 0, Identity. The ranges of indexes 0 to 7 are by character (`charsOk`); a space is 32. -/
def identityRows : List SettingRow :=
  List.replicate 8 ⟨8224, 32382, 8224, false⟩ ++
  [⟨22, 26, 24, false⟩, ⟨1, 4, 2, false⟩,
   ⟨50, 3000, 600, false⟩, ⟨50, 3000, 600, false⟩, ⟨50, 3000, 600, false⟩, ⟨50, 3000, 600, false⟩,
   ⟨100, 2000, 500, false⟩, ⟨1, 12, 6, false⟩, ⟨10, 100, 70, false⟩]

/-- Group 1, Charge. -/
def chargeRows : List SettingRow :=
  [⟨2150, 2350, 2270, false⟩, ⟨2200, 2450, 2350, false⟩, ⟨2200, 2500, 2400, false⟩,
   ⟨1750, 2000, 1900, false⟩, ⟨1800, 2050, 1940, false⟩, ⟨0, 60, 30, false⟩, ⟨0, 450, 300, false⟩,
   ⟨400, 600, 500, false⟩, ⟨250, 500, 400, false⟩, ⟨200, 400, 350, false⟩, ⟨80, 100, 95, false⟩,
   ⟨5, 25, 10, false⟩, ⟨1, 20, 3, false⟩, ⟨5, 50, 10, false⟩, ⟨1, 24, 8, false⟩,
   ⟨30, 365, 90, true⟩, ⟨60, 1440, 480, false⟩, ⟨50, 100, 80, false⟩]

/-- Group 2, Protection. -/
def protectionRows : List SettingRow :=
  [⟨1700, 1900, 1800, false⟩, ⟨5, 600, 30, false⟩, ⟨1950, 2250, 2150, false⟩, ⟨10, 600, 60, false⟩,
   ⟨1750, 2000, 1900, false⟩, ⟨5, 600, 60, false⟩, ⟨10, 80, 30, true⟩, ⟨1950, 2250, 2100, false⟩,
   ⟨5, 600, 30, false⟩, ⟨1900, 2150, 2000, false⟩, ⟨2300, 2600, 2450, false⟩, ⟨10, 1000, 50, false⟩,
   ⟨10, 1800, 120, false⟩, ⟨1, 60, 2, false⟩, ⟨10, 90, 60, false⟩]

/-- Group 3, Generator. The lower bound of index 25, the budget, is the working Rm (`settingInRange`). -/
def generatorRows : List SettingRow :=
  [⟨0, 1, 1, false⟩, ⟨0, 1, 1, false⟩, ⟨0, 240, 30, false⟩, ⟨0, 1, 1, false⟩, ⟨10, 80, 50, false⟩,
   ⟨50, 100, 90, false⟩, ⟨0, 1, 1, false⟩, ⟨1800, 2100, 1960, false⟩, ⟨10, 600, 60, false⟩,
   ⟨0, 1, 1, false⟩, ⟨0, 1, 1, false⟩, ⟨0, 60, 5, false⟩, ⟨3, 30, 8, false⟩, ⟨5, 120, 10, false⟩,
   ⟨1, 6, 3, false⟩, ⟨10, 600, 30, false⟩, ⟨0, 240, 20, false⟩, ⟨1, 72, 12, false⟩,
   ⟨0, 900, 180, false⟩, ⟨5, 120, 30, false⟩, ⟨0, 120, 10, false⟩, ⟨0, 240, 30, false⟩,
   ⟨30, 1440, 240, true⟩, ⟨5, 50, 25, false⟩, ⟨0, 20, 5, false⟩, ⟨0, 20000, 2000, false⟩,
   ⟨0, 1, 1, false⟩, ⟨0, 1, 1, false⟩, ⟨0, 7, 1, false⟩, ⟨0, 23, 10, false⟩, ⟨0, 59, 0, false⟩,
   ⟨5, 60, 15, false⟩, ⟨1, 72, 24, false⟩]

/-- Group 4, Rectifier. -/
def rectifierRows : List SettingRow :=
  [⟨50, 95, 80, false⟩, ⟨5, 30, 15, false⟩, ⟨0, 2, 1, false⟩, ⟨1, 12, 2, false⟩, ⟨1, 60, 5, false⟩,
   ⟨30, 3600, 300, false⟩, ⟨24, 720, 168, true⟩, ⟨0, 1000, 120, false⟩, ⟨5, 300, 30, false⟩,
   ⟨5, 120, 30, false⟩, ⟨10, 3600, 60, false⟩]

/-- One row of the alarm catalogue: severity (0 WARNING to 3 CRITICAL), latching, raise and clear delay. -/
structure CatalogueRow where
  severity : Nat
  latching : Nat
  raise : Nat
  clear : Nat
  deriving DecidableEq, Repr, Inhabited

/-- The alarm catalogue, codes 0 to 39. -/
def catalogue : List CatalogueRow :=
  [⟨2, 0, 0, 0⟩, ⟨3, 1, 5, 5⟩, ⟨2, 0, 10, 10⟩, ⟨3, 1, 0, 0⟩, ⟨3, 1, 0, 0⟩, ⟨2, 0, 0, 0⟩,
   ⟨2, 0, 0, 0⟩, ⟨0, 0, 0, 0⟩, ⟨2, 0, 0, 0⟩, ⟨2, 0, 0, 0⟩, ⟨2, 0, 0, 0⟩, ⟨2, 0, 0, 0⟩,
   ⟨2, 0, 30, 30⟩, ⟨1, 0, 0, 0⟩, ⟨0, 0, 0, 0⟩, ⟨1, 0, 0, 0⟩, ⟨1, 0, 0, 0⟩, ⟨2, 0, 0, 0⟩,
   ⟨1, 0, 0, 0⟩, ⟨2, 0, 0, 0⟩, ⟨3, 1, 5, 0⟩, ⟨2, 1, 0, 0⟩, ⟨3, 1, 0, 0⟩, ⟨2, 1, 0, 0⟩,
   ⟨0, 0, 0, 0⟩, ⟨1, 0, 0, 0⟩, ⟨2, 0, 0, 0⟩, ⟨2, 0, 0, 0⟩, ⟨1, 0, 0, 0⟩, ⟨2, 0, 0, 0⟩,
   ⟨1, 0, 0, 0⟩, ⟨0, 0, 0, 0⟩] ++
  List.replicate 8 ⟨1, 0, 0, 0⟩

/-- Group 5, Alarm: four settings for each code, then the lamp cadence and the hold limit. -/
def alarmRows : List SettingRow :=
  catalogue.flatMap (fun c =>
    [⟨0, 3, c.severity, false⟩, ⟨0, 1, c.latching, false⟩, ⟨0, 255, c.raise, false⟩,
     ⟨0, 255, c.clear, false⟩]) ++
  [⟨0, 3, 1, false⟩, ⟨10, 1440, 240, false⟩]

/-- Group 6, Relay map: the sum of 1, 2, 4, 8, 16, 32 for K1 to K6, by the default map of R176. -/
def relayDefaults : List Nat :=
  [10, 1, 2, 1, 1, 2, 2, 32, 2, 2, 2, 2, 2, 4, 32, 4, 4, 2, 4, 2, 1, 2, 1, 2, 16, 4, 2, 2, 4, 2, 4, 32,
   4, 4, 4, 4, 4, 4, 4, 4]

def relayRows : List SettingRow := relayDefaults.map fun d => ⟨0, 63, d, false⟩

/-- Group 7, Inputs and link. -/
def inputRows : List SettingRow :=
  List.replicate 8 ⟨0, 7, 0, false⟩ ++ List.replicate 8 ⟨0, 1, 0, false⟩ ++
  List.replicate 8 ⟨1, 255, 10, false⟩ ++ List.replicate 8 ⟨0, 3, 0, false⟩ ++
  [⟨0, 4, 1, false⟩, ⟨0, 4, 2, false⟩, ⟨0, 4, 0, false⟩, ⟨0, 4, 0, false⟩, ⟨0, 2, 0, false⟩]

/-- The eight groups' tables. -/
def settingTable : List (List SettingRow) :=
  [identityRows, chargeRows, protectionRows, generatorRows, rectifierRows, alarmRows, relayRows, inputRows]

/-- R182: the size of a group. -/
def groupSize (g : Nat) : Nat := (settingTable.getD g []).length

/-- The factory defaults of a group (R184). -/
def groupDefaults (g : Nat) : List Nat := (settingTable.getD g []).map SettingRow.dflt

/-- The factory defaults of all eight groups. -/
def allDefaults : List (List Nat) := (List.range 8).map groupDefaults

/-- Group 0, indexes 0 to 7: both characters of the value are 32 to 126. -/
def charsOk (v : Nat) : Bool :=
  let hi := v / 256
  let lo := v % 256
  decide (32 ≤ hi ∧ hi ≤ 126 ∧ 32 ≤ lo ∧ lo ≤ 126)

/-- R191 step 5: the value lies in its range. `rm` is the working module rating, which bounds the
generator budget from below (R192). -/
def settingInRange (rm g i v : Nat) : Bool :=
  let row := (settingTable.getD g []).getD i default
  if g = 0 ∧ i < 8 then charsOk v
  else if g = 3 ∧ i = 25 then decide (rm ≤ v ∧ v ≤ row.hi)
  else (row.zeroOk && v == 0) || decide (row.lo ≤ v ∧ v ≤ row.hi)

end Sys2Proof.Machine
end

