-- ==== Sys2Proof/Machine/State.lean ====
section
/-! DEFINITION. The state of the GPC-12, block by block, as plain data; the outcome types of a step; and the
state after reset. -/

namespace Sys2Proof.Machine

/-! ## Enumerated values (R214) -/

/-- R15. -/
inductive Mode where
  | mains | generator | battery | protect
  deriving DecidableEq, Repr, Inhabited

/-- R45. -/
inductive Stage where
  | discharge | bulk | absorb | float | equalize | test
  deriving DecidableEq, Repr, Inhabited

/-- R127. -/
inductive GenState where
  | idle | priming | cranking | crankRest | warmup | online | offload | cooldown | stopping | failed
  deriving DecidableEq, Repr, Inhabited

/-- The run basis (R129, R145). -/
inductive Basis where
  | mainsFail | accountLow | busLow | remote | exercise | manual
  deriving DecidableEq, Repr, Inhabited

/-- R137, R140, R141, R144, R151. -/
inductive StopReason where
  | mainsReturn | charged | remoteOff | duration | maxRun | manualStop | inhibit | fuelEmpty | notFitted
  | engineFault | engineLost | startFail | stopFail | reset
  deriving DecidableEq, Repr, Inhabited

/-- R144. -/
inductive FailReason where
  | startFail | stopFail | engineFault | engineLost
  deriving DecidableEq, Repr, Inhabited

/-- R87. -/
inductive SlotState where
  | absent | standby | starting | running | fault | lockout
  deriving DecidableEq, Repr, Inhabited

/-- R87, R101. -/
inductive Answering where
  | unknown | yes | no
  deriving DecidableEq, Repr, Inhabited

/-- R164. -/
inductive AlarmState where
  | idle | activeNew | activeSeen | goneUnseen
  deriving DecidableEq, Repr, Inhabited

/-- R4, R5, R7, R8. -/
inductive Validity where
  | valid | held | saturated | unusable | fallback | notFitted
  deriving DecidableEq, Repr, Inhabited

/-- Whether a fitted string's account is trusted (R22). NOT_FITTED is the absence of a record. -/
inductive Sync where
  | unsync | sync
  deriving DecidableEq, Repr, Inhabited

/-- R67, R68. -/
inductive TestOutcome where
  | pass | endVoltage | aborted
  deriving DecidableEq, Repr, Inhabited

/-- R108, R109. -/
inductive SwapOutcome where
  | completed | absorbed | noStop | abandoned
  deriving DecidableEq, Repr, Inhabited

/-- R107. -/
inductive SwapPhase where
  | starting | overlap
  deriving DecidableEq, Repr, Inhabited

/-- R175. -/
inductive NoticeKind where
  | alarmChange | modeChange | stageChange | genRunStart | genRunEnd | rotation | equalizeEnd | testEnd
  | inputEdge | settingWritten | start
  deriving DecidableEq, Repr, Inhabited

/-- R1. -/
inductive StartKind where
  | warm | cold
  deriving DecidableEq, Repr, Inhabited

/-- R1. -/
inductive StartCause where
  | supplyReturned | resetPin | restart
  deriving DecidableEq, Repr, Inhabited

/-- R18, R19. -/
inductive HoldCause where
  | request | key
  deriving DecidableEq, Repr, Inhabited

/-- R60. -/
inductive EqState where
  | none | pending | running | suspended
  deriving DecidableEq, Repr, Inhabited

/-- R72. -/
inductive ShedCause where
  | voltage | soc | both
  deriving DecidableEq, Repr, Inhabited

/-- R72. -/
inductive Contactor where
  | closed | opened
  deriving DecidableEq, Repr, Inhabited

/-- R158. -/
inductive ExState where
  | none | due | waiting
  deriving DecidableEq, Repr, Inhabited

/-- R158. -/
inductive ExOutcome where
  | served | counted | missed
  deriving DecidableEq, Repr, Inhabited

/-- R115. -/
inductive LinkState where
  | unheard | heard | lost
  deriving DecidableEq, Repr, Inhabited

/-- R115. -/
inductive Phase where
  | sending | window | receiving | turnaround
  deriving DecidableEq, Repr, Inhabited

/-- R196. -/
inductive Receiver where
  | listening | collecting | inHand | deaf
  deriving DecidableEq, Repr, Inhabited

/-- R199, numbered in R209. -/
inductive Result where
  | ok | clamped | refusedState | badField | badLength | unknownKind | locked | stale | storeBusy
  | noSnapshot
  deriving DecidableEq, Repr, Inhabited

/-! ## Measurement unit -/

/-- A string-current or thermistor channel (R5, R7): the presented reading, its validity, the count of
events it has been HELD, and the last valid reading unless forgotten at a start. -/
structure Channel where
  reading : Int
  validity : Validity
  held : Nat
  last : Option Int
  deriving DecidableEq, Repr, Inhabited

/-- A site input (R11): raw level, qualified state, and the persistence timer's elapsed time in 0.1 s while
it runs. -/
structure SiteInput where
  level : Bool
  active : Bool
  timer : Option Nat
  deriving DecidableEq, Repr, Inhabited

/-- The measurement unit (R3 to R14). Timers hold their elapsed time while they run; `lastFuel` is in the
backup domain (R8). -/
structure Meas where
  bus : Nat
  busValidity : Validity
  load : Nat
  loadValidity : Validity
  strings : List Channel
  therms : List Channel
  fuel : Nat
  fuelValidity : Validity
  lastFuel : Nat
  mainsSense : Bool
  mainsQualified : Bool
  mainsTimer : Option Nat
  genSense : Bool
  genPresent : Bool
  genTimer : Option Nat
  inputs : List SiteInput
  deriving DecidableEq, Repr, Inhabited

/-! ## Source supervisor -/

/-- An active maintenance hold (R18, R19): its cause and the seconds left to its expiry. -/
structure Hold where
  cause : HoldCause
  left : Nat
  deriving DecidableEq, Repr, Inhabited

/-- The source supervisor (R15 to R21), and the kind and cause of the last start (R203). -/
structure Sup where
  mode : Mode
  ac : Bool
  hold : Option Hold
  startKind : StartKind
  startCause : StartCause
  deriving DecidableEq, Repr, Inhabited

/-! ## Account unit -/

/-- The last test field (R40). -/
structure TestResult where
  outcome : TestOutcome
  endTime : Nat
  delivered : Nat
  minutes : Nat
  health : Option Nat
  deriving DecidableEq, Repr, Inhabited

/-- The last health field (R40). -/
structure HealthResult where
  health : Nat
  endTime : Nat
  deriving DecidableEq, Repr, Inhabited

/-- The record of a fitted string (R22). -/
structure StringRec where
  capacity : Nat
  account : Nat
  residue : Int
  sync : Sync
  baseline : Option Nat
  delivered : Option Nat
  lastTest : Option TestResult
  lastHealth : Option HealthResult
  deriving DecidableEq, Repr, Inhabited

/-- The account unit: four places, `none` for a string that is not fitted. Two marks are the model's own: `taken`, that
the unit has integrated the present measurement event (R34), and `halted`, that this event was raised in PROTECT (R81). -/
structure Acct where
  strings : List (Option StringRec)
  taken : Bool
  halted : Bool
  deriving DecidableEq, Repr, Inhabited

/-! ## Charge controller -/

/-- The equalize record (R60), in the backup domain. Remaining in seconds, duration in minutes. -/
structure EqRec where
  state : EqState
  remaining : Nat
  duration : Nat
  dayCount : Nat
  daysWaiting : Nat
  deriving DecidableEq, Repr, Inhabited

/-- The capacity-test record (R66). -/
structure TestRec where
  target : Nat
  acceptedAt : Nat
  elapsed : Nat
  deriving DecidableEq, Repr, Inhabited

/-- The charge controller (R45 to R71). -/
structure Charge where
  stage : Stage
  setpoint : Nat
  ibl : Nat
  tb : Int
  tc : Int
  latch : Bool
  absorbCount : Nat
  tailCount : Nat
  absorbTimer : Nat
  armed : Bool
  eq : EqRec
  test : Option TestRec
  deriving DecidableEq, Repr, Inhabited

/-! ## Protection unit -/

/-- The protection record (R72). -/
structure Prot where
  nel : Contactor
  shedCause : Option ShedCause
  shedCount : Nat
  nelCount : Nat
  bpd : Contactor
  disconnectCount : Nat
  bpdCount : Nat
  dischargeCount : Nat
  deriving DecidableEq, Repr, Inhabited

/-! ## Rectifier scheduler -/

/-- A module's last status with data (R97). -/
structure ModuleData where
  current : Nat
  temp : Int
  running : Bool
  limiting : Bool
  faultTemp : Bool
  faultOutput : Bool
  faultFan : Bool
  acFail : Bool
  deriving DecidableEq, Repr, Inhabited

/-- A slot record (R87's table). The commanded run follows from the state. -/
structure Slot where
  state : SlotState
  answering : Answering
  hours : Nat
  residue : Nat
  faults : Nat
  data : Option ModuleData
  lastChange : Nat
  startCount : Nat
  recovery : Nat
  deriving DecidableEq, Repr, Inhabited

/-- The swap record (R107). -/
structure Swap where
  incoming : Nat
  outgoing : Nat
  phase : SwapPhase
  overlap : Nat
  deriving DecidableEq, Repr, Inhabited

/-- The last swap record (R108). -/
structure LastSwap where
  incoming : Nat
  outgoing : Nat
  outcome : SwapOutcome
  endTime : Nat
  deriving DecidableEq, Repr, Inhabited

/-- The rectifier scheduler (R87 to R113). `requestFreed` is the model's mark that the hold under which the rotation
request was held has ended (R110). `upFormed` and `downFormed` are the two counts as last formed by steps 1 and 2 of R91;
n_up and n_down are these under the generator cap in force (`State.nUp`, `State.nDown`; R128). -/
structure Rect where
  slots : List Slot
  running : List Nat
  queue : List Nat
  fitted : Nat
  spacing : Nat
  dwell : Nat
  settle : Nat
  rotation : Nat
  rotationRequest : Bool
  requestFreed : Bool
  swap : Option Swap
  lastSwap : Option LastSwap
  upFormed : Nat
  downFormed : Nat
  im : Nat
  deriving DecidableEq, Repr, Inhabited

/-! ## Module bus controller -/

/-- A link record (R115). -/
structure LinkRec where
  state : LinkState
  misses : Nat
  goods : Nat
  repeated : Bool
  deriving DecidableEq, Repr, Inhabited

/-- The exchange in flight (R115 to R117). `orphan` marks an exchange whose slot was dropped while it ran
(R125). -/
structure Exchange where
  slot : Nat
  tag : Byte
  run : Bool
  setpoint : Nat
  limit : Nat
  phase : Phase
  bytes : List LineByte
  cut : Bool
  trailing : Bool
  orphan : Bool
  deriving DecidableEq, Repr, Inhabited

/-- The module bus controller (R114 to R126). -/
structure Bus where
  links : List (Option LinkRec)
  fitted : Nat
  tag : Byte
  exchange : Exchange
  deriving DecidableEq, Repr, Inhabited

/-! ## Generator controller -/

/-- The run in flight (07_generator_runs.md, introduction). `warmupEnd` is the moment of WARMUP end,
`runTime` the events since (R137); `durCount` the events since the duration's start moment. -/
structure Run where
  basis : Basis
  opening : Option Basis
  exMark : Bool
  load : Bool
  attempts : Nat
  warmupEnd : Option Nat
  runTime : Nat
  duration : Option Nat
  durCount : Option Nat
  tailMark : Bool
  stopReason : Option StopReason
  reachedOnline : Bool
  deriving DecidableEq, Repr, Inhabited

/-- A run record (R148). -/
structure RunRec where
  basis : Basis
  opening : Option Basis
  startTime : Nat
  warmupEnd : Option Nat
  stopTime : Option Nat
  stopReason : Option StopReason
  attempts : Nat
  fuelStart : Nat
  fuelStop : Option Nat
  reachedOnline : Bool
  deriving DecidableEq, Repr, Inhabited

/-- The generator controller (R127 to R151). `exercise` is the duration, in minutes, of an exercise held
as the EXERCISE cause (R147). -/
structure Gen where
  machine : GenState
  stateCount : Nat
  run : Option Run
  failReason : Option FailReason
  rearmMinutes : Nat
  rearmSeconds : Nat
  restCount : Nat
  stopHold : Option Nat
  mainsFailTimer : Option Nat
  spent : Bool
  busCount : Nat
  fuelLow : Bool
  fuelEmpty : Bool
  exercise : Option Nat
  log : List RunRec
  deriving DecidableEq, Repr, Inhabited

/-! ## Calendar -/

/-- A calendar date. -/
structure Date where
  year : Nat
  month : Nat
  day : Nat
  deriving DecidableEq, Repr, Inhabited

/-- The last exercise (R158). -/
structure LastExercise where
  date : Date
  outcome : ExOutcome
  deriving DecidableEq, Repr, Inhabited

/-- The calendar and exercise records (R152 to R163). Weekday 0 is MONDAY. `exDue` is the date of the due
moment (R161); `handAgain` says that an exercise owed across a start is still to be handed (R163). -/
structure Cal where
  year : Nat
  month : Nat
  day : Nat
  hour : Nat
  minute : Nat
  second : Nat
  weekday : Nat
  valid : Bool
  exState : ExState
  exDuration : Nat
  exWindow : Nat
  exDue : Date
  runMark : Bool
  missed : Bool
  last : Option LastExercise
  handAgain : Bool
  deriving DecidableEq, Repr, Inhabited

/-! ## Alarm unit -/

/-- An alarm record with its condition and qualification count (R164). Times are seconds since
2000-01-01 (R208). -/
structure AlarmRec where
  state : AlarmState
  occurrences : Nat
  firstRaised : Option Nat
  lastChange : Option Nat
  cond : Bool
  qual : Nat
  deriving DecidableEq, Repr, Inhabited

/-- A notice (R173). Subject and value are carried as the numbers of R214. -/
structure Notice where
  kind : NoticeKind
  subject : Nat
  value : Nat
  time : Nat
  deriving DecidableEq, Repr, Inhabited

/-- The alarm unit (R164 to R181). -/
structure Alarm where
  records : List AlarmRec
  notices : List Notice
  resync : Bool
  evaluated : Bool
  lampLit : Bool
  deriving DecidableEq, Repr, Inhabited

/-! ## Setting store -/

/-- The stored image of a group (R182): its values, and whether its check is good. -/
structure Image where
  values : List Nat
  good : Bool
  deriving DecidableEq, Repr, Inhabited

/-- One copy of the mode table (R186). -/
structure ModeCopy where
  modes : List ProtectMode
  good : Bool
  deriving DecidableEq, Repr, Inhabited

/-- The store write in flight (R193). -/
inductive StoreWrite where
  | group (g : Nat) (values : List Nat)
  | modeTable (g : Nat) (mode : ProtectMode)
  deriving DecidableEq, Repr, Inhabited

/-- The setting store (R182 to R195). `latched` holds the values in force for the rules that take a
completed write at the next measurement event; `fresh` the groups written since the last one. -/
structure Store where
  work : List (List Nat)
  latched : List (List Nat)
  fresh : List Nat
  images : List Image
  damaged : List Bool
  modes : List ProtectMode
  copyA : ModeCopy
  copyB : ModeCopy
  tableDamaged : Bool
  sealed : List Bool
  unlocked : Option Nat
  idle : Nat
  write : Option StoreWrite
  deriving DecidableEq, Repr, Inhabited

/-! ## Link unit -/

/-- The snapshot (R205): each table as the bytes in which it is read, and the age in seconds. -/
structure Snapshot where
  measure : List Byte
  strings : List (List Byte)
  slots : List (List Byte)
  alarms : List (List Byte)
  generator : List Byte
  age : Nat
  deriving DecidableEq, Repr, Inhabited

/-- The request in hand (R199): its kind, the result it was given, the data of its reply, and, for a read answered from
the snapshot, the age of the copy as it was read (R205, log 41). -/
structure InHand where
  kind : Byte
  result : Result
  data : List Byte
  age : Option Nat
  deriving DecidableEq, Repr, Inhabited

/-- The link unit (R196 to R207). `restartDue` says that the request in hand is a RESTART (R206). -/
structure Link where
  address : Nat
  strapFault : Bool
  rate : Nat
  receiver : Receiver
  run : List LineByte
  inHand : Option InHand
  reply : Option (List Byte)
  overrun : Bool
  snapshot : Option Snapshot
  restartDue : Bool
  deriving DecidableEq, Repr, Inhabited

/-- The whole part: the queue of waiting commands, the supply and the backup domain's check marker (R1),
and the twelve blocks. -/
structure State where
  pending : List Instr
  powered : Bool
  markerGood : Bool
  meas : Meas
  sup : Sup
  acct : Acct
  charge : Charge
  prot : Prot
  rect : Rect
  bus : Bus
  gen : Gen
  cal : Cal
  alarm : Alarm
  store : Store
  link : Link
  deriving DecidableEq, Repr

/-! ## Outcomes -/

/-- The reasons for which a step stops with a fault. There is none: the manual lets no command stop the
part. Nothing raises it, so it is neither safe nor unsafe. -/
inductive Fault where
  deriving DecidableEq, Repr

/-- The reasons for which a command is refused. -/
inductive Refusal where
  /-- Raised by an arm of `exec` whose command has no meaning yet; safe. No arm uses it. -/
  | notModelled (mnemonic : String)
  deriving DecidableEq, Repr

/-! ## Reset -/

/-- A string's record after a cold start with the default settings (R43). -/
def freshDefaultString : StringRec :=
  { capacity := 600, account := 42000, residue := 0, sync := .unsync, baseline := none, delivered := none,
    lastTest := none, lastHealth := none }

/-- A channel before the first measurement event (R3; named reading, log 7). -/
def blankChannel : Channel := { reading := 0, validity := .valid, held := 0, last := none }

/-- The channel of a string above the strings-fitted setting (R7). -/
def unfittedChannel : Channel := { reading := 0, validity := .notFitted, held := 0, last := none }

/-- A slot after a cold start (R113). -/
def blankSlot : Slot :=
  { state := .absent, answering := .unknown, hours := 0, residue := 0, faults := 0, data := none,
    lastChange := 0, startCount := 0, recovery := 0 }

/-- A link record after a start (R126). -/
def unheardLink : LinkRec := { state := .unheard, misses := 0, goods := 0, repeated := false }

/-- An alarm record after a cold start (R180), with the condition reported at the start. -/
def blankAlarm (cond : Bool) : AlarmRec :=
  { state := .idle, occurrences := 0, firstRaised := none, lastChange := none, cond := cond, qual := 0 }

/-- The machine right after reset: a cold start caused by the return of the plant supply, the stored images
holding the factory defaults, both straps in band 0 and every input pin inactive (log 8). -/
def State.reset : State :=
  { pending := []
    powered := true
    markerGood := true
    meas :=
      { bus := 0, busValidity := .valid, load := 0, loadValidity := .valid
        strings := [blankChannel, blankChannel, unfittedChannel, unfittedChannel]
        therms := List.replicate 4 blankChannel
        fuel := 0, fuelValidity := .held, lastFuel := 0
        mainsSense := false, mainsQualified := false, mainsTimer := none
        genSense := false, genPresent := false, genTimer := none
        inputs := List.replicate 8 { level := false, active := false, timer := none } }
    sup := { mode := .battery, ac := false, hold := none, startKind := .cold, startCause := .supplyReturned }
    acct := { strings := [some freshDefaultString, some freshDefaultString, none, none], taken := true, halted := false }
    charge :=
      { stage := .discharge, setpoint := 5412, ibl := 1200, tb := 300, tc := 300, latch := false
        absorbCount := 0, tailCount := 0, absorbTimer := 0, armed := false
        eq := { state := .none, remaining := 0, duration := 0, dayCount := 0, daysWaiting := 0 }
        test := none }
    prot :=
      { nel := .closed, shedCause := none, shedCount := 0, nelCount := 0, bpd := .closed
        disconnectCount := 0, bpdCount := 0, dischargeCount := 0 }
    rect :=
      { slots := List.replicate 12 blankSlot, running := [], queue := [], fitted := 6, spacing := 0
        dwell := 0, settle := 0, rotation := 0, rotationRequest := false, requestFreed := false, swap := none
        lastSwap := none, upFormed := 0, downFormed := 0, im := 500 }
    bus :=
      { links := List.replicate 6 (some unheardLink) ++ List.replicate 6 none, fitted := 6, tag := 0
        exchange :=
          { slot := 0, tag := 0, run := false, setpoint := 5412, limit := 500, phase := .sending, bytes := []
            cut := false, trailing := false, orphan := false } }
    gen :=
      { machine := .idle, stateCount := 0, run := none, failReason := none, rearmMinutes := 0
        rearmSeconds := 0, restCount := 0, stopHold := none, mainsFailTimer := some 0, spent := false
        busCount := 0, fuelLow := false, fuelEmpty := false, exercise := none, log := [] }
    cal :=
      { year := 2000, month := 1, day := 1, hour := 0, minute := 0, second := 0, weekday := 5, valid := false
        exState := .none, exDuration := 0, exWindow := 0, exDue := { year := 2000, month := 1, day := 1 }
        runMark := false, missed := false, last := none, handAgain := false }
    alarm :=
      { records := (List.range 40).map fun c => blankAlarm (c = 0 || c = 7 || c = 20 || c = 30)
        notices := [{ kind := .start, subject := 1, value := 0, time := 0 }]
        resync := false, evaluated := false, lampLit := true }
    store :=
      { work := allDefaults, latched := allDefaults, fresh := []
        images := allDefaults.map fun v => { values := v, good := true }
        damaged := List.replicate 8 false
        modes := List.replicate 8 .open_
        copyA := { modes := List.replicate 8 .open_, good := true }
        copyB := { modes := List.replicate 8 .open_, good := true }
        tableDamaged := false, sealed := List.replicate 8 false, unlocked := none, idle := 0, write := none }
    link :=
      { address := 0, strapFault := false, rate := 0, receiver := .deaf, run := [], inHand := none
        reply := none, overrun := false, snapshot := none, restartDue := false } }

end Sys2Proof.Machine
end

