-- ==== Sys2Proof/Machine/Operands.lean ====
section
/-! DEFINITION. How values cross the lines: the 16-bit check of R119, the field encodings of R208, and the
numbers of the enumerated values (R214). -/

namespace Sys2Proof.Machine

/-! ## The check (R119) -/

/-- One bit through the register: x^16 + x^12 + x^5 + 1, most significant bit first. -/
def checkBit (reg : Half) (bit : Bool) : Half :=
  if reg.msb != bit then (reg <<< 1) ^^^ 0x1021#16 else reg <<< 1

/-- One byte through the register, most significant bit first. -/
def checkByte (reg : Half) (b : Byte) : Half :=
  [7, 6, 5, 4, 3, 2, 1, 0].foldl (fun r i => checkBit r (b.getLsbD i)) reg

/-- R119: the check of a run of bytes, the register preset to 0x0001, nothing inverted at the end. -/
def check (bytes : List Byte) : Half := bytes.foldl checkByte 0x0001#16

/-! ## Field encodings (R208) -/

/-- `v` in `n` bytes, most significant byte first. -/
def bytesBE (n v : Nat) : List Byte :=
  (List.range n).map fun i => BitVec.ofNat 8 (v / 256 ^ (n - 1 - i))

/-- A whole number in a field of `n` bytes. What is sent for a value that does not fit is free
(`Config.unstatedByte`, log 12). -/
def field (n v : Nat) : List Byte :=
  if v < 256 ^ n then bytesBE n v else (List.range n).map (Config.unstatedByte n v)

/-- A signed number in two's complement. -/
def signedField (n : Nat) (v : Int) : List Byte :=
  if -(256 ^ n : Int) ≤ 2 * v ∧ 2 * v < (256 ^ n : Int) then bytesBE n (v % (256 ^ n : Int)).toNat
  else (List.range n).map (Config.unstatedByte n v.toNat)

/-- An absent field: every bit set. -/
def absentField (n : Nat) : List Byte := List.replicate n 0xFF#8

/-- A field that may be absent. -/
def optField (n : Nat) : Option Nat → List Byte
  | some v => field n v
  | none => absentField n

/-- A yes-or-no field. -/
def flagField (b : Bool) : List Byte := [if b then 1#8 else 0#8]

/-- The two bytes of a check or a setting value, high byte first. -/
def halfBytes (h : Half) : List Byte := bytesBE 2 h.toNat

/-- Two received bytes as a word, high byte first. -/
def wordOf (hi lo : Byte) : Half := hi ++ lo

/-- A byte as a signed number. -/
def signedOf (b : Byte) : Int := b.toInt

/-! ## Numbers of enumerated values (R214) -/

def Mode.code : Mode → Nat
  | .mains => 0 | .generator => 1 | .battery => 2 | .protect => 3

def Stage.code : Stage → Nat
  | .discharge => 0 | .bulk => 1 | .absorb => 2 | .float => 3 | .equalize => 4 | .test => 5

def GenState.code : GenState → Nat
  | .idle => 0 | .priming => 1 | .cranking => 2 | .crankRest => 3 | .warmup => 4 | .online => 5
  | .offload => 6 | .cooldown => 7 | .stopping => 8 | .failed => 9

def Basis.code : Basis → Nat
  | .mainsFail => 0 | .accountLow => 1 | .busLow => 2 | .remote => 3 | .exercise => 4 | .manual => 5

def StopReason.code : StopReason → Nat
  | .mainsReturn => 0 | .charged => 1 | .remoteOff => 2 | .duration => 3 | .maxRun => 4 | .manualStop => 5
  | .inhibit => 6 | .fuelEmpty => 7 | .notFitted => 8 | .engineFault => 9 | .engineLost => 10
  | .startFail => 11 | .stopFail => 12 | .reset => 13

def FailReason.code : FailReason → Nat
  | .startFail => 0 | .stopFail => 1 | .engineFault => 2 | .engineLost => 3

def SlotState.code : SlotState → Nat
  | .absent => 0 | .standby => 1 | .starting => 2 | .running => 3 | .fault => 4 | .lockout => 5

def Answering.code : Answering → Nat
  | .unknown => 0 | .yes => 1 | .no => 2

def AlarmState.code : AlarmState → Nat
  | .idle => 0 | .activeNew => 1 | .activeSeen => 2 | .goneUnseen => 3

def Validity.code : Validity → Nat
  | .valid => 0 | .held => 1 | .saturated => 2 | .unusable => 3 | .fallback => 4 | .notFitted => 5

def Sync.code : Sync → Nat
  | .unsync => 0 | .sync => 1

def TestOutcome.code : TestOutcome → Nat
  | .pass => 0 | .endVoltage => 1 | .aborted => 2

def SwapOutcome.code : SwapOutcome → Nat
  | .completed => 0 | .absorbed => 1 | .noStop => 2 | .abandoned => 3

def SwapPhase.code : SwapPhase → Nat
  | .starting => 0 | .overlap => 1

def NoticeKind.code : NoticeKind → Nat
  | .alarmChange => 0 | .modeChange => 1 | .stageChange => 2 | .genRunStart => 3 | .genRunEnd => 4
  | .rotation => 5 | .equalizeEnd => 6 | .testEnd => 7 | .inputEdge => 8 | .settingWritten => 9 | .start => 10

def StartKind.code : StartKind → Nat
  | .warm => 0 | .cold => 1

def StartCause.code : StartCause → Nat
  | .supplyReturned => 0 | .resetPin => 1 | .restart => 2

def HoldCause.code : HoldCause → Nat
  | .request => 0 | .key => 1

def EqState.code : EqState → Nat
  | .none => 0 | .pending => 1 | .running => 2 | .suspended => 3

def ShedCause.code : ShedCause → Nat
  | .voltage => 0 | .soc => 1 | .both => 2

def Contactor.code : Contactor → Nat
  | .closed => 0 | .opened => 1

def ExState.code : ExState → Nat
  | .none => 0 | .due => 1 | .waiting => 2

def ExOutcome.code : ExOutcome → Nat
  | .served => 0 | .counted => 1 | .missed => 2

/-- R209: the code of a result. -/
def Result.code : Result → Nat
  | .ok => 0 | .clamped => 1 | .refusedState => 2 | .badField => 3 | .badLength => 4 | .unknownKind => 5
  | .locked => 6 | .stale => 7 | .storeBusy => 8 | .noSnapshot => 9

/-- R211: the protect mode's number. -/
def modeCode : ProtectMode → Nat
  | .open_ => 0 | .keyed => 1 | .permanent => 2

end Sys2Proof.Machine
end

