-- ==== Sys2Proof/Machine/Ops.lean ====
section
/-! DEFINITION. The operations the blocks share: updating one block of the state, reading settings, calendar
stamps, posting notices (R173), and what each block reads of its neighbours. -/

namespace Sys2Proof.Machine

/-! ## Updating one block -/

def State.onMeas (s : State) (f : Meas → Meas) : State := { s with meas := f s.meas }
def State.onSup (s : State) (f : Sup → Sup) : State := { s with sup := f s.sup }
def State.onAcct (s : State) (f : Acct → Acct) : State := { s with acct := f s.acct }
def State.onCharge (s : State) (f : Charge → Charge) : State := { s with charge := f s.charge }
def State.onProt (s : State) (f : Prot → Prot) : State := { s with prot := f s.prot }
def State.onRect (s : State) (f : Rect → Rect) : State := { s with rect := f s.rect }
def State.onBus (s : State) (f : Bus → Bus) : State := { s with bus := f s.bus }
def State.onGen (s : State) (f : Gen → Gen) : State := { s with gen := f s.gen }
def State.onCal (s : State) (f : Cal → Cal) : State := { s with cal := f s.cal }
def State.onAlarm (s : State) (f : Alarm → Alarm) : State := { s with alarm := f s.alarm }
def State.onStore (s : State) (f : Store → Store) : State := { s with store := f s.store }
def State.onLink (s : State) (f : Link → Link) : State := { s with link := f s.link }

/-- The outcome of every command: a next state. -/
abbrev Out := Host.Outcome State Fault Refusal

/-- A command that acts only while the plant supply is present: with it gone every block stops (R1) and the
command finds no block to take it. -/
def whenPowered (s : State) (f : State → State) : Out := .next (if s.powered then f s else s)

/-- A count that runs to `limit` is due when the event being taken brings it there, or when it already
stands there (log 3). -/
def due (limit count : Nat) : Bool := decide (limit ≤ count + 1)

/-- What a block answers to a request: the result, the data its reply carries after the digest, and the age of the
snapshot it was read from, if it was (R205). -/
structure Answer where
  result : Result
  data : List Byte
  age : Option Nat := none
  deriving DecidableEq, Repr, Inhabited

/-- A request taken by its owner: the state after it and the answer. -/
abbrev Served := State × Answer

/-- OK with no data. -/
def Answer.ok : Answer := { result := .ok, data := [] }

/-- A refusal carries the result and the digest alone (R200). -/
def Answer.refuse (r : Result) : Answer := { result := r, data := [] }

/-- OK with data. -/
def Answer.give (bytes : List Byte) : Answer := { result := .ok, data := bytes }

/-! ## Settings -/

/-- The working value of setting `i` of group `g` (R182). -/
def State.now (s : State) (g i : Nat) : Nat := (s.store.work.getD g []).getD i 0

/-- The value in force for the rules that take a completed write at the next measurement event. -/
def State.inForce (s : State) (g i : Nat) : Nat := (s.store.latched.getD g []).getD i 0

/-- N, cells per string. -/
def State.cells (s : State) : Nat := s.inForce 0 8

/-- Strings fitted. -/
def State.stringsFitted (s : State) : Nat := s.inForce 0 9

/-- R2: the plant voltage, in 10 mV, of a setting in mV per cell. -/
def State.plantVoltage (s : State) (mvPerCell : Nat) : Nat := s.cells * mvPerCell / 10

/-! ## Calendar arithmetic (R152, R208) -/

/-- R152. -/
def daysInMonth (year month : Nat) : Nat :=
  if month = 2 then (if year % 4 = 0 then 29 else 28)
  else if month = 4 ∨ month = 6 ∨ month = 9 ∨ month = 11 then 30 else 31

/-- Days from 2000-01-01 to a date. -/
def dayNumber (year month day : Nat) : Nat :=
  365 * (year - 2000) + (year - 2000 + 3) / 4 +
    ((List.range (month - 1)).map fun j => daysInMonth year (j + 1)).sum + (day - 1)

/-- R208: the calendar time as seconds since 2000-01-01 00:00:00. -/
def Cal.stamp (c : Cal) : Nat :=
  dayNumber c.year c.month c.day * 86400 + c.hour * 3600 + c.minute * 60 + c.second

/-- The calendar time as it stands. -/
def State.stamp (s : State) : Nat := s.cal.stamp

/-- The date as it stands. -/
def Cal.date (c : Cal) : Date := { year := c.year, month := c.month, day := c.day }

/-! ## Notices (R173) -/

/-- R173: a notice joins the tail of the queue, or is discarded with the resync flag set when the queue is
full. -/
def post (kind : NoticeKind) (subject value : Nat) (s : State) : State :=
  s.onAlarm fun a =>
    if a.notices.length < Config.noticeCapacity then
      { a with notices := a.notices ++ [{ kind := kind, subject := subject, value := value, time := s.stamp }] }
    else { a with resync := true }

/-! ## What the blocks read of each other -/

/-- The generator machine is ONLINE. -/
def State.online (s : State) : Bool := s.gen.machine == .online

/-- String channel `i`, counted from 0. -/
def State.stringChannel (s : State) (i : Nat) : Channel := s.meas.strings.getD i blankChannel

/-- Whether a channel counts as measured: VALID or HELD (R52). -/
def Channel.measured (c : Channel) : Bool := c.validity == .valid || c.validity == .held

/-- The record of string `i`, counted from 0, or `none` when it is not fitted. -/
def State.stringRec (s : State) (i : Nat) : Option StringRec := (s.acct.strings.getD i none)

/-- The records of the fitted strings. -/
def State.fittedStrings (s : State) : List StringRec := s.acct.strings.filterMap id

/-- The fitted strings with their channels. A string counts as fitted while the account unit holds its record, so a
changed strings-fitted count shows from that unit's turn of the event (DESIGN CHOICE, log 21). -/
def State.fittedChannels (s : State) : List (StringRec × Channel) :=
  (List.range 4).filterMap fun i => (s.stringRec i).map fun r => (r, s.stringChannel i)

/-- The measured strings of R52: fitted, channel VALID or HELD. -/
def State.measuredStrings (s : State) : List (StringRec × Channel) :=
  s.fittedChannels.filter fun p => p.2.measured

/-- The battery current of R52 and R83, over the strings whose records the account unit holds (log 21). -/
def State.batteryCurrent (s : State) : Int := (s.measuredStrings.map fun p => p.2.reading).sum

/-- Amax in cAh. -/
def StringRec.amax (r : StringRec) : Nat := 100 * r.capacity

/-- R31: state of charge. -/
def StringRec.soc (r : StringRec) : Nat := r.account * 100 / r.amax

/-- R31: deficit. -/
def StringRec.deficit (r : StringRec) : Nat := r.amax - r.account

/-- Whether the account is trusted. -/
def StringRec.trusted (r : StringRec) : Bool := r.sync == .sync

/-- n_run: the length of the running list (R88). -/
def State.nRun (s : State) : Nat := s.rect.running.length

/-- Rm in force (group 0, index 14). -/
def State.rm (s : State) : Nat := s.inForce 0 14

/-- n_gen: generator budget ÷ Rm, truncated (R91); a write of either acts at its completion (R111). -/
def State.nGen (s : State) : Nat := s.now 3 25 / s.now 0 14

/-- A module count under the generator cap (R91 step 3), in force from the moment the machine enters ONLINE and no longer
once it has left (R128). -/
def State.capped (s : State) (n : Nat) : Nat := if s.online then min n s.nGen else n

/-- n_up and n_down (R91, R128). -/
def State.nUp (s : State) : Nat := s.capped s.rect.upFormed
def State.nDown (s : State) : Nat := s.capped s.rect.downFormed

/-- Slot `i` of the roster. -/
def State.slot (s : State) (i : Nat) : Slot := s.rect.slots.getD i blankSlot

/-- Quotient rounded up (00_scope.md, Arithmetic); 0 by a divisor of 0 cannot arise from settings in range. -/
def ceilDiv (n d : Nat) : Nat := (n + d - 1) / d

/-- R95: the per-module current limit. -/
def State.moduleLimit (s : State) : Nat :=
  if s.charge.stage = .test ∨ s.nRun = 0 then s.rm
  else min s.rm (ceilDiv (s.meas.load + s.charge.ibl) s.nRun)

/-- R95: Im is recomputed. -/
def recomputeIm (s : State) : State := s.onRect fun r => { r with im := s.moduleLimit }

/-! ## Site inputs and function states (R11, R13) -/

/-- Input `n`, counted from 0. -/
def State.input (s : State) (n : Nat) : SiteInput :=
  s.meas.inputs.getD n { level := false, active := false, timer := none }

/-- The function setting of input `n`. -/
def State.inputFunction (s : State) (n : Nat) : Nat := s.now 7 n

/-- R13: the function state of function code `f`: some input with that function is ACTIVE. -/
def State.functionActive (s : State) (f : Nat) : Bool :=
  (List.range 8).any fun n => s.inputFunction n == f && (s.input n).active

/-- Function codes of group 7. -/
abbrev fnAlarm : Nat := 1
abbrev fnKey : Nat := 2
abbrev fnInhibit : Nat := 3
abbrev fnRemote : Nat := 4
abbrev fnOil : Nat := 5
abbrev fnTemp : Nat := 6
abbrev fnFuelFloat : Nat := 7

/-- The engine-fault inputs (R141): oil pressure or engine temperature. -/
def State.engineFaultInput (s : State) : Bool := s.functionActive fnOil || s.functionActive fnTemp

end Sys2Proof.Machine
end

