-- ==== Sys2Proof/Machine/Alarm.lean ====
section
/-! DEFINITION. The alarm unit (09_alarms_notices_and_relay_outputs.md): records, qualification,
acknowledgement, and what follows from the records. -/

namespace Sys2Proof.Machine

/-! ## Records and their settings -/

/-- The record of code `c`. -/
def State.record (s : State) (c : Nat) : AlarmRec := s.alarm.records.getD c (blankAlarm false)

/-- Working severity, latching (R171: at the moment of completion). -/
def State.severity (s : State) (c : Nat) : Nat := s.now 5 (4 * c)
def State.latching (s : State) (c : Nat) : Bool := s.now 5 (4 * c + 1) == 1

/-- Delays in force (R171: from the first measurement event after the completion). -/
def State.raiseDelay (s : State) (c : Nat) : Nat := s.inForce 5 (4 * c + 2)
def State.clearDelay (s : State) (c : Nat) : Nat := s.inForce 5 (4 * c + 3)

/-- R164: the active states. -/
def AlarmState.isActive : AlarmState → Bool
  | .activeNew => true | .activeSeen => true | .idle => false | .goneUnseen => false

/-- R164: the unseen states. -/
def AlarmState.isUnseen : AlarmState → Bool
  | .activeNew => true | .goneUnseen => true | .idle => false | .activeSeen => false

/-- An inactive record with its condition true. -/
def AlarmRec.raising (r : AlarmRec) : Bool := !r.state.isActive && r.cond

/-- An active record with its condition false. -/
def AlarmRec.clearing (r : AlarmRec) : Bool := r.state.isActive && !r.cond

/-- R178: the lamp flashes while some record is unseen, once the table has been evaluated. -/
def Alarm.flashing (a : Alarm) : Bool := a.evaluated && a.records.any fun r => r.state.isUnseen

/-- Writing a record. A lamp that thereby begins to flash begins with a lit half (R178). -/
def Alarm.write (a : Alarm) (c : Nat) (r : AlarmRec) : Alarm :=
  let a' := { a with records := a.records.set c r }
  { a' with lampLit := if !a.flashing && a'.flashing then true else a.lampLit }

/-! ## Changes of a record (R167, R168, R170) -/

/-- A change of state: stamps the last-change time and posts ALARM_CHANGE (R172). -/
def changeRecord (c : Nat) (r : AlarmRec) (s : State) : State :=
  post .alarmChange c r.state.code
    (s.onAlarm fun a => a.write c { r with lastChange := some s.stamp })

/-- R167: a raise. -/
def raiseAlarm (c : Nat) (s : State) : State :=
  let r := s.record c
  changeRecord c
    { r with
      state := .activeNew
      occurrences := min 255 (r.occurrences + 1)
      firstRaised := if r.state = .idle then some s.stamp else r.firstRaised
      qual := 0 } s

/-- Back to IDLE, ending the episode. -/
def AlarmRec.toIdle (r : AlarmRec) : AlarmRec := { r with state := .idle, firstRaised := none }

/-- R167: a clear. -/
def clearAlarm (c : Nat) (s : State) : State :=
  let r := { s.record c with qual := 0 }
  changeRecord c
    (if r.state = .activeNew ∧ s.latching c then { r with state := .goneUnseen } else r.toIdle) s

/-- R166: with a delay of 0 a raising or clearing record is raised or cleared at the moment; before the first
evaluation no record changes (R179). -/
def settle (c : Nat) (s : State) : State :=
  let r := s.record c
  if !s.alarm.evaluated then s
  else if r.raising && s.raiseDelay c == 0 then raiseAlarm c s
  else if r.clearing && s.clearDelay c == 0 then clearAlarm c s
  else s

/-- R165: an owner's report of a condition. -/
def report (c : Nat) (v : Bool) (s : State) : State :=
  let r := s.record c
  settle c (s.onAlarm fun a =>
    a.write c { r with cond := v, qual := if r.cond = v then r.qual else 0 })

/-- R168: acknowledging one record. -/
def ackRecord (c : Nat) (s : State) : State :=
  let r := s.record c
  match r.state with
  | .activeNew => settle c (changeRecord c { r with state := .activeSeen } s)
  | .goneUnseen => settle c (changeRecord c r.toIdle s)
  | .idle => s
  | .activeSeen => s

/-- R170, R171: a GONE_UNSEEN record returns to IDLE. -/
def unlatchRecord (c : Nat) (s : State) : State :=
  let r := s.record c
  if r.state = .goneUnseen then settle c (changeRecord c r.toIdle s) else s

/-! ## The measurement event (R166, R179) -/

/-- R166 for one record. -/
def qualify (c : Nat) (s : State) : State :=
  let r := s.record c
  let n := min 255 (r.qual + 1)
  if r.raising then
    if s.raiseDelay c ≤ n then raiseAlarm c s else s.onAlarm fun a => a.write c { r with qual := n }
  else if r.clearing then
    if s.clearDelay c ≤ n then clearAlarm c s else s.onAlarm fun a => a.write c { r with qual := n }
  else s.onAlarm fun a => a.write c { r with qual := 0 }

/-- R179: at the first evaluation a GONE_UNSEEN record whose latching is off becomes IDLE. -/
def firstUnlatch (c : Nat) (s : State) : State := if s.latching c then s else unlatchRecord c s

/-- R179: the table is evaluated from now on. -/
def beginEvaluation (s : State) : State := s.onAlarm fun a => { a with evaluated := true, lampLit := true }

/-- The alarm unit takes a measurement event: records in ascending order of code (R166); the first one after a start
is the first evaluation, at which a record is freed of a latching that is off before it is qualified (DESIGN CHOICE,
log 55). -/
def alarmEvent (s : State) : State :=
  if s.alarm.evaluated then (List.range 40).foldl (fun s c => qualify c s) s
  else (List.range 40).foldl (fun s c => qualify c (firstUnlatch c s)) (beginEvaluation s)

/-! ## What follows from the records -/

/-- R172: 0 for none, else the highest severity among the unseen records plus 1 (the digest's numbers). -/
def State.highestUnseen (s : State) : Nat :=
  (List.range 40).foldl
    (fun m c => if (s.record c).state.isUnseen then max m (s.severity c + 1) else m) 0

/-! ## Alarm codes (the catalogue) -/

abbrev alMainsFail : Nat := 0
abbrev alBusHigh : Nat := 1
abbrev alBusLow : Nat := 2
abbrev alLoadShed : Nat := 3
abbrev alBatteryDisconnected : Nat := 4
abbrev alBatteryDischarge : Nat := 5
abbrev alAccountLow : Nat := 6
abbrev alAccountUnsync : Nat := 7
abbrev alStringFault : Nat := 8
abbrev alBattTempHigh : Nat := 12
abbrev alBattSensor : Nat := 13
abbrev alEqualizeOverdue : Nat := 14
abbrev alCapacityLow : Nat := 15
abbrev alRectFail : Nat := 16
abbrev alRectMultiFail : Nat := 17
abbrev alRectLost : Nat := 18
abbrev alRectShortfall : Nat := 19
abbrev alModuleBusFail : Nat := 20
abbrev alGenStartFail : Nat := 21
abbrev alGenStopFail : Nat := 22
abbrev alGenEngineFault : Nat := 23
abbrev alGenRunning : Nat := 24
abbrev alFuelLow : Nat := 25
abbrev alFuelEmpty : Nat := 26
abbrev alGenLockout : Nat := 27
abbrev alExerciseMissed : Nat := 28
abbrev alSettingsLost : Nat := 29
abbrev alClockLost : Nat := 30
abbrev alHoldActive : Nat := 31
abbrev alSiteInput : Nat := 32

end Sys2Proof.Machine
end

