-- ==== Sys2Proof/Machine/Account.lean ====
section
/-! DEFINITION. The account unit (02_the_charge_account.md): integration, resync, changes of settings,
capacity-test counts and results. -/

namespace Sys2Proof.Machine

/-- R36, R43: a fresh record from the capacity and the initial charge. -/
def freshString (capacity initial : Nat) : StringRec :=
  { capacity := capacity, account := 100 * capacity * initial / 100, residue := 0, sync := .unsync,
    baseline := none, delivered := none, lastTest := none, lastHealth := none }

/-- R23: the contribution of a current in dA, with `eta` the charge efficiency in percent. -/
def contribution (eta : Nat) (current : Int) : Int :=
  if 0 ≤ current then current * eta else current * 100

/-- R24, R25: adding a contribution, carrying whole cAh, and the two clamps. -/
def StringRec.integrate (r : StringRec) (q : Int) : StringRec :=
  let sum := r.residue + q
  let k := sum.tdiv 36000
  let a := (r.account : Int) + k
  if (r.amax : Int) < a then { r with account := r.amax, residue := 0 }
  else if a < 0 then { r with account := 0, residue := 0 }
  else { r with account := a.toNat, residue := sum - k * 36000 }

/-- R35: a changed capacity. The baseline and the delivered count of a test in flight stand (DESIGN CHOICE, log 49). -/
def StringRec.recapacity (r : StringRec) (capacity : Nat) : StringRec :=
  { r with capacity := capacity, account := min r.account (100 * capacity), residue := 0, sync := .unsync }

/-- R35, R36 for one place, `fits` saying whether the string is now fitted. The record is compared with the values in force
at the event, so a change that a second write has undone changes nothing (DESIGN CHOICE, log 48). -/
def refitString (fits : Bool) (capacity initial : Nat) : Option StringRec → Option StringRec
  | none => if fits then some (freshString capacity initial) else none
  | some r =>
    if fits then some (if r.capacity = capacity then r else r.recapacity capacity) else none

/-- R35 to R37: the records brought to the settings in force. -/
def refitStrings (s : State) : State :=
  s.onAcct fun a =>
    { a with strings := (List.range 4).map fun i =>
        refitString (decide (i < s.stringsFitted)) (s.inForce 0 (10 + i)) (s.inForce 0 16) (s.stringRec i) }

/-- Acting on every fitted string by its number, counted from 0. -/
def mapStrings (f : Nat → StringRec → StringRec) (s : State) : State :=
  s.onAcct fun a => { a with strings := (List.range 4).map fun i => (s.stringRec i).map (f i) }

/-- R23, R27 to R30, R81: what one measurement event does to the account of string `i`. The event at which the mode leaves
PROTECT is not integrated, whichever block takes it first. -/
def integrateString (s : State) (i : Nat) (r : StringRec) : StringRec :=
  match (s.stringChannel i).validity with
  | .unusable => { r with sync := .unsync }
  | .valid | .held =>
    if s.sup.mode = .protect ∨ s.acct.halted = true then r
    else r.integrate (contribution (s.inForce 1 10) (s.stringChannel i).reading)
  | .saturated | .fallback | .notFitted => r

/-- R39: the decrease of the account below the baseline, and 0 otherwise; a string newly fitted during the test has no
baseline to be below (DEDUCED, log 42). -/
def StringRec.decrease (r : StringRec) : Nat :=
  match r.baseline with
  | none => 0
  | some b => b - r.account

/-- R39: the delivered count of string `i`. -/
def countDelivered (s : State) (i : Nat) (r : StringRec) : StringRec :=
  if (s.stringChannel i).validity = .unusable then r else { r with delivered := some r.decrease }

/-- The account unit's work of a measurement event, once for the event: completed writes first (R22), then
the integration, then the test counts. -/
def accountIntegrate (s : State) : State :=
  if s.acct.taken then s
  else
    let s := refitStrings s
    let s := mapStrings (integrateString s) s
    let s := if s.charge.test.isSome then mapStrings (countDelivered s) s else s
    s.onAcct fun a => { a with taken := true }

/-- R33: the two conditions. -/
def accountReport (s : State) : State :=
  s |> report alAccountLow
        (s.fittedStrings.any fun r => r.trusted && decide (r.soc ≤ s.inForce 2 14))
    |> report alAccountUnsync (s.fittedStrings.any fun r => !r.trusted)

/-- R34: the full-charge signal. The event it names is integrated first. -/
def fullCharge (s : State) : State :=
  let s := accountIntegrate s
  mapStrings (fun i r =>
    if (s.stringChannel i).validity = .valid then
      { r with account := r.amax, residue := 0, sync := .sync }
    else r) s

/-- R38: a test has begun. -/
def beginCounts (s : State) : State :=
  mapStrings (fun _ r => { r with baseline := some r.account, delivered := some 0 }) s

/-- R40: the health a test measured. -/
def testHealth (outcome : TestOutcome) (capacity target delivered : Nat) : Option Nat :=
  match outcome with
  | .aborted => none
  | .pass | .endVoltage => some (min 100 (delivered * 100 / (capacity * target)))

/-- R40: the results of a test, written at its end. In a test every string has a count (R38, R39); one without, which no
run reaches, is taken as 0 (DEDUCED, log 42). -/
def StringRec.close (r : StringRec) (outcome : TestOutcome) (target minutes time : Nat) : StringRec :=
  let d := r.delivered.getD 0
  let h := testHealth outcome r.capacity target d
  { r with
    lastTest := some { outcome := outcome, endTime := time, delivered := d, minutes := minutes, health := h }
    lastHealth := match h with
      | some v => some { health := v, endTime := time }
      | none => r.lastHealth
    baseline := none
    delivered := none }

/-- R40. -/
def writeResults (outcome : TestOutcome) (target minutes : Nat) (s : State) : State :=
  mapStrings (fun _ r => r.close outcome target minutes s.stamp) s

/-- R41: a start ends the counts of a test in flight. -/
def clearCounts (s : State) : State :=
  mapStrings (fun _ r => { r with baseline := none, delivered := none }) s

/-- R29 outside the integration: a string made UNSYNC. -/
def makeUnsync (n : Nat) (s : State) : State :=
  mapStrings (fun i r => if i = n then { r with sync := .unsync } else r) s

/-- R43: a cold start's records. -/
def coldStrings (s : State) : State :=
  s.onAcct fun a =>
    { a with strings := (List.range 4).map fun i =>
        if i < s.stringsFitted then some (freshString (s.inForce 0 (10 + i)) (s.inForce 0 16)) else none }

end Sys2Proof.Machine
end

