-- ==== Sys2Proof/Machine/Charge.lean ====
section
/-! DEFINITION. The charge controller (03_charge_control.md): stages, setpoint, battery current limit,
equalize and the capacity test. -/

namespace Sys2Proof.Machine

/-! ## Setpoint (R55 to R57) -/

/-- A quotient rounded to the nearest whole number, halves away from zero (R56 step 1). -/
def roundHalfAway (n : Int) (d : Nat) : Int :=
  let q : Int := ((2 * n.natAbs + d) / (2 * d) : Nat)
  if n < 0 then -q else q

/-- R55: the cell value of a stage, in mV per cell. -/
def cellValue (s : State) : Stage → Nat
  | .discharge => s.inForce 1 0
  | .float => s.inForce 1 0
  | .bulk => s.inForce 1 1
  | .absorb => s.inForce 1 1
  | .equalize => s.inForce 1 2
  | .test => s.inForce 1 3

/-- R57: the ends of the alarm window, in 10 mV. -/
def windowLow (s : State) : Int := (s.plantVoltage (s.inForce 2 9) : Int) + 10
def windowHigh (s : State) : Int := (s.plantVoltage (s.inForce 2 10) : Int) - 10

/-- R57: the clamp to the window; a window whose ends cross gives its lower end. -/
def clampWindow (lo hi v : Int) : Int :=
  if hi < lo then lo else if hi < v then hi else if v < lo then lo else v

/-- R56: the compensated setpoint of a cell value at compensation temperature `tc`. -/
def compensated (s : State) (cell : Nat) (tc : Int) : Nat :=
  let comp := roundHalfAway ((s.cells : Int) * s.inForce 1 5 * (tc - 250)) 100
  let mv := (s.cells : Int) * cell - comp
  (clampWindow (windowLow s) (windowHigh s) ((mv + 5) / 10)).toNat

/-- The setpoint of a stage: R57 for TEST, R56 for every other. -/
def stageSetpoint (s : State) (stage : Stage) : Nat :=
  if stage = .test then s.plantVoltage (cellValue s .test) else compensated s (cellValue s stage) s.charge.tc

/-- R55: the setpoint is recomputed. -/
def recomputeSetpoint (s : State) : State :=
  s.onCharge fun c => { c with setpoint := stageSetpoint s s.charge.stage }

/-! ## Battery current limit (R58, R59) -/

/-- R58 step 1. -/
def chargeRateSum (s : State) : Nat :=
  ((s.fittedChannels.filter fun p => p.2.validity != .unusable).map fun p =>
    p.1.capacity * s.inForce 1 11 / 10).sum

/-- R58. -/
def batteryLimit (s : State) : Nat :=
  let whole := chargeRateSum s
  let derated := if (s.inForce 1 8 : Int) ≤ s.charge.tb then whole / 2 else whole
  if s.online then min derated (s.inForce 3 25 - s.meas.load) else derated

/-- R59: Ibl is recomputed. -/
def recomputeIbl (s : State) : State := s.onCharge fun c => { c with ibl := batteryLimit s }

/-! ## Changing stage -/

/-- The discharge count is discarded, and BATTERY_DISCHARGE with it (R83, log 33). -/
def dropDischargeCount (s : State) : State :=
  report alBatteryDischarge false (s.onProt fun p => { p with dischargeCount := 0 })

/-- R45: a change of stage posts its notice, discards the counts of the stages (R48, R51 to R54), and has the
setpoint, Ibl and Im recomputed (R55, R59, R95). At the entry to TEST the notice is posted before BATTERY_DISCHARGE is
reported false, which can post ALARM_CHANGE (DESIGN CHOICE, log 6). -/
def changeStage (new : Stage) (s : State) : State :=
  if s.charge.stage = new then s
  else
    let s := post .stageChange new.code s.charge.stage.code s
    let s := s.onCharge fun c =>
      { c with stage := new, absorbCount := 0, tailCount := 0, absorbTimer := 0, armed := false }
    let s := recomputeIm (recomputeIbl (recomputeSetpoint s))
    if new = .test then dropDischargeCount s else s

/-- R47: a rule that would move to BULK moves to FLOAT while the latch is set. -/
def bulkOrFloat (s : State) : Stage := if s.charge.latch then .float else .bulk

/-- R49: a string's rebulk level, in cAh. -/
def rebulkLevel (s : State) (r : StringRec) : Nat := r.amax * s.inForce 1 12 / 100

/-- A fitted SYNC string has a deficit at or above its rebulk level (R49, R54). -/
def rebulkTest (s : State) : Bool :=
  s.fittedStrings.any fun r => r.trusted && decide (rebulkLevel s r ≤ r.deficit)

/-- R49: the return test. -/
def returnTest (s : State) : Bool := (s.fittedStrings.any fun r => !r.trusted) || rebulkTest s

/-! ## Equalize (R60 to R65) -/

/-- R63: a RUNNING equalize becomes SUSPENDED with its remainder. -/
def suspendEqualize (s : State) : State :=
  if s.charge.eq.state = .running then
    s.onCharge fun c => { c with eq := { c.eq with state := .suspended } }
  else s

/-- R60: the interval test. -/
def intervalTest (s : State) : State :=
  if s.inForce 1 15 ≠ 0 ∧ s.inForce 1 15 ≤ s.charge.eq.dayCount ∧ s.charge.eq.state = .none then
    s.onCharge fun c => { c with eq := { c.eq with state := .pending, daysWaiting := 0 } }
  else s

/-- R65: EQUALIZE_OVERDUE. -/
def reportOverdue (s : State) : State :=
  report alEqualizeOverdue
    ((s.charge.eq.state == .pending || s.charge.eq.state == .suspended) &&
      decide (14 < s.charge.eq.daysWaiting)) s

/-- R60, R65: a day-boundary event. -/
def chargeDayBoundary (s : State) : State :=
  let s := s.onCharge fun c =>
    { c with eq := { c.eq with
        dayCount := min 65535 (c.eq.dayCount + 1)
        daysWaiting :=
          if c.eq.state = .pending ∨ c.eq.state = .suspended then min 65535 (c.eq.daysWaiting + 1)
          else c.eq.daysWaiting } }
  reportOverdue (intervalTest s)

/-- R61: a pending or suspended equalize begins when its four conditions hold. -/
def equalizeBegin (s : State) : State :=
  if s.charge.stage = .float ∧ s.sup.mode = .mains ∧ s.sup.hold = none ∧
      s.charge.tb < (s.inForce 1 9 : Int) then
    match s.charge.eq.state with
    | .pending =>
      changeStage .equalize (s.onCharge fun c =>
        { c with eq := { c.eq with
            state := .running, duration := s.inForce 1 16, remaining := s.inForce 1 16 * 60 } })
    | .suspended =>
      changeStage .equalize (s.onCharge fun c => { c with eq := { c.eq with state := .running } })
    | .none => s
    | .running => s
  else s

/-- The record after a completion or a stop (R62, R64). -/
def EqRec.ended (e : EqRec) : EqRec :=
  { e with state := .none, remaining := 0, duration := 0, dayCount := 0, daysWaiting := 0 }

/-- R62: completion. STAGE_CHANGE is posted before EQUALIZE_END (DESIGN CHOICE, log 6). -/
def equalizeDone (s : State) : State :=
  let minutes := s.charge.eq.duration
  let s := changeStage .float s
  post .equalizeEnd 0 minutes (s.onCharge fun c => { c with eq := c.eq.ended })

/-- R64: EQUALIZE START. -/
def serveEqualizeStart (s : State) : Served :=
  if s.charge.eq.state = .none then
    (s.onCharge fun c => { c with eq := { c.eq with state := .pending, daysWaiting := 0 } }, .ok)
  else (s, .ok)

/-- R64: EQUALIZE STOP. -/
def serveEqualizeStop (s : State) : Served :=
  match s.charge.eq.state with
  | .none => (s.onCharge fun c => { c with eq := { c.eq with dayCount := 0 } }, .ok)
  | .pending => (post .equalizeEnd 1 0 (s.onCharge fun c => { c with eq := c.eq.ended }), .ok)
  | .running =>
    (post .equalizeEnd 1 (s.charge.eq.remaining / 60)
      ((changeStage .float s).onCharge fun c => { c with eq := c.eq.ended }), .ok)
  | .suspended =>
    (post .equalizeEnd 1 (s.charge.eq.remaining / 60)
      (s.onCharge fun c => { c with eq := c.eq.ended }), .ok)

/-! ## Capacity test (R66 to R69) -/

/-- R69: the end of a test in flight, with the stage that follows it. The whole minutes are those of the elapsed count
(DESIGN CHOICE, log 43), and TEST_END is posted before STAGE_CHANGE (DESIGN CHOICE, log 6). -/
def endTest (outcome : TestOutcome) (next : Stage) (s : State) : State :=
  match s.charge.test with
  | none => s
  | some t =>
    let s := writeResults outcome t.target (t.elapsed / 60) s
    let s := post .testEnd outcome.code (t.elapsed / 60) s
    changeStage next (s.onCharge fun c => { c with test := none })

/-- R67: the test is judged when the account unit hands over the event's delivered counts. -/
def judgeTest (s : State) : State :=
  match s.charge.test with
  | none => s
  | some t =>
    let s := s.onCharge fun c => { c with test := some { t with elapsed := t.elapsed + 1 } }
    if s.fittedStrings.all fun r => decide (r.delivered.any fun d => r.capacity * t.target ≤ d) then
      endTest .pass (bulkOrFloat s) s
    else if s.meas.bus ≤ s.plantVoltage (s.inForce 1 4) then endTest .endVoltage (bulkOrFloat s) s
    else s

/-- R68: a measurement event at which a fitted string is UNSYNC ends the test. -/
def abortIfUnsync (s : State) : State :=
  if s.fittedStrings.any fun r => !r.trusted then endTest .aborted (bulkOrFloat s) s else s

/-- R66: the target asked for, or none if the request is refused BAD_FIELD. -/
def testTarget (target : Nat) : Option Nat :=
  if target = 0 then some 40 else if 10 ≤ target ∧ target ≤ 80 then some target else none

/-- R66: CAPACITY TEST START. -/
def serveTestStart (target : Nat) (s : State) : Served :=
  match testTarget target with
  | none => (s, .refuse .badField)
  | some t =>
    if s.charge.stage = .float ∧ s.sup.mode = .mains ∧ s.fittedStrings.all StringRec.trusted ∧
        s.charge.eq.state ≠ .running ∧ s.charge.eq.state ≠ .suspended then
      let s := s.onCharge fun c => { c with test := some { target := t, acceptedAt := s.stamp, elapsed := 0 } }
      (changeStage .test (beginCounts s), .ok)
    else (s, .refuse .refusedState)

/-- R68: CAPACITY TEST ABORT. -/
def serveTestAbort (s : State) : Served :=
  if s.charge.test.isSome then (endTest .aborted (bulkOrFloat s) s, .ok) else (s, .refuse .refusedState)

/-! ## Change of the plant mode (R48 to R50) -/

/-- The charge controller takes a change of the plant mode from `old` to the mode now in force. -/
def chargeModeChange (old : Mode) (s : State) : State :=
  match s.sup.mode with
  | .battery | .protect =>
    recomputeIbl (changeStage .discharge (endTest .aborted .discharge (suspendEqualize s)))
  | .mains =>
    match old with
    | .battery => recomputeIbl (changeStage (if returnTest s then bulkOrFloat s else .float) s)
    | .protect => recomputeIbl (changeStage (bulkOrFloat s) s)
    | .mains | .generator => recomputeIbl s
  | .generator =>
    match old with
    | .battery => recomputeIbl (changeStage (if returnTest s then bulkOrFloat s else .float) s)
    | .protect => recomputeIbl (changeStage (bulkOrFloat s) s)
    | .generator => recomputeIbl s
    | .mains =>
      match s.charge.stage with
      | .equalize => recomputeIbl (changeStage .float (suspendEqualize s))
      | .test => recomputeIbl (endTest .aborted (bulkOrFloat s) s)
      | .discharge | .bulk | .absorb | .float => recomputeIbl s

/-! ## The measurement event -/

/-- The strings thermistor `t` serves: its assignment, in force, when that string is fitted (R6). -/
def thermistorAssigned (s : State) (t : Nat) : Bool :=
  let a := s.inForce 7 (32 + t)
  decide (1 ≤ a ∧ a ≤ s.stringsFitted)

/-- Thermistor channel `t`. -/
def State.therm (s : State) (t : Nat) : Channel := s.meas.therms.getD t blankChannel

/-- The larger of a reading and the readings before it. -/
def warmer : Option Int → Int → Option Int
  | none, x => some x
  | some y, x => some (max y x)

/-- R46: the warmest presented reading among assigned thermistors that are VALID or HELD. -/
def warmest (s : State) : Option Int :=
  (List.range 4).foldl (fun w t =>
    if thermistorAssigned s t && (s.therm t).measured then warmer w (s.therm t).reading else w) none

/-- R46: Tc is Tb clamped to 0 to 450. -/
def compTemp (tb : Int) : Int := max 0 (min 450 tb)

/-- R46: Tb, Tc and BATT_TEMP_HIGH. -/
def formTemps (s : State) : State :=
  let tb := (warmest s).getD (s.inForce 1 6)
  report alBattTempHigh ((warmest s).any fun w => decide ((s.inForce 1 7 : Int) ≤ w))
    (s.onCharge fun c => { c with tb := tb, tc := compTemp tb })

/-- R51: the absorb entry level, in 10 mV. -/
def absorbLevel (s : State) : Int := (compensated s (cellValue s .bulk) s.charge.tc : Int) - 5

/-- R52: the tail current, in dA. -/
def tailCurrent (s : State) : Nat :=
  (s.measuredStrings.map fun p => p.1.capacity).sum * s.inForce 1 13 / 100

/-- R52: the tail report to the generator controller, which sets the tail mark of a run in progress (R138). -/
def reportTail (s : State) : State :=
  if s.gen.machine = .idle ∨ s.gen.machine = .failed then s
  else s.onGen fun g => { g with run := g.run.map fun r => { r with tailMark := true } }

/-- R52: the tail exit. -/
def tailExit (s : State) : State := changeStage .float (reportTail (fullCharge s))

/-- R51 at a measurement event in BULK. -/
def bulkWork (hot : Bool) (s : State) : State :=
  let n := if absorbLevel s ≤ s.meas.bus then s.charge.absorbCount + 1 else 0
  if hot then changeStage .float s
  else if 60 ≤ n then changeStage .absorb s
  else s.onCharge fun c => { c with absorbCount := n }

/-- R52: the tail test of one event. -/
def tailTest (s : State) : Bool :=
  !s.measuredStrings.isEmpty && decide (s.batteryCurrent ≤ (tailCurrent s : Int)) &&
    decide (absorbLevel s ≤ s.meas.bus)

/-- R52, R53 at a measurement event in ABSORB. -/
def absorbWork (hot : Bool) (s : State) : State :=
  let n := if tailTest s then s.charge.tailCount + 1 else 0
  let t := s.charge.absorbTimer + 1
  if 600 ≤ n then tailExit s
  else if hot then changeStage .float s
  else if s.inForce 1 14 * 3600 ≤ t then changeStage .float s
  else s.onCharge fun c => { c with tailCount := n, absorbTimer := t }

/-- R47, R54, R61 at a measurement event in FLOAT; `cooled` says that this event cleared the latch. -/
def floatWork (cooled : Bool) (s : State) : State :=
  if cooled && returnTest s then changeStage .bulk s
  else if s.charge.latch then equalizeBegin s
  else if s.charge.armed && rebulkTest s then changeStage .bulk s
  else equalizeBegin (s.onCharge fun c => { c with armed := c.armed || !rebulkTest s })

/-- R62, R63 at a measurement event in EQUALIZE. -/
def equalizeWork (s : State) : State :=
  if s.charge.eq.remaining ≤ 1 then equalizeDone s
  else
    let s := s.onCharge fun c => { c with eq := { c.eq with remaining := c.eq.remaining - 1 } }
    if (s.inForce 1 9 : Int) ≤ s.charge.tb then changeStage .float (suspendEqualize s) else s

/-- The stage's own work at a measurement event. -/
def stageWork (hot cooled : Bool) (s : State) : State :=
  match s.charge.stage with
  | .bulk => bulkWork hot s
  | .absorb => absorbWork hot s
  | .float => floatWork cooled s
  | .equalize => equalizeWork s
  | .discharge => s
  | .test => s

/-- R69: CAPACITY_LOW. -/
def reportCapacityLow (s : State) : State :=
  report alCapacityLow
    (s.fittedStrings.any fun r => r.lastHealth.any fun h => decide (h.health < s.inForce 1 17)) s

/-- The charge controller takes a measurement event (log 16 for the order of its own work). The latch stands as this event
leaves it before a test is aborted, so that the stage after the test follows R47. -/
def chargeEvent (s : State) : State :=
  let s := formTemps s
  let s := if s.store.fresh.contains 1 then intervalTest s else s
  let stage := s.charge.stage
  let hot := decide ((s.inForce 1 7 : Int) ≤ s.charge.tb)
  let cool := decide (s.charge.tb ≤ (s.inForce 1 7 : Int) - 50)
  let newlyHot := hot && !s.charge.latch
  let cooled := cool && s.charge.latch
  let s := s.onCharge fun c =>
    { c with latch := hot || (c.latch && !cool), armed := c.armed && !newlyHot }
  let s := recomputeSetpoint (abortIfUnsync s)
  let s := if s.charge.stage = stage then stageWork newlyHot cooled s else s
  reportCapacityLow (reportOverdue (recomputeIbl s))

end Sys2Proof.Machine
end

