-- ==== Sys2Proof/Machine/Rectifier.lean ====
section
/-! DEFINITION. The rectifier scheduler (05_rectifier_roster_and_rotation.md). -/

namespace Sys2Proof.Machine

/-! ## Roster, running list and standby queue (R87, R88) -/

/-- Acting on the record of slot `i`. -/
def onSlot (i : Nat) (f : Slot → Slot) (s : State) : State :=
  s.onRect fun r => { r with slots := r.slots.modify i f }

/-- The run hours of slot `i`. -/
def State.hours (s : State) (i : Nat) : Nat := (s.slot i).hours

/-- R88: `i` stands before `j` in the standby queue. -/
def queueBefore (s : State) (i j : Nat) : Bool :=
  decide (s.hours i < s.hours j ∨ (s.hours i = s.hours j ∧ i < j))

/-- R88: joining the standby queue at the place the run hours give. -/
def queueInsert (s : State) (i : Nat) : List Nat → List Nat
  | [] => [i]
  | j :: rest => if queueBefore s i j then i :: j :: rest else j :: queueInsert s i rest

/-- R87: whether the commanded run of a slot in this state is on; these slots form the running list. -/
def SlotState.commanded : SlotState → Bool
  | .starting => true | .running => true
  | .absent => false | .standby => false | .fault => false | .lockout => false

/-- The running list with slot `i` in state `new`. -/
def placeRunning (i : Nat) (new : SlotState) (running : List Nat) : List Nat :=
  if new.commanded then (if running.contains i then running else running ++ [i]) else running.erase i

/-- The standby queue with slot `i` in state `new`. -/
def placeQueue (s : State) (i : Nat) (new : SlotState) (queue : List Nat) : List Nat :=
  if new = .standby then queueInsert s i (queue.erase i) else queue.erase i

/-- The numbers of the fitted slots. -/
def State.fittedSlots (s : State) : List Nat := List.range s.rect.fitted

/-- R102: the number of fitted slots in FAULT. -/
def faultCount (s : State) : Nat := (s.fittedSlots.filter fun i => (s.slot i).state == .fault).length

/-- R102: RECT_FAIL and RECT_MULTI_FAIL. -/
def reportFaults (s : State) : State :=
  s |> report alRectFail (faultCount s == 1) |> report alRectMultiFail (decide (2 ≤ faultCount s))

/-- R101: RECT_LOST. -/
def reportLost (s : State) : State :=
  report alRectLost (s.fittedSlots.any fun i => (s.slot i).answering == .no) s

/-- R87: slot `i` takes state `new`: its place, its last change, its counts; a slot that becomes ABSENT holds no
status (R101, log 13). Im follows a change of n_run (R95), the conditions the change of state (R102). -/
def changeSlot (i : Nat) (new : SlotState) (s : State) : State :=
  if (s.slot i).state = new then s
  else
    let n := s.nRun
    let s := s.onRect fun r =>
      { r with
        slots := r.slots.modify i fun x =>
          { x with
            state := new, lastChange := s.stamp, startCount := 0, recovery := 0
            data := if new = .absent then none else x.data }
        running := placeRunning i new r.running
        queue := placeQueue s i new r.queue }
    let s := if s.nRun = n then s else recomputeIm s
    reportFaults s

/-! ## Ending a swap (R108, R109) -/

/-- R108, R110: a held rotation request is dropped or used. -/
def Rect.dropRequest (r : Rect) : Rect := { r with rotationRequest := false, requestFreed := false }

/-- R108: the record is cleared, the last swap written, the counter restarted unless ABANDONED, a held
rotation request dropped, and ROTATION posted. -/
def endSwap (outcome : SwapOutcome) (s : State) : State :=
  match s.rect.swap with
  | none => s
  | some w =>
    post .rotation w.incoming outcome.code
      (s.onRect fun r =>
        { r.dropRequest with
          swap := none
          lastSwap := some
            { incoming := w.incoming, outgoing := w.outgoing, outcome := outcome, endTime := s.stamp }
          rotation := if outcome = .abandoned then r.rotation else 0 })

/-- R109: slot `i` goes to FAULT, LOCKOUT or ABSENT, or is dropped. -/
def leaveSwap (i : Nat) (s : State) : State :=
  match s.rect.swap with
  | none => s
  | some w =>
    if w.incoming = i then endSwap .abandoned s
    else if w.outgoing = i then endSwap .noStop s
    else s

/-! ## Faults, module status and presence (R97 to R101) -/

/-- R98: every entry to FAULT. -/
def enterFault (i : Nat) (s : State) : State :=
  leaveSwap i (onSlot i (fun x => { x with faults := min 255 (x.faults + 1) }) (changeSlot i .fault s))

/-- R96: AC is settled. -/
def State.settled (s : State) : Bool := s.sup.ac && s.rect.settle == 10

/-- R98: a counting fault. -/
def countingFault (s : State) (d : ModuleData) : Bool :=
  d.faultTemp || d.faultOutput || d.faultFan || (d.acFail && s.settled)

/-- R108: the incoming slot becomes RUNNING. -/
def swapIncomingRuns (i : Nat) (s : State) : State :=
  s.onRect fun r =>
    { r with swap := r.swap.map fun w => if w.incoming = i then { w with phase := .overlap, overlap := 0 } else w }

/-- R108: the incoming slot falls back to STARTING. -/
def swapIncomingFalls (i : Nat) (s : State) : State :=
  s.onRect fun r =>
    { r with swap := r.swap.map fun w => if w.incoming = i then { w with phase := .starting, overlap := 0 } else w }

/-- R97: a status with data for slot `i`. -/
def takeStatus (i : Nat) (d : ModuleData) (s : State) : State :=
  let old := (s.slot i).state
  if s.rect.fitted ≤ i ∨ old = .absent then s
  else
    let s := onSlot i (fun x => { x with data := some d }) s
    if countingFault s d then
      match old with
      | .standby | .starting | .running => enterFault i s
      | .fault => onSlot i (fun x => { x with recovery := 0 }) s
      | .lockout | .absent => s
    else
      match old with
      | .starting => if d.running then swapIncomingRuns i (changeSlot i .running s) else s
      | .running => if d.running then s else swapIncomingFalls i (changeSlot i .starting s)
      | .absent | .standby | .fault | .lockout => s

/-- R101: a lost report. -/
def takeLost (i : Nat) (s : State) : State :=
  let s := onSlot i (fun x => { x with answering := .no }) s
  let s :=
    match (s.slot i).state with
    | .standby | .starting | .running | .fault => leaveSwap i (changeSlot i .absent s)
    | .absent | .lockout => s
  reportLost s

/-- R101: a found report. A slot in LOCKOUT keeps its state, and with it the data of its last status (DESIGN CHOICE,
log 58). -/
def takeFound (i : Nat) (s : State) : State :=
  let s := onSlot i (fun x => { x with answering := .yes }) s
  let s := if (s.slot i).state = .absent then changeSlot i .standby s else s
  reportLost s

/-! ## AC available and the generator cap (R94, R96) -/

/-- R96: AC available becomes false. -/
def acLost (s : State) : State :=
  let s := endSwap .abandoned s
  report alRectShortfall false (s.rect.running.foldl (fun s i => changeSlot i .standby s) s)

/-- R96: AC available becomes true. -/
def acGained (s : State) : State :=
  s.onRect fun r => { r with spacing := s.inForce 4 4, dwell := 0, settle := 0 }

/-- The slot of a list with the most run hours, the later one between equal hours (R93). -/
def mostHours (s : State) (l : List Nat) : Option Nat :=
  l.foldl (fun best i =>
    match best with
    | none => some i
    | some b => if s.hours b ≤ s.hours i then some i else some b) none

/-- R93: the slot to stop is stopped. -/
def stopOne (s : State) : State :=
  match mostHours s s.rect.running with
  | none => s
  | some i => changeSlot i .standby s

/-- R94: while the generator machine is ONLINE, slots are stopped down to n_gen; a swap is abandoned first, at the entry to
ONLINE and, read from "in the same way", at a completed write too (DEDUCED, log 60). -/
def trimToGen (s : State) : State :=
  if s.online ∧ s.nGen < s.nRun then
    let s := endSwap .abandoned s
    (List.range (s.nRun - s.nGen)).foldl (fun s _ => stopOne s) s
  else s

/-! ## The module count (R90, R91) -/

/-- R90: the demand, in dA. -/
def demand (s : State) : Nat :=
  s.meas.load +
    match s.charge.stage with
    | .bulk => s.charge.ibl
    | .absorb | .float | .equalize => s.batteryCurrent.toNat
    | .test | .discharge => 0

/-- R90: the working capacity and the low working capacity of one module. -/
def capacityHigh (s : State) : Nat := s.rm * s.inForce 4 0 / 100
def capacityLow (s : State) : Nat := s.rm * (s.inForce 4 0 - s.inForce 4 1) / 100

/-- R91: the available count. -/
def availableCount (s : State) : Nat :=
  (s.fittedSlots.filter fun i =>
    (s.slot i).state == .standby || (s.slot i).state == .starting || (s.slot i).state == .running).length

/-- R91 step 1: the raw count raised to n_min. -/
def raisedCount (s : State) (c : Nat) : Nat := max (ceilDiv (demand s) c + s.inForce 4 2) (s.inForce 4 3)

/-- R91 step 2. -/
def loweredCount (s : State) (n : Nat) : Nat := min n (availableCount s)

def upCount (s : State) : Nat := loweredCount s (raisedCount s (capacityHigh s))
def downCount (s : State) : Nat := loweredCount s (raisedCount s (capacityLow s))

/-- R91: RECT_SHORTFALL. -/
def shortfall (s : State) : Bool := s.sup.ac && decide (s.capped (upCount s) < raisedCount s (capacityHigh s))

/-! ## Starts, stops and swaps (R92, R93, R106 to R110) -/

/-- R92: the head of the standby queue is started. -/
def startHead (s : State) : State :=
  match s.rect.queue with
  | [] => s
  | i :: _ => (changeSlot i .starting s).onRect fun r => { r with spacing := 0, dwell := 0 }

/-- R106: the rotation is due. -/
def rotationIsDue (s : State) : Bool :=
  decide (s.inForce 4 6 ≠ 0 ∧ s.inForce 4 6 * 3600 ≤ s.rect.rotation)

/-- R107: the outgoing candidate. -/
def outgoingCandidate (s : State) : Option Nat :=
  mostHours s (s.rect.running.filter fun i => (s.slot i).state == .running)

/-- R107's conditions that R110 shares: no swap in flight, both collections, the margin, the generator cap. The
answer is the incoming and the outgoing slot. -/
def swapPair (s : State) : Option (Nat × Nat) :=
  match s.rect.swap, s.rect.queue.head?, outgoingCandidate s with
  | none, some i, some o =>
    if s.hours i + s.inForce 4 7 < s.hours o ∧ (s.online → s.nRun < s.nGen) then some (i, o) else none
  | _, _, _ => none

/-- R107: a swap begins. -/
def beginSwap (i o : Nat) (s : State) : State :=
  (changeSlot i .starting
    (s.onRect fun r =>
      { r.dropRequest with
        swap := some { incoming := i, outgoing := o, phase := .starting, overlap := 0 } })).onRect
    fun r => { r with spacing := 0, dwell := 0 }

/-- R108: the overlap has run out. -/
def finishSwap (s : State) : State :=
  match s.rect.swap with
  | none => s
  | some w =>
    if s.nUp + 1 ≤ s.nRun then
      endSwap .completed ((changeSlot w.outgoing .standby s).onRect fun r => { r with dwell := 0 })
    else endSwap .absorbed s

/-- R110: at the first measurement event after the hold has ended a request that begins no swap is dropped, be a new hold
active by then or not (log 34). -/
def dropFreed (s : State) : State :=
  if s.sup.hold = none ∨ s.rect.requestFreed = true then s.onRect Rect.dropRequest else s

/-- R107, R110: a swap at a measurement event; a rotation request whose hold has ended is used or dropped. -/
def swapWork (s : State) : State :=
  if (rotationIsDue s || s.rect.rotationRequest) ∧ s.sup.hold = none ∧ s.inForce 4 4 ≤ s.rect.spacing then
    match swapPair s with
    | some (i, o) => beginSwap i o s
    | none => dropFreed s
  else dropFreed s

/-- R93: one module is stopped when the count allows. -/
def stopWork (s : State) : State :=
  if max s.nDown s.nUp < s.nRun ∧ s.inForce 4 5 ≤ s.rect.dwell ∧ s.rect.swap = none then
    (stopOne s).onRect fun r => { r with dwell := 0 }
  else s

/-- R92, R93, R107: at most one start; else a stop and then a swap. -/
def countWork (s : State) : State :=
  if s.nRun < s.nUp ∧ s.inForce 4 4 ≤ s.rect.spacing ∧ s.rect.queue ≠ [] then
    dropFreed (startHead s)
  else swapWork (stopWork s)

/-! ## The measurement event (R89) -/

/-- R111: a slot dropped from the fitted count. -/
def dropSlot (i : Nat) (s : State) : State :=
  onSlot i (fun x => { x with answering := .unknown, faults := 0, data := none })
    (leaveSwap i (changeSlot i .absent s))

/-- R111: the slots-fitted count in force, a count lowered and restored since the last event dropping none (DESIGN CHOICE,
log 48); the slots it drops are taken in ascending number (DESIGN CHOICE, log 44). -/
def refitSlots (s : State) : State :=
  let old := s.rect.fitted
  let new := s.inForce 0 15
  let s := s.onRect fun r => { r with fitted := new }
  (List.range' new (old - new)).foldl (fun s i => dropSlot i s) s

/-- R105: one second on the run hours. -/
def Slot.runSecond (x : Slot) : Slot :=
  if Config.runHoursMax ≤ x.hours then { x with residue := 0 }
  else if 360 ≤ x.residue + 1 then { x with hours := x.hours + 1, residue := 0 }
  else { x with residue := x.residue + 1 }

/-- R105 for one slot, and R88's new place for a STANDBY slot. -/
def addHours (i : Nat) (s : State) : State :=
  if (s.slot i).state ≠ .absent ∧ (s.slot i).data.any ModuleData.running then
    let s := onSlot i Slot.runSecond s
    if (s.slot i).state = .standby then
      s.onRect fun r => { r with queue := queueInsert s i (r.queue.erase i) }
    else s
  else s

/-- R99 for one slot. -/
def startTick (i : Nat) (s : State) : State :=
  if (s.slot i).state = .starting then
    if s.inForce 4 9 ≤ (s.slot i).startCount + 1 then enterFault i s
    else onSlot i (fun x => { x with startCount := x.startCount + 1 }) s
  else s

/-- R100 for one slot. -/
def recoveryTick (i : Nat) (s : State) : State :=
  if (s.slot i).state = .fault ∧ (s.slot i).data.any fun d => !countingFault s d then
    if s.inForce 4 10 ≤ (s.slot i).recovery + 1 then changeSlot i .standby s
    else onSlot i (fun x => { x with recovery := x.recovery + 1 }) s
  else s

/-- R89: the counts that advance while AC is available. -/
def advanceCounts (s : State) : State :=
  s.onRect fun r =>
    { r with
      spacing := min (s.inForce 4 4) (r.spacing + 1)
      dwell := min (s.inForce 4 5) (r.dwell + 1)
      settle := min 10 (r.settle + 1)
      rotation := min Config.rotationMax (r.rotation + 1)
      swap := r.swap.map fun w => if w.phase = .overlap then { w with overlap := w.overlap + 1 } else w }

/-- R108: a swap whose overlap count has reached the swap overlap ends. -/
def overlapWork (s : State) : State :=
  if s.rect.swap.any fun w => w.phase == .overlap && decide (s.inForce 4 8 ≤ w.overlap) then finishSwap s else s

/-- R90, R91: the counts are formed; the generator cap is read with them (`State.nUp`). While AC is not available the
values last formed stand (DESIGN CHOICE, log 45). -/
def formCounts (s : State) : State := s.onRect fun r => { r with upFormed := upCount s, downFormed := downCount s }

/-- The scheduler takes a measurement event, in the order of R89. While AC is not available a request whose hold has ended
cannot be used and is dropped (R110). Slots are taken in ascending number, and those a lowered count drops leave before
the steps of R89, none of which they take (DESIGN CHOICE, log 44); the conditions are reported in one order (log 6). A
swap that a timeout or a drop abandons is no longer in flight when R107 is tested at the same event, so that a new one
may begin there (DESIGN CHOICE, log 57). -/
def rectEvent (s : State) : State :=
  let s := refitSlots s
  let s := s.fittedSlots.foldl (fun s i => addHours i s) s
  let s := s.fittedSlots.foldl (fun s i => startTick i s) s
  let s := s.fittedSlots.foldl (fun s i => recoveryTick i s) s
  let s :=
    if s.sup.ac then countWork (overlapWork (formCounts (advanceCounts s))) else dropFreed s
  let s := recomputeIm s
  reportFaults (reportLost (report alRectShortfall (shortfall s) s))

/-! ## Requests (R103, R104, R110) -/

/-- R103: RECTIFIER LOCKOUT. -/
def serveLockout (i : Nat) (s : State) : Served :=
  if s.rect.fitted ≤ i ∨ 11 < i then (s, .refuse .badField)
  else if (s.slot i).state = .lockout then (s, .ok)
  else (leaveSwap i (changeSlot i .lockout s), .ok)

/-- R104: RECTIFIER RESTORE. -/
def serveRestore (i : Nat) (s : State) : Served :=
  if s.rect.fitted ≤ i ∨ 11 < i then (s, .refuse .badField)
  else if (s.slot i).state = .lockout then
    (changeSlot i (if (s.slot i).answering = .yes then .standby else .absent) s, .ok)
  else (s, .refuse .refusedState)

/-- R110: ROTATE NOW. The refusals are applied to a second request as to the first, also while one is held (DESIGN CHOICE,
log 56). -/
def serveRotateNow (s : State) : Served :=
  if s.sup.ac then
    match swapPair s with
    | some (i, o) =>
      if s.sup.hold = none then (beginSwap i o s, .ok)
      else (s.onRect fun r => { r with rotationRequest := true }, .ok)
    | none => (s, .refuse .refusedState)
  else (s, .refuse .refusedState)

end Sys2Proof.Machine
end

