-- ==== Sys2Proof/Machine/Supervisor.lean ====
section
/-! DEFINITION. The source supervisor (01_plant_supervision_and_measurement.md, R15 to R21): plant mode, AC
available, and the maintenance hold; with what the other blocks do at a change of either value. -/

namespace Sys2Proof.Machine

/-! ## Plant mode and AC available (R15, R16) -/

/-- R15: the plant mode its three inputs give. -/
def deriveMode (s : State) : Mode :=
  if s.prot.bpd = .opened then .protect
  else if s.online then .generator
  else if s.meas.mainsQualified then .mains
  else .battery

/-- R15: AC available. -/
def deriveAc (s : State) : Bool := s.meas.mainsQualified || s.online

/-- R15, R16: both values are derived; a change of the plant mode posts MODE_CHANGE. -/
def supervise (s : State) : State :=
  let new := deriveMode s
  let old := s.sup.mode
  let s := s.onSup fun p => { p with mode := new, ac := deriveAc s }
  if new = old then s else post .modeChange new.code old.code s

/-- R73, R74, R77, R78, R80, R83: counts whose test a change of mode or AC makes fail are discarded at once. -/
def protectionModeChange (s : State) : State :=
  let s :=
    if s.sup.mode = .battery then s
    else s.onProt fun p => { p with shedCount := 0, disconnectCount := 0 }
  if s.sup.ac then s
  else dropDischargeCount (s.onProt fun p => { p with nelCount := 0, bpdCount := 0 })

/-- The scheduler at a change of AC available (R96). -/
def schedulerAcChange (oldAc : Bool) (s : State) : State :=
  if oldAc && !s.sup.ac then acLost s
  else if !oldAc && s.sup.ac then acGained s
  else s

/-- The blocks act on the values now in force, `old` being those before (log 6 for the order among them). -/
def actOnMode (old : Sup) (s : State) : State :=
  let s := if s.sup.mode = old.mode then s else chargeModeChange old.mode s
  let s := if s.sup.mode = old.mode ∧ s.sup.ac = old.ac then s else protectionModeChange s
  schedulerAcChange old.ac s

/-- A change of one of the three inputs: both values are derived and acted on. -/
def rederive (s : State) : State := actOnMode s.sup (supervise s)

/-! ## The maintenance hold (R18 to R21) -/

/-- The hold limit, in minutes. -/
def State.holdLimit (s : State) : Nat := s.now 5 161

/-- R20: HOLD_ACTIVE follows the hold. -/
def reportHold (s : State) : State := report alHoldActive s.sup.hold.isSome s

/-- R18, R19: a hold begins, or replaces the one active. -/
def beginHold (cause : HoldCause) (minutes : Nat) (s : State) : State :=
  reportHold (s.onSup fun p => { p with hold := some { cause := cause, left := minutes * 60 } })

/-- R18: the duration a HOLD request is given. -/
def holdMinutes (s : State) (asked : Nat) : Nat :=
  if asked = 0 then s.holdLimit else min asked s.holdLimit

/-- R18: HOLD. -/
def serveHold (asked : Nat) (s : State) : Served :=
  (beginHold .request (holdMinutes s asked) s,
    { result := if s.holdLimit < asked then .clamped else .ok, data := [] })

/-- R19: the key becomes active. -/
def keyTurned (s : State) : State :=
  if s.sup.hold.isNone then beginHold .key s.holdLimit s else s

/-- R21: the hold is cleared, and a rotation request held under it waits for the next measurement event (R110); the
generator's gates are evaluated by the caller (R129). -/
def clearHold (s : State) : State :=
  reportHold ((s.onSup fun p => { p with hold := none }).onRect fun r =>
    { r with requestFreed := r.requestFreed || r.rotationRequest })

end Sys2Proof.Machine
end

