-- ==== Sys2Proof/Machine/Protection.lean ====
section
/-! DEFINITION. The protection unit (04_battery_protection_and_load_shedding.md). -/

namespace Sys2Proof.Machine

/-! ## The contactors -/

/-- R76: the NEL opens. -/
def openNel (cause : ShedCause) (s : State) : State :=
  report alLoadShed true
    (s.onProt fun p => { p with nel := .opened, shedCause := some cause, shedCount := 0, nelCount := 0 })

/-- R77: the NEL closes. -/
def closeNel (s : State) : State :=
  report alLoadShed false
    (s.onProt fun p => { p with nel := .closed, shedCause := none, shedCount := 0, nelCount := 0 })

/-- R79: the BPD opens, and the source supervisor makes the plant mode PROTECT. BATTERY_DISCONNECTED is reported before the
mode changes (DESIGN CHOICE, log 6). -/
def openBpd (s : State) : State :=
  rederive (report alBatteryDisconnected true
    (s.onProt fun p => { p with bpd := .opened, disconnectCount := 0, bpdCount := 0 }))

/-- R81: the BPD closes. BATTERY_DISCONNECTED is reported before the mode changes (DESIGN CHOICE, log 6). -/
def closeBpd (s : State) : State :=
  rederive (report alBatteryDisconnected false
    (s.onProt fun p => { p with bpd := .closed, disconnectCount := 0, bpdCount := 0 }))

/-! ## Tests -/

/-- R73: the bus falls to the plant voltage of setting `i` of group 2. -/
def busFalls (s : State) (i : Nat) : Bool := decide (s.meas.bus ≤ s.plantVoltage (s.inForce 2 i))

/-- R73: the bus rises to it. -/
def busRises (s : State) (i : Nat) : Bool := decide (s.plantVoltage (s.inForce 2 i) ≤ s.meas.bus)

/-- R75: some fitted SYNC string is at or below the shed SOC. -/
def shedSocTest (s : State) : Bool :=
  s.inForce 2 6 != 0 && s.fittedStrings.any fun r => r.trusted && decide (r.soc ≤ s.inForce 2 6)

/-- R80: the running list holds at least n_min RUNNING slots, or as many as are fitted. -/
def enoughRunning (s : State) : Bool :=
  decide (min (s.inForce 4 3) (s.inForce 0 15) ≤
    (s.rect.running.filter fun i => (s.slot i).state == .running).length)

/-- R83: the discharge test. -/
def dischargeTest (s : State) : Bool :=
  s.sup.ac && s.charge.stage != .test && decide (s.batteryCurrent ≤ -(s.inForce 2 11 : Int))

/-! ## The measurement event -/

/-- R74 to R76: load shedding. -/
def shedWork (s : State) : State :=
  if s.sup.mode = .battery ∧ s.prot.nel = .closed then
    let n := if busFalls s 4 then s.prot.shedCount + 1 else 0
    let byVoltage := decide (s.inForce 2 5 ≤ n)
    let bySoc := shedSocTest s
    if byVoltage && bySoc then openNel .both s
    else if byVoltage then openNel .voltage s
    else if bySoc then openNel .soc s
    else s.onProt fun p => { p with shedCount := n }
  else s.onProt fun p => { p with shedCount := 0 }

/-- R77: NEL reconnect. -/
def nelWork (s : State) : State :=
  if s.prot.nel = .opened ∧ s.sup.ac then
    let n := if busRises s 7 then s.prot.nelCount + 1 else 0
    if s.inForce 2 8 ≤ n then closeNel s else s.onProt fun p => { p with nelCount := n }
  else s.onProt fun p => { p with nelCount := 0 }

/-- R78, R79: battery disconnect. -/
def disconnectWork (s : State) : State :=
  if s.sup.mode = .battery ∧ s.prot.bpd = .closed then
    let n := if busFalls s 0 then s.prot.disconnectCount + 1 else 0
    if s.inForce 2 1 ≤ n then openBpd s else s.onProt fun p => { p with disconnectCount := n }
  else s.onProt fun p => { p with disconnectCount := 0 }

/-- R80, R81: battery reconnect. -/
def reconnectWork (s : State) : State :=
  if s.prot.bpd = .opened then
    let n := if s.sup.ac && enoughRunning s && busRises s 2 then s.prot.bpdCount + 1 else 0
    if s.inForce 2 3 ≤ n then closeBpd s else s.onProt fun p => { p with bpdCount := n }
  else s.onProt fun p => { p with bpdCount := 0 }

/-- R83: the discharge count and its condition. -/
def dischargeWork (s : State) : State :=
  let n := if dischargeTest s then min 60 (s.prot.dischargeCount + 1) else 0
  report alBatteryDischarge (n == 60) (s.onProt fun p => { p with dischargeCount := n })

/-- R82: BUS_HIGH and BUS_LOW. -/
def reportBus (s : State) : State :=
  s |> report alBusHigh (busRises s 10) |> report alBusLow (busFalls s 9)

/-- The protection unit takes a measurement event. A contactor that this event opens is not tested for
reconnection at it. -/
def protectionEvent (s : State) : State :=
  let nel := s.prot.nel
  let bpd := s.prot.bpd
  let s := if nel = .opened then nelWork s else shedWork s
  let s := if bpd = .opened then reconnectWork s else disconnectWork s
  reportBus (dischargeWork s)

end Sys2Proof.Machine
end

