-- ==== Sys2Proof/Machine/Calendar.lean ====
section
/-! DEFINITION. The calendar (08_calendar_and_schedules.md): the carry of the time, and what becomes of an
exercise that is owed (R158, R160, R161). -/

namespace Sys2Proof.Machine

/-! ## Time (R152, R153) -/

/-- The carry into the year; out of 2099 the calendar returns to 2000-01-01, a SATURDAY, and is not valid. -/
def Cal.carryYear (c : Cal) : Cal :=
  if 2099 ≤ c.year then { c with year := 2000, weekday := 5, valid := false } else { c with year := c.year + 1 }

def Cal.carryMonth (c : Cal) : Cal :=
  if 12 ≤ c.month then Cal.carryYear { c with month := 1 } else { c with month := c.month + 1 }

def Cal.carryDay (c : Cal) : Cal :=
  let c := { c with weekday := (c.weekday + 1) % 7 }
  if daysInMonth c.year c.month ≤ c.day then Cal.carryMonth { c with day := 1 } else { c with day := c.day + 1 }

def Cal.carryHour (c : Cal) : Cal :=
  if 23 ≤ c.hour then Cal.carryDay { c with hour := 0 } else { c with hour := c.hour + 1 }

def Cal.carryMinute (c : Cal) : Cal :=
  if 59 ≤ c.minute then Cal.carryHour { c with minute := 0 } else { c with minute := c.minute + 1 }

/-- R153: one second. -/
def Cal.tick (c : Cal) : Cal :=
  if 59 ≤ c.second then Cal.carryMinute { c with second := 0 } else { c with second := c.second + 1 }

/-- The weekday of a date, 0 for MONDAY; 2000-01-01 is a SATURDAY. -/
def weekdayOf (year month day : Nat) : Nat := (5 + dayNumber year month day) % 7

/-- R154: CLOCK_LOST. -/
def reportClock (s : State) : State := report alClockLost (!s.cal.valid) s

/-! ## The exercise owed (R158, R160, R161) -/

/-- R158: EXERCISE_MISSED. -/
def reportMissed (s : State) : State := report alExerciseMissed s.cal.missed s

/-- The record with no exercise owed. -/
def Cal.noExercise (c : Cal) : Cal := { c with exState := .none, exDuration := 0, exWindow := 0 }

/-- The generator controller's EXERCISE cause becomes false. -/
def dropCause (s : State) : State := s.onGen fun g => { g with exercise := none }

/-- R160: a run carrying the mark begins. -/
def exerciseRunBegins (s : State) : State := s.onCal fun c => { c with runMark := true }

/-- R160: served at the WARMUP end of a run carrying the mark. With nothing owed it serves nothing (R162). -/
def exerciseServed (s : State) : State :=
  let s := s.onCal fun c => { c with runMark := false }
  if s.cal.exState = .none then s
  else
    reportMissed (dropCause (s.onCal fun c =>
      { c.noExercise with missed := false, last := some { date := c.date, outcome := .served } }))

/-- R160: counted, a run being in progress. -/
def exerciseCounted (s : State) : State :=
  s.onCal fun c => { c.noExercise with last := some { date := c.date, outcome := .counted } }

/-- R161: missed. -/
def exerciseMissed (s : State) : State :=
  reportMissed (dropCause (s.onCal fun c =>
    { c.noExercise with
      runMark := false, missed := true, last := some { date := c.exDue, outcome := .missed } }))

/-- R160: a run carrying the mark has ended before WARMUP end. -/
def exerciseReturned (s : State) : State :=
  let s := s.onCal fun c => { c with runMark := false }
  if s.cal.exState = .waiting ∧ s.cal.exWindow = 0 then exerciseMissed s else s

/-- R162: an exercise withdrawn by a setting. -/
def exerciseWithdrawn (s : State) : State :=
  if s.cal.exState = .none then s else dropCause (s.onCal Cal.noExercise)

/-- R161: the window count stands at 0. -/
def windowClosed (s : State) : State :=
  if s.cal.exState ≠ .none ∧ s.cal.exWindow = 0 ∧ s.cal.runMark = false then exerciseMissed s else s

/-- R160: one tick of the window count. -/
def Cal.windowTick (c : Cal) : Cal :=
  if c.exState = .none then c else { c with exWindow := c.exWindow - 1 }

end Sys2Proof.Machine
end

