-- ==== Sys2Proof/Machine/Generator.lean ====
section
/-! DEFINITION. The generator controller (07_generator_runs.md). -/

namespace Sys2Proof.Machine

/-! ## Records and reports -/

/-- Acting on the run in flight. -/
def onRun (f : Run → Run) (s : State) : State := s.onGen fun g => { g with run := g.run.map f }

/-- Acting on the open run record, the newest of the log (R148). -/
def onOpenRecord (f : RunRec → RunRec) (s : State) : State :=
  s.onGen fun g =>
    { g with log := match g.log with
      | [] => []
      | r :: rest => f r :: rest }

/-- R127: whether the machine is in a run. -/
def GenState.inRun : GenState → Bool
  | .idle => false | .failed => false
  | .priming => true | .cranking => true | .crankRest => true | .warmup => true | .online => true
  | .offload => true | .cooldown => true | .stopping => true

/-- R141, R144: the lockout conditions and GEN_ENGINE_FAULT. -/
def reportLockout (s : State) : State :=
  s |> report alGenLockout (s.gen.machine == .failed)
    |> report alGenStartFail (s.gen.failReason == some .startFail)
    |> report alGenStopFail (s.gen.failReason == some .stopFail)
    |> report alGenEngineFault
        (s.gen.failReason == some .engineFault || s.gen.failReason == some .engineLost)

/-- R142: FUEL_LOW and FUEL_EMPTY. -/
def reportFuel (s : State) : State :=
  s |> report alFuelLow (s.gen.fuelLow || s.functionActive fnFuelFloat)
    |> report alFuelEmpty s.gen.fuelEmpty

/-! ## Changing state (R127, R128) -/

/-- R128: the modules' AC feed moves, at an entry to ONLINE or a departure from it. Ibl is formed again under the budget,
or free of it; n_up and n_down follow the cap by their definition (`State.nUp`). -/
def feedMoved (s : State) : State :=
  trimToGen (recomputeIbl (rederive (s.onRect fun r => { r with settle := 0 })))

/-- R127: the machine enters a state. What the other blocks do at a move of the feed comes before the reports of the
controller (DESIGN CHOICE, log 6). -/
def genEnter (new : GenState) (s : State) : State :=
  let was := s.online
  let s := s.onGen fun g => { g with machine := new, stateCount := 0 }
  let s :=
    if new = .online then
      onOpenRecord (fun r => { r with reachedOnline := true }) (onRun (fun r => { r with reachedOnline := true }) s)
    else s
  let s := if s.online = was then s else feedMoved s
  reportLockout (report alGenRunning s.gen.machine.inRun s)

/-- R132: the entry to CRANKING, which uses an attempt unless generator AC is already PRESENT. -/
def enterCranking (s : State) : State :=
  if s.meas.genPresent then genEnter .warmup s
  else
    let s := onRun (fun r => { r with attempts := r.attempts + 1 }) s
    let s := onOpenRecord (fun r => { r with attempts := (s.gen.run.map Run.attempts).getD r.attempts }) s
    genEnter .cranking s

/-- R127, R132: the entry to PRIMING, passed through with a prime time of 0. -/
def enterPriming (s : State) : State :=
  let s := genEnter .priming s
  if s.inForce 3 11 = 0 then enterCranking s else s

/-! ## Beginning a run (R129 to R131, R147, R148) -/

/-- R129, R148: a run begins. GEN_RUN_START is posted before GEN_RUNNING is reported true (DESIGN CHOICE, log 6). -/
def beginRun (basis : Basis) (opening : Option Basis) (load : Bool) (duration : Option Nat) (s : State) :
    State :=
  let marked := s.gen.exercise.isSome
  let s := s.onGen fun g =>
    { g with
      run := some
        { basis := basis, opening := opening, exMark := marked, load := load, attempts := 0
          warmupEnd := none, runTime := 0, duration := duration, durCount := none, tailMark := false
          stopReason := none, reachedOnline := false }
      log := (({ basis := basis, opening := opening, startTime := s.stamp, warmupEnd := none
                 stopTime := none, stopReason := none, attempts := 0, fuelStart := s.meas.fuel
                 fuelStop := none, reachedOnline := false } : RunRec) :: g.log).take Config.runLogCapacity }
  let s := if marked then exerciseRunBegins s else s
  enterPriming (post .genRunStart basis.code s.meas.fuel s)

/-- R130. -/
def causeMainsFail (s : State) : Bool :=
  s.inForce 3 1 == 1 && s.gen.mainsFailTimer.any (fun t => decide (s.inForce 3 2 * 60 ≤ t)) && !s.gen.spent

/-- R131. -/
def causeAccountLow (s : State) : Bool :=
  s.inForce 3 3 == 1 && (s.sup.mode == .battery || s.sup.mode == .protect) &&
    s.fittedStrings.any fun r => r.trusted && decide (r.soc ≤ s.inForce 3 4)

/-- R131. -/
def causeBusLow (s : State) : Bool := s.inForce 3 6 == 1 && decide (s.inForce 3 8 ≤ s.gen.busCount)

/-- R131. -/
def causeRemote (s : State) : Bool := s.inForce 3 9 == 1 && s.functionActive fnRemote

/-- R147. -/
def causeExercise (s : State) : Bool := s.gen.exercise.isSome

/-- The minimum rest, in measurement events. -/
def State.minRest (s : State) : Nat := s.inForce 3 20 * 60

/-- R129: the start gates are open. -/
def gatesOpen (s : State) : Bool :=
  s.inForce 3 0 == 1 && s.gen.machine == .idle && decide (s.minRest ≤ s.gen.restCount) &&
    s.gen.stopHold.isNone && s.sup.hold.isNone && !s.functionActive fnInhibit && !s.gen.fuelEmpty

/-- R129: the first true cause in the order of the rule. -/
def firstCause (s : State) : Option Basis :=
  if causeMainsFail s then some .mainsFail
  else if causeAccountLow s then some .accountLow
  else if causeBusLow s then some .busLow
  else if causeRemote s then some .remote
  else if causeExercise s then some .exercise
  else none

/-- R129, R147: the run a cause begins. -/
def beginCause (b : Basis) (s : State) : State :=
  match b with
  | .exercise =>
    if s.meas.mainsQualified then beginRun .exercise none false s.gen.exercise s
    else beginRun .mainsFail (some .exercise) false none s
  | .mainsFail | .accountLow | .busLow | .remote | .manual => beginRun b none false none s

/-- R129: an evaluation of the causes and the gates. -/
def evaluateStart (s : State) : State :=
  if gatesOpen s then
    match firstCause s with
    | some b => beginCause b s
    | none => s
  else s

/-! ## Ending a run (R139 to R141, R144, R148) -/

/-- R148: the record is closed as the machine reaches IDLE or FAILED; R147: an exercise not served is returned. GEN_RUN_END is
posted before GEN_RUNNING is reported false and before an exercise is missed or a new run begins (DESIGN CHOICE, log 6). -/
def closeRun (final : GenState) (s : State) : State :=
  match s.gen.run with
  | none => genEnter final s
  | some r =>
    let s := onOpenRecord (fun x =>
      { x with stopTime := some s.stamp, stopReason := r.stopReason, fuelStop := some s.meas.fuel }) s
    let s := post .genRunEnd ((r.stopReason.map StopReason.code).getD 255)
      (if r.warmupEnd.isSome then r.runTime / 60 else 0) s
    let s := s.onGen fun g => { g with run := none, restCount := 0, rearmMinutes := 0, rearmSeconds := 0 }
    let s := genEnter final s
    let s := if r.exMark && r.warmupEnd.isNone then exerciseReturned s else s
    evaluateStart s

/-- Writing the stop reason. -/
def setStop (reason : StopReason) (s : State) : State := onRun (fun r => { r with stopReason := some reason }) s

/-- Writing the failure reason, with the conditions that follow it. -/
def setFail (reason : Option FailReason) (s : State) : State :=
  reportLockout (s.onGen fun g => { g with failReason := reason })

/-- R140: the stop is confirmed. -/
def confirmStop (s : State) : State :=
  closeRun
    (if s.gen.failReason = some .engineFault ∨ s.gen.failReason = some .engineLost then .failed else .idle) s

/-- R140: the entry to STOPPING, confirmed at once while generator AC is ABSENT. -/
def enterStopping (s : State) : State :=
  let s := genEnter .stopping s
  if s.meas.genPresent then s else confirmStop s

/-- R139, R127: the entry to COOLDOWN, passed through with a cooldown time of 0. -/
def enterCooldown (s : State) : State :=
  let s := genEnter .cooldown s
  if s.inForce 3 18 = 0 then enterStopping s else s

/-- The paths of the ending table's first four rows. -/
def endRun (reason : StopReason) (s : State) : State :=
  match s.gen.machine with
  | .priming | .cranking | .crankRest | .warmup => enterStopping (setStop reason s)
  | .online | .offload => enterCooldown (setStop reason s)
  | .idle | .cooldown | .stopping | .failed => s

/-- R132, R134, R144: FAILED with START_FAIL, straight from CRANKING or WARMUP. -/
def startFailed (s : State) : State :=
  closeRun .failed ((setStop .startFail s).onGen fun g => { g with failReason := some .startFail })

/-- R140: the engine has not stopped. -/
def stopFailed (s : State) : State :=
  closeRun .failed ((setStop .stopFail s).onGen fun g => { g with failReason := some .stopFail })

/-- R141: an engine fault or the loss of a running engine. -/
def engineFails (reason : StopReason) (fail : FailReason) (s : State) : State :=
  enterStopping (setFail (some fail) (setStop reason s))

/-- R134, R141: the states in which an oil-pressure or engine-temperature fault is acted on. -/
def faultArmed (s : State) : Bool :=
  match s.gen.machine with
  | .online | .offload | .cooldown => true
  | .warmup => decide (10 ≤ s.gen.stateCount)
  | .idle | .priming | .cranking | .crankRest | .stopping | .failed => false

/-- R141: an engine-fault input is active. -/
def takeEngineFault (s : State) : State :=
  if faultArmed s then engineFails .engineFault .engineFault s else s

/-- R132, R134: the crank or the warmup has failed. -/
def attemptFailed (s : State) : State :=
  if (s.gen.run.map Run.attempts).getD 0 < s.inForce 3 14 then genEnter .crankRest s else startFailed s

/-! ## Carrying the plant (R134 to R136) -/

/-- R135. -/
def loadState (s : State) (r : Run) : GenState :=
  match r.basis with
  | .mainsFail | .accountLow | .busLow | .remote => .online
  | .exercise => .offload
  | .manual => if r.load then .online else if s.meas.mainsQualified then .offload else .online

/-- R135: the loaded or unloaded state is taken again from the basis. -/
def retakeLoad (s : State) : State :=
  match s.gen.run with
  | none => s
  | some r =>
    if (s.gen.machine = .online ∨ s.gen.machine = .offload) ∧ loadState s r ≠ s.gen.machine then
      genEnter (loadState s r) s
    else s

/-- R134: WARMUP end. -/
def warmupEnds (s : State) : State :=
  match s.gen.run with
  | none => s
  | some r =>
    let s := onRun (fun r =>
      { r with
        warmupEnd := some s.stamp
        durCount := if r.duration.isSome ∧ r.durCount.isNone then some 0 else r.durCount }) s
    let s := onOpenRecord (fun x => { x with warmupEnd := some s.stamp }) s
    let s := if r.exMark then exerciseServed s else s
    genEnter (loadState s r) s

/-- R132, R133, R134, R139 to R141: generator AC becomes PRESENT or ABSENT. -/
def genAcChanged (s : State) : State :=
  if s.meas.genPresent then
    match s.gen.machine with
    | .cranking | .crankRest => genEnter .warmup s
    | .idle | .priming | .warmup | .online | .offload | .cooldown | .stopping | .failed => s
  else
    match s.gen.machine with
    | .warmup => attemptFailed s
    | .online | .offload => engineFails .engineLost .engineLost s
    | .cooldown => enterStopping s
    | .stopping => confirmStop s
    | .idle | .priming | .cranking | .crankRest | .failed => s

/-- R136: an EXERCISE run is converted by a loss of mains. -/
def convertExercise (s : State) : State :=
  match s.gen.run with
  | none => s
  | some r =>
    if r.basis = .exercise ∧
        (s.gen.machine = .priming ∨ s.gen.machine = .cranking ∨ s.gen.machine = .crankRest ∨
          s.gen.machine = .warmup ∨ s.gen.machine = .offload) then
      onOpenRecord (fun x => { x with basis := .mainsFail, opening := some .exercise })
        (onRun (fun r =>
          { r with basis := .mainsFail, opening := some .exercise, duration := none, durCount := none }) s)
    else s

/-- R130, R135, R136: mains has become QUALIFIED or NOT_QUALIFIED. -/
def genMainsChanged (s : State) : State :=
  if s.meas.mainsQualified then
    retakeLoad (s.onGen fun g => { g with mainsFailTimer := none, spent := false })
  else retakeLoad (convertExercise (s.onGen fun g => { g with mainsFailTimer := some 0 }))

/-! ## Stop conditions (R137, R138) -/

/-- R138: the charged test. -/
def chargedTest (s : State) (r : Run) : Bool :=
  r.tailMark ||
    ((s.fittedStrings.any StringRec.trusted) &&
      s.fittedStrings.all fun x => !x.trusted || decide (s.inForce 3 5 ≤ x.soc))

/-- R137: the stop reason that holds at an event in ONLINE or OFFLOAD, if any. -/
def stopCondition (s : State) (r : Run) : Option StopReason :=
  let ripe := decide (s.inForce 3 16 * 60 ≤ r.runTime)
  if s.inForce 3 17 * 3600 ≤ r.runTime then some .maxRun
  else
    match r.basis with
    | .mainsFail =>
      if s.meas.mainsQualified && ripe then some .mainsReturn
      else if s.inForce 3 10 == 1 && chargedTest s r && ripe then some .charged
      else none
    | .accountLow | .busLow => if chargedTest s r && ripe then some .charged else none
    | .remote => if !s.functionActive fnRemote && ripe then some .remoteOff else none
    | .exercise => if r.duration.any fun d => decide (d * 60 ≤ r.runTime) then some .duration else none
    | .manual =>
      if r.duration.any fun d => r.durCount.any fun n => decide (d * 60 ≤ n) then some .duration else none

/-- R137, R138: the run ends; a MAINS_FAIL run that ends CHARGED sets the spent mark. -/
def stopRun (reason : StopReason) (r : Run) (s : State) : State :=
  let s :=
    if reason = .charged ∧ r.basis = .mainsFail then s.onGen fun g => { g with spent := true } else s
  endRun reason s

/-- R137 at a measurement event. -/
def stopTest (s : State) : State :=
  match s.gen.run with
  | none => s
  | some r =>
    match stopCondition s r with
    | some reason => stopRun reason r s
    | none => s

/-! ## The measurement event -/

/-- R144: the machine leaves FAILED for IDLE. -/
def leaveFailed (s : State) : State :=
  let s := s.onGen fun g => { g with failReason := none, rearmMinutes := 0, rearmSeconds := 0 }
  evaluateStart (genEnter .idle s)

/-- One measurement event on the counts of the controller. A manual-stop hold runs out the time it began with, whatever a
write has made of its setting (DESIGN CHOICE, log 50). -/
def genCounts (s : State) : State :=
  s.onGen fun g =>
    { g with
      stateCount := g.stateCount + 1
      restCount := min s.minRest (g.restCount + 1)
      stopHold := g.stopHold.bind fun n => if n ≤ 1 then none else some (n - 1)
      mainsFailTimer := g.mainsFailTimer.map (· + 1)
      busCount := if s.meas.bus ≤ s.plantVoltage (s.inForce 3 7) then min (s.inForce 3 8) (g.busCount + 1) else 0
      rearmSeconds :=
        if g.machine = .failed then (if 59 ≤ g.rearmSeconds then 0 else g.rearmSeconds + 1) else g.rearmSeconds
      rearmMinutes :=
        if g.machine = .failed ∧ 59 ≤ g.rearmSeconds then g.rearmMinutes + 1 else g.rearmMinutes
      run := g.run.map fun r =>
        { r with
          runTime := if r.warmupEnd.isSome then r.runTime + 1 else r.runTime
          durCount := r.durCount.map (· + 1) } }

/-- R142: a flag with its setting: set at or below it, cleared 3 above it. -/
def fuelFlag (old : Bool) (level limit : Nat) : Bool :=
  if level ≤ limit then true else if limit + 3 ≤ level then false else old

/-- R142: the fuel flags; an emptying tank ends the run. -/
def genFuel (s : State) : State :=
  let was := s.gen.fuelEmpty
  let s := s.onGen fun g =>
    { g with
      fuelLow := fuelFlag g.fuelLow s.meas.fuel (s.inForce 3 23)
      fuelEmpty := fuelFlag g.fuelEmpty s.meas.fuel (s.inForce 3 24) }
  let s := reportFuel s
  if s.gen.fuelEmpty && !was then endRun .fuelEmpty s else s

/-- R149: the first measurement event after a completed write of group 3 that leaves the generator not fitted (log 32). -/
def genFitted (s : State) : State :=
  if s.store.fresh.contains 3 ∧ s.inForce 3 0 = 0 then
    if s.gen.machine = .failed then leaveFailed s else endRun .notFitted s
  else s

/-- R132: the crank maximum has run out. -/
def crankExpired (s : State) : State := if s.meas.genPresent then s else attemptFailed s

/-- R140: the stop-confirm time has run out. -/
def stopExpired (s : State) : State := if s.meas.genPresent then stopFailed s else s

/-- R127: the state that its count, or the machine's own conditions, end at this event. -/
def genTimed (s : State) : State :=
  match s.gen.machine with
  | .idle => s
  | .priming => if s.inForce 3 11 ≤ s.gen.stateCount then enterCranking s else s
  | .cranking => if s.inForce 3 12 ≤ s.gen.stateCount then crankExpired s else s
  | .crankRest => if s.inForce 3 13 ≤ s.gen.stateCount then enterCranking s else s
  | .warmup =>
    if s.engineFaultInput && faultArmed s then takeEngineFault s
    else if s.inForce 3 15 ≤ s.gen.stateCount then warmupEnds s
    else s
  | .online | .offload => if s.engineFaultInput then takeEngineFault s else stopTest s
  | .cooldown =>
    if s.engineFaultInput then takeEngineFault s
    else if s.inForce 3 18 ≤ s.gen.stateCount then enterStopping s
    else s
  | .stopping => if s.inForce 3 19 ≤ s.gen.stateCount then stopExpired s else s
  | .failed => if s.inForce 3 22 ≠ 0 ∧ s.inForce 3 22 ≤ s.gen.rearmMinutes then leaveFailed s else s

/-- The generator controller takes a measurement event (DESIGN CHOICE, log 18 for the order of its own work). -/
def genEvent (s : State) : State := evaluateStart (genTimed (genFitted (genFuel (genCounts s))))

/-! ## Requests (R145, R146) -/

/-- R145: the run in flight is converted to MANUAL, or its load flag and duration replaced. -/
def convertManual (load : Bool) (minutes : Nat) (s : State) : State :=
  let s := onRun (fun r =>
    { r with
      basis := .manual
      opening := if r.basis = .manual then r.opening else some (r.opening.getD r.basis)
      load := load, duration := some minutes, durCount := some 0 }) s
  let s := onOpenRecord (fun x =>
    { x with
      basis := .manual
      opening := if x.basis = .manual then x.opening else some (x.opening.getD x.basis) }) s
  retakeLoad s

/-- R145: the request begins or converts a run. -/
def startManual (load : Bool) (minutes : Nat) (s : State) : State :=
  let s := s.onGen fun g => { g with stopHold := none }
  match s.gen.machine with
  | .idle => beginRun .manual none load (some minutes) s
  | .failed =>
    beginRun .manual none load (some minutes)
      (s.onGen fun g => { g with failReason := none, rearmMinutes := 0, rearmSeconds := 0 })
  | .priming | .cranking | .crankRest | .warmup | .online | .offload => convertManual load minutes s
  | .cooldown | .stopping => s

/-- R145: the states in which GEN START is refused. -/
def manualRefused (s : State) : Bool :=
  s.inForce 3 0 != 1 || s.functionActive fnInhibit || s.gen.fuelEmpty || s.gen.machine == .cooldown ||
    s.gen.machine == .stopping

/-- R145: GEN START. -/
def serveGenStart (minutes loadFlag : Nat) (s : State) : Served :=
  if minutes = 0 ∨ 1 < loadFlag then (s, .refuse .badField)
  else if manualRefused s then (s, .refuse .refusedState)
  else
    (startManual (loadFlag == 1) (min minutes 600) s,
      { result := if 600 < minutes then .clamped else .ok, data := [] })

/-- R146: GEN STOP. A hold of 0 minutes ends at the moment it begins, which opens its gate (R129). -/
def serveGenStop (s : State) : Served :=
  if s.inForce 3 0 = 1 then
    let s := s.onGen fun g =>
      { g with stopHold := if s.inForce 3 21 = 0 then none else some (s.inForce 3 21 * 60) }
    let s := endRun .manualStop s
    (if s.inForce 3 21 = 0 then evaluateStart s else s, .ok)
  else (s, .refuse .refusedState)

/-! ## Exercises and function states (R143, R147) -/

/-- R147: the calendar hands a due exercise. -/
def takeExercise (s : State) : State :=
  if s.gen.machine.inRun then exerciseCounted s
  else
    evaluateStart
      ((s.onGen fun g => { g with exercise := some s.cal.exDuration }).onCal fun c => { c with exState := .waiting })

/-- R143: GEN_INHIBIT changes. -/
def inhibitChanged (s : State) : State :=
  if s.functionActive fnInhibit then endRun .inhibit s else evaluateStart s

end Sys2Proof.Machine
end

