-- ==== Sys2Proof/Machine/Schedule.lean ====
section
/-! DEFINITION. What the calendar hands to the other blocks (08_calendar_and_schedules.md): the day boundary, the
due exercise and the closing window; and the clock requests. -/

namespace Sys2Proof.Machine

/-! ## What a new time brings (R157, R159) -/

/-- R159: the time is the due moment. -/
def atDueMoment (s : State) : Bool :=
  s.cal.second == 0 && s.cal.hour == s.now 3 29 && s.cal.minute == s.now 3 30 &&
    (s.now 3 28 == 7 || s.cal.weekday == s.now 3 28)

/-- R159: the conditions under which a due moment makes an exercise due. Generator fitted counts from the completion of its
write, as the exercise settings do (DESIGN CHOICE, log 54). -/
def exerciseWanted (s : State) : Bool :=
  s.now 3 27 == 1 && s.now 3 0 == 1 && s.cal.valid && s.cal.exState == .none

/-- R159, R147: the exercise becomes DUE and is handed at once; none owed before it is left to be handed again. -/
def makeDue (s : State) : State :=
  takeExercise (s.onCal fun c =>
    { c with
      exState := .due, exDuration := s.now 3 31, exWindow := s.now 3 32 * 3600, exDue := c.date, handAgain := false })

/-- R159 at a time that a tick or an ALIGN has carried to. -/
def dueTest (s : State) : State := if exerciseWanted s && atDueMoment s then makeDue s else s

/-- R157: the time stands at 00:00:00. -/
def atMidnight (s : State) : Bool := s.cal.hour == 0 && s.cal.minute == 0 && s.cal.second == 0

/-- R157 at a time that a tick or an ALIGN has carried to. -/
def boundaryTest (s : State) : State := if atMidnight s then chargeDayBoundary s else s

/-- R154: the flag is reported when it changes, `was` being its value before. -/
def clockTest (was : Bool) (s : State) : State := if s.cal.valid = was then s else reportClock s

/-- What follows a carry of the time (log 15 for the order with the window). -/
def timeCarried (was : Bool) (s : State) : State := dueTest (boundaryTest (clockTest was s))

/-! ## The tick (R153, R160, R161) -/

/-- A tick while the plant supply is present: the time, the window count, and what they bring. -/
def poweredTick (s : State) : State :=
  let was := s.cal.valid
  timeCarried was (windowClosed (s.onCal fun c => c.tick.windowTick))

/-- R153, R157, R160: a tick while the plant supply is absent counts, in a backup domain that is kept, and raises
nothing. -/
def unpoweredTick (s : State) : State := if s.markerGood then s.onCal fun c => c.tick.windowTick else s

/-- R163: an exercise owed across a start is handed at the first measurement event. -/
def calendarEvent (s : State) : State :=
  if s.cal.handAgain then
    let s := s.onCal fun c => { c with handAgain := false }
    if s.cal.exState = .none then s else takeExercise s
  else s

/-! ## Requests (R155, R156) -/

/-- R155: the fields of a SET CLOCK lie in their ranges. -/
def clockFieldsOk (year month day hour minute second : Nat) : Bool :=
  decide (2000 ≤ year ∧ year ≤ 2099 ∧ 1 ≤ month ∧ month ≤ 12 ∧ 1 ≤ day ∧ day ≤ daysInMonth year month ∧
    hour ≤ 23 ∧ minute ≤ 59 ∧ second ≤ 59)

/-- R155: SET CLOCK. -/
def serveSetClock (year month day hour minute second : Nat) (s : State) : Served :=
  if clockFieldsOk year month day hour minute second then
    let was := s.cal.valid
    (clockTest was (s.onCal fun c =>
      { c with
        year := year, month := month, day := day, hour := hour, minute := minute, second := second
        weekday := weekdayOf year month day, valid := true }), .ok)
  else (s, .refuse .badField)

/-- R156: ALIGN CLOCK. -/
def serveAlign (s : State) : Served :=
  if s.cal.valid then
    if s.cal.second ≤ 29 then (s.onCal fun c => { c with second := 0 }, .ok)
    else
      let was := s.cal.valid
      (timeCarried was (s.onCal fun c => Cal.carryMinute { c with second := 0 }), .ok)
  else (s, .refuse .refusedState)

end Sys2Proof.Machine
end

