-- ==== Sys2Proof/Machine/Store.lean ====
section
/-! DEFINITION. The setting store (10_setting_store.md): signatures, locks, the judging of writes and what the
host reads of it. What a completed write brings is in StoreWrite.lean. -/

namespace Sys2Proof.Machine

/-! ## Groups (R182, R183, R185) -/

/-- The working copy of a group. -/
def State.group (s : State) (g : Nat) : List Nat := s.store.work.getD g []

/-- R183: the signature of a run of values. -/
def signatureOf (values : List Nat) : Half := check (values.flatMap (bytesBE 2))

/-- R183: the working signature of a group. -/
def State.signature (s : State) (g : Nat) : Half := signatureOf (s.group g)

/-- R185: SETTINGS_LOST. -/
def reportSettings (s : State) : State :=
  report alSettingsLost (s.store.damaged.any id || s.store.tableDamaged) s

/-- The key: the MAINT_KEY function state. -/
def State.key (s : State) : Bool := s.functionActive fnKey

/-- The protect mode of a group (R186). -/
def State.protectMode (s : State) (g : Nat) : ProtectMode := s.store.modes.getD g .keyed

/-- R187. -/
def State.isSealed (s : State) (g : Nat) : Bool := s.store.sealed.getD g false

/-! ## Locking (R188 to R190) -/

/-- R189: no group is unlocked. -/
def relock (s : State) : State := s.onStore fun x => { x with unlocked := none }

/-- A LOCK GROUP relocks the group it names. -/
def relockGroup (g : Nat) (s : State) : State := if s.store.unlocked = some g then relock s else s

/-- R189: the key has become inactive. -/
def relockKeyed (s : State) : State :=
  match s.store.unlocked with
  | some g => if s.protectMode g = .keyed then relock s else s
  | none => s

/-- R189: the idle count at a measurement event. -/
def storeEvent (s : State) : State :=
  if s.store.unlocked.isSome then
    let s := s.onStore fun x => { x with idle := x.idle + 1 }
    if 600 ≤ s.store.idle then relock s else s
  else s

/-- R188: the group's protection refuses an unlock. -/
def unlockBarred (s : State) (g : Nat) : Bool :=
  s.isSealed g || s.protectMode g == .permanent || (s.protectMode g == .keyed && !s.key)

/-- R188, past its first two checks. -/
def judgeUnlock (g : Nat) (signature : Half) (s : State) : Served :=
  if unlockBarred s g then (s, .refuse .locked)
  else if signature ≠ s.signature g then (s, .refuse .stale)
  else (s.onStore fun x => { x with unlocked := some g, idle := 0 }, .ok)

/-- R188: UNLOCK. -/
def serveUnlock (g : Nat) (signature : Half) (s : State) : Served :=
  if 7 < g then (s, .refuse .badField)
  else if s.store.write.isSome then (s, .refuse .storeBusy)
  else judgeUnlock g signature (relock s)

/-- R190: what every LOCK GROUP is checked for. -/
def serveLock (g : Nat) (s : State) (act : State → Served) : Served :=
  if 7 < g then (s, .refuse .badField)
  else if s.store.write.isSome then (s, .refuse .storeBusy)
  else act s

/-- R190: RELOCK. -/
def serveRelock (g : Nat) (s : State) : Served := serveLock g s fun s => (relockGroup g s, .ok)

/-- R190: SEAL. -/
def serveSeal (g : Nat) (s : State) : Served :=
  serveLock g s fun s => ((relockGroup g s).onStore fun x => { x with sealed := x.sealed.set g true }, .ok)

/-- R190, R193: a store write of the mode table begins with its first copy (log 19). -/
def beginModeWrite (g : Nat) (mode : ProtectMode) (s : State) : State :=
  s.onStore fun x =>
    { x with write := some (.modeTable g mode), copyA := { x.copyA with good := false } }

/-- R190: a new mode. -/
def serveMode (g : Nat) (mode : ProtectMode) (s : State) : Served :=
  serveLock g s fun s =>
    if s.store.unlocked = some g then
      if s.protectMode g = mode then (relock s, .ok) else (beginModeWrite g mode (relock s), .ok)
    else (s, .refuse .locked)

/-! ## Writing (R191 to R193) -/

/-- A relation of R192: the setting `lo` of group `loGroup` lies below (or, if not strict, at or below) the
setting `hi` of group `hiGroup`. -/
structure Relation where
  loGroup : Nat
  lo : Nat
  hiGroup : Nat
  hi : Nat
  strict : Bool
  deriving DecidableEq, Repr, Inhabited

/-- R192: the relations, the chain taken link by link (log 24). -/
def relations : List Relation :=
  [⟨2, 0, 2, 4, true⟩, ⟨2, 4, 2, 9, true⟩, ⟨2, 9, 1, 0, true⟩, ⟨1, 0, 1, 1, true⟩, ⟨1, 1, 1, 2, false⟩,
   ⟨1, 2, 2, 10, true⟩, ⟨1, 3, 1, 4, true⟩, ⟨2, 4, 1, 4, true⟩, ⟨1, 4, 2, 9, true⟩, ⟨0, 14, 3, 25, false⟩]

/-- Whether a relation holds of given settings. -/
def Relation.holds (r : Relation) (value : Nat → Nat → Nat) : Bool :=
  let a := value r.loGroup r.lo
  let b := value r.hiGroup r.hi
  if r.strict then decide (a < b) else decide (a ≤ b)

/-- Index `i` of group `g` takes part in a relation. -/
def Relation.takesPart (r : Relation) (g i : Nat) : Bool :=
  (r.loGroup == g && r.lo == i) || (r.hiGroup == g && r.hi == i)

/-- The values of a group with a run applied from `first` on. -/
def applyRun (old : List Nat) (first : Nat) (values : List Nat) : List Nat :=
  old.take first ++ values ++ old.drop (first + values.length)

/-- The settings as they would stand with group `g` holding `new` (R192). -/
def settingsWith (s : State) (g : Nat) (new : List Nat) (g' i : Nat) : Nat :=
  if g' = g then new.getD i 0 else s.now g' i

/-- R191 step 5: the first index of the run whose value is out of range. -/
def badRangeIndex (s : State) (g first : Nat) (values : List Nat) : Option Nat :=
  (List.range values.length).findSome? fun j =>
    if settingInRange (s.now 0 14) g (first + j) (values.getD j 0) then none else some (first + j)

/-- R191 step 6: whether the write breaks a relation, and the index then named. -/
def badRelationIndex (s : State) (g first : Nat) (values : List Nat) : Option Nat :=
  let new := applyRun (s.group g) first values
  let broken := relations.filter fun r => !r.holds (settingsWith s g new)
  if broken.isEmpty then none
  else
    some (((List.range values.length).findSome? fun j =>
      if broken.any fun r => r.takesPart g (first + j) then some (first + j) else none).getD first)

/-- R191: BAD_FIELD naming an index. -/
def Answer.badIndex (i : Nat) : Answer := { result := .badField, data := field 1 i }

/-- R191, R193: an accepted write begins its store write. -/
def beginGroupWrite (g : Nat) (new : List Nat) (s : State) : State :=
  s.onStore fun x =>
    { x with
      idle := 0
      write := some (.group g new)
      images := x.images.set g { values := new, good := false } }

/-- R191 past its third step. -/
def judgeWrite (g first : Nat) (values : List Nat) (s : State) : Served :=
  if s.store.unlocked ≠ some g then (s, .refuse .locked)
  else
    match badRangeIndex s g first values with
    | some i => (s, .badIndex i)
    | none =>
      match badRelationIndex s g first values with
      | some i => (s, .badIndex i)
      | none => (beginGroupWrite g (applyRun (s.group g) first values) s, .ok)

/-- R191: WRITE SETTINGS, `count` being the count the request names. -/
def serveWrite (g first count : Nat) (values : List Nat) (s : State) : Served :=
  if count = 0 ∨ 40 < count ∨ values.length ≠ count then (s, .refuse .badLength)
  else if 7 < g then (s, .badIndex first)
  else if groupSize g < first + count then (s, .badIndex (max first (groupSize g)))
  else if s.store.write.isSome then (s, .refuse .storeBusy)
  else judgeWrite g first values s

/-! ## What the host reads (R195) -/

/-- R195: READ SETTINGS. -/
def readSettingsAnswer (g first count : Nat) (s : State) : Answer :=
  if count = 0 ∨ 40 < count ∨ 7 < g ∨ groupSize g < first + count then .refuse .badField
  else
    .give (field 1 g ++ field 1 first ++ field 1 count ++
      (List.range count).flatMap fun j => field 2 (s.now g (first + j)))

/-- R211: the store-write field of READ SIGNATURE. -/
def storeWriteField : Option StoreWrite → List Byte
  | some (.group g _) => field 1 g
  | some (.modeTable _ _) => field 1 8
  | none => absentField 1

/-- R195: the idle count, which belongs to the unlocked group (R188). Of another group it does not apply and is sent as
absent (R208; DEDUCED, log 26). -/
def idleField (s : State) (g : Nat) : List Byte :=
  if s.store.unlocked = some g then field 2 s.store.idle
  else absentField 2

/-- R195: READ SIGNATURE. -/
def readSignatureAnswer (g : Nat) (s : State) : Answer :=
  if 7 < g then .refuse .badField
  else
    .give (field 1 g ++ halfBytes (s.signature g) ++ field 1 (modeCode (s.protectMode g)) ++
      flagField (s.isSealed g) ++ flagField (s.store.unlocked == some g) ++ idleField s g ++
      flagField (s.store.damaged.getD g false) ++ flagField s.store.tableDamaged ++
      storeWriteField s.store.write)

end Sys2Proof.Machine
end

