-- ==== Sys2Proof/Machine/Measure.lean ====
section
/-! DEFINITION. The measurement unit (01_plant_supervision_and_measurement.md, R3 to R14) and the ending of the
maintenance hold (R21). -/

namespace Sys2Proof.Machine

/-! ## Presenting a set of readings (R3 to R8) -/

/-- R4: a value between the ends of its range. -/
def within (lo hi x : Int) : Bool := decide (lo ≤ x ∧ x ≤ hi)

/-- R4: bus voltage and load current, presented at the range end when they lie beyond it. -/
def clampReading (hi : Nat) (x : Int) : Nat := min x.toNat hi

/-- R4: their validity. -/
def clampValidity (hi : Nat) (x : Int) : Validity := if within 0 hi x then .valid else .saturated

/-- R7: a string-current channel takes a conversion; `fits` says that its string is fitted by the count in force at the
event, so a count lowered and raised again since the last one leaves the channel as it was (DESIGN CHOICE, log 48). -/
def presentString (fits : Bool) (x : Int) (c : Channel) : Channel :=
  if !fits then unfittedChannel
  else if within (-10000) 10000 x then { reading := x, validity := .valid, held := 0, last := some x }
  else if 10 ≤ c.held then { c with reading := 0, validity := .unusable, held := 10 }
  else { c with reading := c.last.getD 0, validity := .held, held := c.held + 1 }

/-- R5: a thermistor in FALLBACK. -/
def Channel.fallBack (c : Channel) (fallback : Nat) : Channel :=
  { c with reading := fallback, validity := .fallback, held := 600 }

/-- R5: a thermistor channel takes a conversion. -/
def presentTherm (fallback : Nat) (x : Int) (c : Channel) : Channel :=
  if within (-400) 900 x then { reading := x, validity := .valid, held := 0, last := some x }
  else
    match c.last with
    | none => c.fallBack fallback
    | some v =>
      if c.validity = .fallback ∨ (c.validity = .held ∧ 600 ≤ c.held + 1) then c.fallBack fallback
      else { c with reading := v, validity := .held, held := if c.validity = .held then c.held + 1 else 0 }

/-- R8: the fuel channel takes a conversion. -/
def presentFuel (fitted : Bool) (x : Int) (m : Meas) : Meas :=
  if !fitted then { m with fuel := 100, fuelValidity := .notFitted }
  else if within 0 100 x then { m with fuel := x.toNat, fuelValidity := .valid, lastFuel := x.toNat }
  else { m with fuel := m.lastFuel, fuelValidity := .held }

/-- The four string conversions. -/
def stringReading (r : Readings) (i : Nat) : Int := [r.string1, r.string2, r.string3, r.string4].getD i 0

/-- The four thermistor conversions. -/
def thermReading (r : Readings) (i : Nat) : Int := [r.therm1, r.therm2, r.therm3, r.therm4].getD i 0

/-- R3: the presented readings of one event, by the settings in force at it. -/
def presentReadings (r : Readings) (s : State) : State :=
  s.onMeas fun m =>
    presentFuel (s.inForce 3 26 == 1) r.fuel
      { m with
        bus := clampReading 7000 r.bus
        busValidity := clampValidity 7000 r.bus
        load := clampReading 20000 r.load
        loadValidity := clampValidity 20000 r.load
        strings := (List.range 4).map fun i =>
          presentString (decide (i < s.stringsFitted)) (stringReading r i) (s.stringChannel i)
        therms := (List.range 4).map fun t => presentTherm (s.inForce 1 6) (thermReading r t) (s.therm t) }

/-- The elapsed time of the running timers after one more second (log 2). -/
def secondPasses (s : State) : State :=
  (s.onMeas fun m =>
    { m with
      mainsTimer := m.mainsTimer.map (· + 1)
      genTimer := m.genTimer.map (· + 1)
      inputs := m.inputs.map fun x => { x with timer := x.timer.map (· + 10) } }).onSup fun p =>
    { p with hold := p.hold.map fun h => { h with left := h.left - 1 } }

/-- The measurement unit raises the event: the settings taken at measurement events are those now completed
(log 21), the readings are presented, and the account unit has yet to integrate, unless the mode is PROTECT (R81). -/
def raiseEvent (r : Readings) (s : State) : State :=
  presentReadings r
    (secondPasses ((s.onStore fun x => { x with latched := x.work }).onAcct fun a =>
      { a with taken := false, halted := s.sup.mode == .protect }))

/-- R6, R7: the measurement unit's own conditions, BATT_SENSOR first and then the strings in order (DESIGN CHOICE, log 6). -/
def measurementReport (s : State) : State :=
  (List.range 4).foldl
    (fun s i => report (alStringFault + i) ((s.stringChannel i).validity == .unusable) s)
    (report alBattSensor
      ((List.range 4).any fun t =>
        thermistorAssigned s t && ((s.therm t).validity == .held || (s.therm t).validity == .fallback)) s)

/-! ## Counted expiries (R5, R7) -/

/-- Acting on thermistor channel `t`, on string channel `i`. -/
def onTherm (t : Nat) (f : Channel → Channel) (s : State) : State :=
  s.onMeas fun m => { m with therms := m.therms.modify t f }
def onChannel (i : Nat) (f : Channel → Channel) (s : State) : State :=
  s.onMeas fun m => { m with strings := m.strings.modify i f }

/-- R5: thermistor `t` has been HELD for 600 s. -/
def thermistorExpires (t : Nat) (s : State) : State :=
  if (s.therm t).validity = .held ∧ due 600 (s.therm t).held then
    onTherm t (fun c => c.fallBack (s.inForce 1 6)) s
  else s

/-- R7, R29, R68: string channel `i` has become UNUSABLE. STRING_FAULT is reported first, then the account unit's conditions,
and then the charge controller ends a test with TEST_END and STAGE_CHANGE (DESIGN CHOICE, log 6). -/
def channelExpires (i : Nat) (s : State) : State :=
  if (s.stringChannel i).validity = .held ∧ due 11 (s.stringChannel i).held then
    abortIfUnsync (accountReport (makeUnsync i (report (alStringFault + i) true
      (onChannel i (fun c => { c with reading := 0, validity := .unusable, held := 10 }) s))))
  else s

/-! ## AC qualification (R9, R10) -/

/-- R9: the mains sense is at a level; a level that agrees with the qualification runs no timer. -/
def mainsSensed (present : Bool) (s : State) : State :=
  if s.meas.mainsSense = present then s
  else
    s.onMeas fun m =>
      { m with mainsSense := present, mainsTimer := if present = m.mainsQualified then none else some 0 }

/-- R9, R15, R130: mains qualification changes; the source supervisor, then the other blocks, act on it. -/
def setMains (qualified : Bool) (s : State) : State :=
  let old := s.sup
  let s := supervise (s.onMeas fun m => { m with mainsQualified := qualified, mainsTimer := none })
  genMainsChanged (actOnMode old (report alMainsFail (!qualified) s))

/-- R9: the return timer has reached its delay. -/
def mainsReturns (s : State) : State :=
  if s.meas.mainsQualified = false ∧ s.meas.mainsTimer.isSome then setMains true s else s

/-- R9: the fail timer has reached its time. -/
def mainsFails (s : State) : State :=
  if s.meas.mainsQualified = true ∧ s.meas.mainsTimer.isSome then setMains false s else s

/-- R10: the generator sense is at a level. -/
def genSensed (present : Bool) (s : State) : State :=
  if s.meas.genSense = present then s
  else
    s.onMeas fun m =>
      { m with genSense := present, genTimer := if present = m.genPresent then none else some 0 }

/-- R10: the generator sense has been steady for its second. -/
def genQualifies (s : State) : State :=
  if s.meas.genTimer.isSome then
    genAcChanged (s.onMeas fun m => { m with genPresent := m.genSense, genTimer := none })
  else s

/-! ## The end of the hold (R21) -/

/-- R21, R129: an active hold ends, which may open the start gates. HOLD_ACTIVE is reported, and can post ALARM_CHANGE, before
the GEN_RUN_START of a run that begins (DESIGN CHOICE, log 6). -/
def endHold (s : State) : State := if s.sup.hold.isSome then evaluateStart (clearHold s) else s

/-- R21: RELEASE. -/
def serveRelease (s : State) : Served := (endHold s, .ok)

/-- R21, R189: the key becomes inactive. -/
def keyWithdrawn (s : State) : State :=
  relockKeyed (if s.sup.hold.any fun h => h.cause == .key then endHold s else s)

/-! ## Site inputs (R11 to R13) -/

/-- Acting on input `n`. -/
def onInput (n : Nat) (f : SiteInput → SiteInput) (s : State) : State :=
  s.onMeas fun m => { m with inputs := m.inputs.modify n f }

/-- R11: the sense of a raw level through a polarity. -/
def senseOf (polarity : Nat) (level : Bool) : Bool := level != (polarity == 1)

/-- The sense of input `n` by the working polarity. -/
def State.sense (s : State) (n : Nat) : Bool := senseOf (s.now 7 (8 + n)) (s.input n).level

/-- R11: the raw level of input `n` changes. -/
def levelChanges (n : Nat) (level : Bool) (s : State) : State :=
  if (s.input n).level = level then s
  else
    onInput n (fun x =>
      { x with
        level := level
        timer := if senseOf (s.now 7 (8 + n)) level = x.active then none else some 0 }) s

/-- R13: SITE_INPUT of input `n`. -/
def reportInput (n : Nat) (s : State) : State :=
  report (alSiteInput + n) (s.inputFunction n == fnAlarm && (s.input n).active) s

/-- R13: the owner of function `f` is handed its changed state. REMOTE_START is read where R129 and R137 test it. -/
def handFunction (f : Nat) (s : State) : State :=
  if f = fnKey then (if s.key then keyTurned s else keyWithdrawn s)
  else if f = fnInhibit then inhibitChanged s
  else if f = fnOil ∨ f = fnTemp then (if s.functionActive f then takeEngineFault s else s)
  else if f = fnFuelFloat then reportFuel s
  else s

/-- R13: the owner is handed the state of function `f` if it is not `was`. -/
def handIfChanged (f : Nat) (was : Bool) (s : State) : State :=
  if s.functionActive f = was then s else handFunction f s

/-- R12: the edge enable of input `n` for an edge to `active`. -/
def edgeEnabled (s : State) (n : Nat) (active : Bool) : Bool :=
  let e := s.now 7 (24 + n)
  if active then e == 1 || e == 3 else e == 2 || e == 3

/-- R12: the notice of an edge of input `n` to `active`. -/
def postEdge (n : Nat) (active : Bool) (s : State) : State :=
  if edgeEnabled s n active then post .inputEdge (n + 1) (if active then 1 else 0) s else s

/-- R11 to R13: the persistence of input `n` is complete and its qualified state takes the sense. The notice, the
SITE_INPUT report and the handing on come in this order (DESIGN CHOICE, log 6). -/
def inputQualifies (n : Nat) (s : State) : State :=
  let f := s.inputFunction n
  let was := s.functionActive f
  let active := s.sense n
  handIfChanged f was
    (reportInput n (postEdge n active (onInput n (fun x => { x with active := active, timer := none }) s)))

/-- R11: the persistence timer of input `n` runs out. -/
def persistenceExpires (n : Nat) (s : State) : State :=
  if (s.input n).timer.isSome then inputQualifies n s else s

end Sys2Proof.Machine
end

