-- ==== Sys2Proof/Machine/Bus.lean ====
section
/-! DEFINITION. The module bus controller (06_module_bus.md). -/

namespace Sys2Proof.Machine

/-! ## Frames (R116, R119, R213) -/

/-- The address of a slot's module. -/
def moduleAddress (slot : Nat) : Byte := BitVec.ofNat 8 (0xC0 + slot)

/-- A run of bytes followed by its check. -/
def withCheck (bytes : List Byte) : List Byte := bytes ++ halfBytes (check bytes)

/-- R116, R213: the nine bytes of the command in flight. -/
def Exchange.commandFrame (e : Exchange) : List Byte :=
  withCheck ([moduleAddress e.slot, e.tag] ++ flagField e.run ++ field 2 e.setpoint ++ field 2 e.limit)

/-- Byte `i` of the reply held. -/
def Exchange.byte (e : Exchange) (i : Nat) : Byte := ((e.bytes.map LineByte.value).getD i 0)

/-- Two bytes of the reply as a number. -/
def Exchange.pair (e : Exchange) (i : Nat) : Nat := (wordOf (e.byte i) (e.byte (i + 1))).toNat

/-- Bit `i` of the flags byte. -/
def Exchange.flag (e : Exchange) (i : Nat) : Bool := (e.byte 5).getLsbD i

/-- NOT_READY. -/
def Exchange.notReady (e : Exchange) : Bool := e.flag 6

/-- R118: the exchange gives a good reply. -/
def Exchange.good (e : Exchange) : Bool :=
  e.bytes.length == 12 && e.bytes.all LineByte.goodStop && !e.cut && e.byte 0 == moduleAddress e.slot &&
    e.byte 1 == e.tag && check ((e.bytes.map LineByte.value).take 10) == wordOf (e.byte 10) (e.byte 11) &&
    !e.trailing

/-- The status with data a good reply carries (R121). -/
def Exchange.status (e : Exchange) : ModuleData :=
  { current := e.pair 2, temp := signedOf (e.byte 4), running := e.flag 0, limiting := e.flag 1
    faultTemp := e.flag 2, faultOutput := e.flag 3, faultFan := e.flag 4, acFail := e.flag 5 }

/-- R120: the applied setpoint or limit differs from the one sent. -/
def Exchange.differs (e : Exchange) : Bool := e.pair 6 != e.setpoint || e.pair 8 != e.limit

/-! ## The exchange cycle (R115 to R117) -/

/-- Acting on the exchange in flight. -/
def onExchange (f : Exchange → Exchange) (s : State) : State :=
  s.onBus fun b => { b with exchange := f b.exchange }

/-- R120: every repeat mark is clear but that of the slot whose repeat begins. -/
def markRepeat (again : Option Nat) (links : List (Option LinkRec)) : List (Option LinkRec) :=
  links.mapIdx fun i l => l.map fun l => { l with repeated := again == some i }

/-- R116: an exchange begins, its command built from the values of the moment. -/
def beginExchange (slot : Nat) (tag : Byte) (again : Option Nat) (s : State) : State :=
  s.onBus fun b =>
    { b with
      tag := tag
      links := markRepeat again b.links
      exchange :=
        { slot := slot, tag := tag, run := (s.slot slot).state.commanded, setpoint := s.charge.setpoint
          limit := s.rect.im, phase := .sending, bytes := [], cut := false, trailing := false
          orphan := false } }

/-- R115: the slot after `slot` in the cycle of `fitted` slots. -/
def nextSlot (fitted slot : Nat) : Nat := if slot + 1 < fitted then slot + 1 else 0

/-- R116, R117: the phase changes when it is `old`. -/
def phaseTo (old new : Phase) (f : Exchange → Exchange) (s : State) : State :=
  if s.bus.exchange.phase = old then onExchange (fun e => { f e with phase := new }) s else s

/-- R117: a byte of a reply begins. -/
def Exchange.take (b : LineByte) (e : Exchange) : Exchange :=
  match e.phase with
  | .sending => e
  | .window => { e with phase := .receiving, bytes := [b] }
  | .receiving =>
    { e with
      bytes := e.bytes ++ [b]
      phase := if 12 ≤ e.bytes.length + 1 then .turnaround else .receiving }
  | .turnaround => { e with trailing := true }

/-- R117: the bytes of a reply, one after another. -/
def takeBytes (bytes : List LineByte) (s : State) : State :=
  bytes.foldl (fun s b => onExchange (Exchange.take b) s) s

/-! ## Judging (R118, R121 to R124) -/

/-- R124: MODULE_BUS_FAIL. -/
def reportBusFail (s : State) : State :=
  report alModuleBusFail ((List.range s.bus.fitted).all fun i => (s.slot i).state == .absent) s

/-- R122, R123: a good reply on a link record. -/
def LinkRec.good (l : LinkRec) : LinkRec :=
  match l.state with
  | .heard => { l with misses := 0 }
  | .unheard | .lost =>
    if 2 ≤ l.goods + 1 then { l with state := .heard, misses := 0, goods := 0 }
    else { l with misses := 0, goods := l.goods + 1 }

/-- R122: a miss on a link record. In LOST, too, the count rises from what a good reply left (DESIGN CHOICE, log 46). -/
def LinkRec.miss (l : LinkRec) : LinkRec :=
  { l with
    misses := min 3 (l.misses + 1)
    goods := 0
    state := if 3 ≤ l.misses + 1 then .lost else l.state }

/-- The link record of a slot. -/
def State.linkRec (s : State) (i : Nat) : Option LinkRec := s.bus.links.getD i none

/-- The link record of slot `i` is written. -/
def setLink (i : Nat) (l : LinkRec) (s : State) : State :=
  s.onBus fun b => { b with links := b.links.set i (some l) }

/-- R121, R123: what a good reply from a link in state `l` hands on. At a found report the scheduler acts and reports before
MODULE_BUS_FAIL is (DESIGN CHOICE, log 6). -/
def handGood (e : Exchange) (l : LinkRec) (s : State) : State :=
  if l.state = .heard then (if e.notReady then s else takeStatus e.slot e.status s)
  else if l.good.state = .heard then reportBusFail (takeFound e.slot s)
  else s

/-- R122: what a miss hands on. At a lost report the scheduler acts and reports before MODULE_BUS_FAIL is (DESIGN CHOICE,
log 6). -/
def handMiss (e : Exchange) (l : LinkRec) (s : State) : State :=
  if l.state ≠ .lost ∧ l.miss.state = .lost then reportBusFail (takeLost e.slot s) else s

/-- R118, R121 to R123: the exchange is judged and its outcome handed on; an orphan's is not (R125). -/
def judgeExchange (e : Exchange) (s : State) : State :=
  match e.orphan, s.linkRec e.slot with
  | false, some l =>
    if e.good then handGood e l (setLink e.slot l.good s) else handMiss e l (setLink e.slot l.miss s)
  | _, _ => s

/-- R120: the next exchange repeats this one. -/
def repeats (e : Exchange) (l : Option LinkRec) : Bool :=
  !e.orphan && e.good && !e.notReady && e.differs &&
    l.any fun l => l.state == .heard && !l.repeated

/-- R118: TURNAROUND ends. -/
def turnaroundEnds (s : State) : State :=
  let e := s.bus.exchange
  if e.phase = .turnaround then
    let again := repeats e (s.linkRec e.slot)
    let s := judgeExchange e s
    if again then beginExchange e.slot (s.bus.tag + 1) (some e.slot) s
    else beginExchange (nextSlot s.bus.fitted e.slot) (s.bus.tag + 1) none s
  else s

/-! ## The measurement event (R124, R125) -/

/-- R125: the links brought to the fitted count in force at the event; a count lowered and restored since the last one
leaves them as they were (DESIGN CHOICE, log 48). -/
def refitLinks (s : State) : State :=
  let new := s.inForce 0 15
  s.onBus fun b =>
    { b with
      fitted := new
      links := (List.range 12).map fun i =>
        if i < new then (if i < b.fitted then b.links.getD i none else some unheardLink) else none
      exchange := { b.exchange with orphan := b.exchange.orphan || decide (new ≤ b.exchange.slot) } }

/-- The module bus controller takes a measurement event. -/
def busEvent (s : State) : State := reportBusFail (refitLinks s)

/-! ## Starts (R126) -/

/-- R126: the link records and the first exchange after a start. -/
def busStart (s : State) : State :=
  let fitted := s.inForce 0 15
  beginExchange 0 0 none (s.onBus fun b =>
    { b with
      fitted := fitted
      links := (List.range 12).map fun i => if i < fitted then some unheardLink else none })

end Sys2Proof.Machine
end

