-- ==== Sys2Proof/Machine/Flags.lean ====
section
/-! DEFINITION. What stands on the part's outputs and in its digest at every moment: the generator outputs and the
changeover (R127, R128), the contactor drives (R72), the relays and the lamp (R176, R178), and the digest of
every reply (R200, R209). All of it is computed from the state. -/

namespace Sys2Proof.Machine

/-! ## Generator outputs (R127, R128) -/

/-- The prime output is driven. -/
def State.primeDriven (s : State) : Bool := s.powered && s.gen.machine == .priming

/-- The crank output is driven. -/
def State.crankDriven (s : State) : Bool := s.powered && s.gen.machine == .cranking

/-- The states in which the run output is held on. -/
def GenState.runs : GenState → Bool
  | .priming => true | .cranking => true | .crankRest => true | .warmup => true | .online => true
  | .offload => true | .cooldown => true | .idle => false | .stopping => false | .failed => false

/-- The run output is driven. -/
def State.runDriven (s : State) : Bool := s.powered && s.gen.machine.runs

/-- The changeover selects the generator. -/
def State.changeoverGenerator (s : State) : Bool := s.powered && s.online

/-! ## Contactors (R72) -/

/-- The NEL drive is driven. -/
def State.nelDriven (s : State) : Bool := s.powered && s.prot.nel == .closed

/-- The BPD drive is driven. -/
def State.bpdDriven (s : State) : Bool := s.powered && s.prot.bpd == .closed

/-! ## Relays and lamp (R176 to R178) -/

/-- Code `c` is mapped to relay `k`, counted from 0. -/
def State.mapped (s : State) (k c : Nat) : Bool := (s.now 6 c).testBit k

/-- R176: relay `k` is held energised. -/
def State.relayEnergised (s : State) (k : Nat) : Bool :=
  s.powered && s.alarm.evaluated &&
    (List.range 40).all fun c => !s.mapped k c || (s.record c).state == .idle

/-- The three ways of the lamp. -/
inductive LampWay where
  | flashing | steady | dark
  deriving DecidableEq, Repr, Inhabited

/-- R178. -/
def State.lampWay (s : State) : LampWay :=
  if !s.alarm.evaluated then .steady
  else if s.alarm.flashing then .flashing
  else if s.alarm.records.any fun r => r.state == .activeSeen then .steady
  else .dark

/-- The lamp is lit. -/
def State.lampLit (s : State) : Bool :=
  s.powered &&
    match s.lampWay with
    | .flashing => s.alarm.lampLit
    | .steady => true
    | .dark => false

/-- R178: a half of the flashing has run out. -/
def lampHalf (s : State) : State :=
  if s.lampWay = .flashing then s.onAlarm fun a => { a with lampLit := !a.lampLit } else s

/-! ## The digest (R200, R209) -/

/-- A flag at bit `i`. -/
def bitAt (i : Nat) (b : Bool) : Nat := if b then 2 ^ i else 0

/-- Digest byte 3. -/
def digestFlags (s : State) (result : Result) : Nat :=
  bitAt 0 s.link.overrun + bitAt 1 s.alarm.resync + bitAt 2 (result == .clamped) +
    bitAt 3 s.sup.hold.isSome + bitAt 4 s.link.snapshot.isSome

/-- R205: the snapshot age of a reply: that of the copy as a SNAPSHOT read found it, else that of the snapshot held
(DEDUCED, log 41). -/
def replyAge (s : State) (h : InHand) : Option Nat := h.age.orElse fun _ => s.link.snapshot.map Snapshot.age

/-- The digest of the reply to the request in hand. -/
def digest (s : State) (h : InHand) : List Byte :=
  field 1 (16 * s.sup.mode.code + s.charge.stage.code) ++
    field 1 (16 * s.gen.machine.code + s.highestUnseen) ++ field 1 s.alarm.notices.length ++
    field 1 (digestFlags s h.result) ++ optField 1 (replyAge s h)

end Sys2Proof.Machine
end

