-- ==== Sys2Proof/Machine/Records.lean ====
section
/-! DEFINITION. The records read over the link (R208, R211, R212) and the sections of STATUS (R203). The widths and
places that R208 leaves open are those of log 11. -/

namespace Sys2Proof.Machine

/-! ## Readings (R211) -/

/-- Bits gathered into a byte, the first in bit 0. -/
def bitsField (bits : List Bool) : List Byte := field 1 ((bits.mapIdx bitAt).sum)

/-- READ MEASURE. -/
def measureRecord (s : State) : List Byte :=
  field 2 s.meas.bus ++ field 2 s.meas.load ++
    ((List.range 4).flatMap fun i => signedField 2 (s.stringChannel i).reading) ++
    ((List.range 4).flatMap fun t => signedField 2 (s.therm t).reading) ++ field 1 s.meas.fuel ++
    field 1 s.meas.busValidity.code ++ field 1 s.meas.loadValidity.code ++
    ((List.range 4).flatMap fun i => field 1 (s.stringChannel i).validity.code) ++
    ((List.range 4).flatMap fun t => field 1 (s.therm t).validity.code) ++ field 1 s.meas.fuelValidity.code ++
    bitsField ((List.range 8).map fun n => (s.input n).active) ++
    bitsField ((List.range 7).map fun f => s.functionActive (f + 1)) ++
    bitsField [s.meas.mainsQualified, s.meas.genPresent]

/-! ## Strings (R44, R212) -/

/-- The last test of a string. -/
def testBytes : Option TestResult → List Byte
  | some t => field 1 t.outcome.code ++ field 4 t.endTime ++ field 4 t.delivered ++ field 2 t.minutes ++ optField 1 t.health
  | none => absentField 12

/-- The last health of a string. -/
def healthBytes : Option HealthResult → List Byte
  | some h => field 1 h.health ++ field 4 h.endTime
  | none => absentField 5

/-- The channel part of a string record. -/
def channelBytes (c : Channel) : List Byte := field 1 c.validity.code ++ signedField 2 c.reading

/-- The record of string `i`, counted from 0. -/
def stringRecord (s : State) (i : Nat) : List Byte :=
  match s.stringRec i with
  | some r =>
    field 1 (i + 1) ++ field 1 r.sync.code ++ field 2 r.capacity ++ field 4 r.account ++
      signedField 4 r.residue ++ field 1 r.soc ++ field 4 r.deficit ++ channelBytes (s.stringChannel i) ++
      optField 4 r.delivered ++ testBytes r.lastTest ++ healthBytes r.lastHealth
  | none =>
    field 1 (i + 1) ++ field 1 2 ++ List.replicate 15 0#8 ++ channelBytes (s.stringChannel i) ++ absentField 4 ++
      testBytes none ++ healthBytes none

/-! ## Slots (R112, R212) -/

/-- The place of `i` in a list, counted from 1, or 0. -/
def placeIn (i : Nat) (l : List Nat) : Nat := if l.contains i then l.idxOf i + 1 else 0

/-- R112: the position of a slot. -/
def State.position (s : State) (i : Nat) : Nat := max (placeIn i s.rect.running) (placeIn i s.rect.queue)

/-- The status part of a slot record's flags byte. -/
def statusBits : Option ModuleData → Nat
  | some d =>
    bitAt 0 d.running + bitAt 1 d.limiting + bitAt 2 d.faultTemp + bitAt 3 d.faultOutput + bitAt 4 d.faultFan +
      bitAt 5 d.acFail + bitAt 7 true
  | none => 0

/-- The current and temperature of a slot record. -/
def statusBytes : Option ModuleData → List Byte
  | some d => field 2 d.current ++ signedField 1 d.temp
  | none => List.replicate 3 0#8

/-- The record of slot `i`. -/
def slotRecord (s : State) (i : Nat) : List Byte :=
  let x := s.slot i
  field 1 (16 * i + s.position i) ++ field 1 (16 * x.answering.code + x.state.code) ++ field 3 x.hours ++
    field 1 x.faults ++ statusBytes x.data ++ field 1 (statusBits x.data + bitAt 6 x.state.commanded) ++
    field 4 x.lastChange

/-! ## Alarms and notices (R181, R208, R212) -/

/-- R208: the age of an alarm record's time. -/
def ageField (now : Nat) : Option Nat → List Byte
  | some t => field 3 (min 16777214 (now - t))
  | none => absentField 3

/-- The record of code `c`. -/
def alarmRecord (s : State) (c : Nat) : List Byte :=
  let r := s.record c
  field 1 (r.state.code + 4 * s.severity c + bitAt 4 (s.latching c) + bitAt 5 r.cond) ++ field 1 r.occurrences ++
    field 1 r.qual ++ ageField s.stamp r.firstRaised ++ ageField s.stamp r.lastChange

/-- A notice. -/
def noticeRecord (n : Notice) : List Byte :=
  field 1 n.kind.code ++ field 1 n.subject ++ field 2 n.value ++ field 4 n.time

/-! ## Runs (R150, R212) -/

/-- A run record. -/
def runRecord (r : RunRec) : List Byte :=
  field 1 r.basis.code ++ optField 1 (r.opening.map Basis.code) ++ field 4 r.startTime ++ optField 4 r.warmupEnd ++
    optField 4 r.stopTime ++ optField 1 (r.stopReason.map StopReason.code) ++ field 1 r.attempts ++
    field 1 r.fuelStart ++ optField 1 r.fuelStop ++ flagField r.reachedOnline

/-- The run record at an age, or an empty one. -/
def runLogRecord (s : State) (age : Nat) : List Byte :=
  match s.gen.log[age]? with
  | some r => runRecord r
  | none => absentField 19

/-! ## The clock (R211) -/

/-- The last exercise. -/
def lastExerciseBytes : Option LastExercise → List Byte
  | some e => field 2 e.date.year ++ field 1 e.date.month ++ field 1 e.date.day ++ field 1 e.outcome.code
  | none => absentField 5

/-- READ CLOCK, as R211 lays it out: the duration of R158's record has no field there (DEDUCED, log 51). -/
def clockRecord (c : Cal) : List Byte :=
  field 2 c.year ++ field 1 c.month ++ field 1 c.day ++ field 1 c.hour ++ field 1 c.minute ++ field 1 c.second ++
    field 1 c.weekday ++ flagField c.valid ++ field 1 c.exState.code ++
    (if c.exState = .none then absentField 4 else field 4 c.exWindow) ++ flagField c.missed ++
    lastExerciseBytes c.last

/-! ## The sections of STATUS (R203) -/

/-- PLANT. The strap status is sent as 0 for GOOD and 1 for FAULT, and the whole minutes left of the hold are truncated
(DESIGN CHOICE, log 53). -/
def plantSection (s : State) : List Byte :=
  field 1 s.sup.mode.code ++ flagField s.sup.ac ++ flagField s.meas.mainsQualified ++ flagField s.meas.genPresent ++
    flagField s.sup.hold.isSome ++ optField 1 (s.sup.hold.map fun h => h.cause.code) ++
    optField 2 (s.sup.hold.map fun h => h.left / 60) ++ field 1 s.link.address ++ flagField s.link.strapFault ++
    field 1 s.sup.startKind.code ++ field 1 s.sup.startCause.code ++ field 1 s.link.rate

/-- A value that applies only in one stage. -/
def inStage (s : State) (stage : Stage) (v : Nat) : Option Nat := if s.charge.stage = stage then some v else none

/-- R60: the remaining minutes, while RUNNING or SUSPENDED. -/
def EqRec.minutesLeft (e : EqRec) : Option Nat :=
  match e.state with
  | .running | .suspended => some (e.remaining / 60)
  | .none | .pending => none

/-- R70: CHARGE. -/
def chargeSection (s : State) : List Byte :=
  let c := s.charge
  field 1 c.stage.code ++ field 2 c.setpoint ++ field 2 c.ibl ++ signedField 2 c.tb ++ signedField 2 c.tc ++
    flagField c.latch ++ optField 1 (inStage s .bulk c.absorbCount) ++ optField 2 (inStage s .absorb c.tailCount) ++
    optField 4 (inStage s .absorb c.absorbTimer) ++ flagField c.armed ++ field 1 c.eq.state.code ++
    optField 2 c.eq.minutesLeft ++ field 2 c.eq.dayCount ++ field 2 c.eq.daysWaiting ++
    optField 1 (c.test.map TestRec.target) ++ optField 2 (c.test.map fun t => t.elapsed / 60)

/-- R85: PROTECTION. -/
def protectionSection (s : State) : List Byte :=
  let p := s.prot
  field 1 p.nel.code ++ optField 1 (p.shedCause.map ShedCause.code) ++ field 1 p.bpd.code ++ field 2 p.shedCount ++
    field 2 p.nelCount ++ field 2 p.disconnectCount ++ field 2 p.bpdCount ++ field 1 p.dischargeCount

/-- The swap record. -/
def swapBytes : Option Swap → List Byte
  | some w =>
    field 1 w.incoming ++ field 1 w.outgoing ++ field 1 w.phase.code ++
      optField 2 (if w.phase = .overlap then some w.overlap else none)
  | none => absentField 5

/-- The last swap record. -/
def lastSwapBytes : Option LastSwap → List Byte
  | some w => field 1 w.incoming ++ field 1 w.outgoing ++ field 1 w.outcome.code ++ field 4 w.endTime
  | none => absentField 7

/-- R112: ROSTER. -/
def rosterSection (s : State) : List Byte :=
  field 1 s.nUp ++ field 1 s.nDown ++ field 1 s.nRun ++ field 2 s.rect.im ++ field 1 (availableCount s) ++
    optField 1 (if s.online then some s.nGen else none) ++ swapBytes s.rect.swap ++ lastSwapBytes s.rect.lastSwap ++
    field 2 (s.rect.rotation / 3600) ++ flagField (rotationIsDue s) ++ flagField s.rect.rotationRequest

/-- The minutes of duration left of an EXERCISE or MANUAL run, truncated (DESIGN CHOICE, log 53). -/
def Run.minutesLeft (r : Run) : Option Nat :=
  r.duration.map fun d => (d * 60 - (r.durCount.getD 0)) / 60

/-- The run in flight. -/
def runBytes : Option Run → List Byte
  | some r =>
    field 1 r.basis.code ++ optField 1 (r.opening.map Basis.code) ++ flagField r.exMark ++
      (if r.basis = .manual then flagField r.load else absentField 1) ++ field 1 r.attempts ++
      optField 4 (r.warmupEnd.map fun _ => r.runTime) ++
      optField 2 r.minutesLeft
  | none => absentField 11

/-- R150: GENERATOR. The minutes left of the manual-stop hold are truncated (DESIGN CHOICE, log 53). -/
def generatorSection (s : State) : List Byte :=
  let g := s.gen
  field 1 g.machine.code ++ field 4 g.stateCount ++ runBytes g.run ++ optField 1 (g.failReason.map FailReason.code) ++
    optField 4 (if g.machine = .failed then some g.rearmMinutes else none) ++ field 2 g.restCount ++ flagField g.stopHold.isSome ++
    optField 1 (g.stopHold.map (· / 60)) ++ flagField (causeMainsFail s) ++ flagField (causeAccountLow s) ++
    flagField (causeBusLow s) ++ flagField (causeRemote s) ++ flagField (causeExercise s) ++
    optField 4 (g.mainsFailTimer.map (· / 60)) ++ flagField g.spent ++ flagField g.fuelLow ++ flagField g.fuelEmpty ++
    flagField s.online

end Sys2Proof.Machine
end

