-- ==== Sys2Proof/Machine/Link.lean ====
section
/-! DEFINITION. The link unit (11_station_link.md): the straps, the receiver, frames, the taking of requests, the
reading requests, and the snapshot. -/

namespace Sys2Proof.Machine

/-! ## The station address (R198) -/

/-- The lower ends of the twelve bands, in ohms. -/
def bandEdges : List Nat :=
  [3000, 5600, 8200, 12000, 18000, 27000, 39000, 56000, 82000, 120000, 180000, 270000]

/-- R198: the band of a strap, if it is in range. -/
def strapBand (ohms : Nat) : Option Nat :=
  if 3000 ≤ ohms ∧ ohms ≤ 470000 then some ((bandEdges.filter fun e => decide (e ≤ ohms)).length - 1) else none

/-- R198: the station address of two straps, or none for a FAULT. -/
def strapAddress (a b : Nat) : Option Nat :=
  match strapBand a, strapBand b with
  | some x, some y => some (12 * x + y)
  | _, _ => none

/-- R196, R198, R207: the link unit after a start. -/
def linkStart (p : Pins) (s : State) : State :=
  let a := strapAddress p.strapA p.strapB
  s.onLink fun _ =>
    { address := a.getD Config.serviceAddress, strapFault := a.isNone, rate := s.now 7 36, receiver := .deaf
      run := [], inHand := none, reply := none, overrun := false, snapshot := none, restartDue := false }

/-! ## The reading requests (R199 steps 3 and 4, R201) -/

/-- R199 steps 3 and 4: the result that a source flag gives a read, if it fails. -/
def sourceResult (accepts : Bool) (source : Byte) (s : State) : Option Result :=
  if source = 0#8 then none
  else if source = 1#8 ∧ accepts then (if s.link.snapshot.isSome then none else some .noSnapshot)
  else some .badField

/-- R205: an answer read from the snapshot `k` carries its age. -/
def Answer.fromCopy (k : Snapshot) (a : Answer) : Answer :=
  if a.result = .ok then { a with age := some k.age } else a

/-- A read answered from the live tables or from the snapshot. -/
def readFrom (source : Byte) (live : State → Answer) (copy : Snapshot → Answer) (s : State) : Answer :=
  match sourceResult true source s with
  | some r => .refuse r
  | none =>
    if source = 0#8 then live s
    else
      match s.link.snapshot with
      | some k => (copy k).fromCopy k
      | none => .refuse .noSnapshot

/-- A read that is answered live only. -/
def readLive (source : Byte) (live : State → Answer) (s : State) : Answer :=
  match sourceResult false source s with
  | some r => .refuse r
  | none => live s

/-- A run of records of a table of `size`, at most `most` at once. -/
def recordRun (size most first count : Nat) (record : Nat → List Byte) : Answer :=
  if count = 0 ∨ most < count ∨ size < first + count then .refuse .badField
  else .give ((List.range count).flatMap fun j => record (first + j))

/-- R203: STATUS, answered live. -/
def statusAnswer (sect : Nat) (s : State) : Answer :=
  match sect with
  | 0 => .give (plantSection s)
  | 1 => .give (chargeSection s)
  | 2 => .give (protectionSection s)
  | 3 => .give (rosterSection s)
  | 4 => .give (generatorSection s)
  | _ => .refuse .badField

/-- R201, R203: STATUS; the GENERATOR section alone accepts SNAPSHOT. -/
def serveStatus (source sect : Byte) (s : State) : Served :=
  (s, if sect = 4#8 then readFrom source (statusAnswer 4) (fun k => .give k.generator) s
      else readLive source (statusAnswer sect.toNat) s)

/-- R201: READ MEASURE. -/
def serveMeasure (source : Byte) (s : State) : Served :=
  (s, readFrom source (fun s => .give (measureRecord s)) (fun k => .give k.measure) s)

/-- R44: READ STRING, the string counted from 1. -/
def stringAnswer (string : Nat) (record : Nat → List Byte) : Answer :=
  if string = 0 ∨ 4 < string then .refuse .badField else .give (record (string - 1))

def serveString (source string : Byte) (s : State) : Served :=
  (s, readFrom source (fun s => stringAnswer string.toNat (stringRecord s))
    (fun k => stringAnswer string.toNat fun i => k.strings.getD i []) s)

/-- R112: READ ROSTER. -/
def serveRoster (source first count : Byte) (s : State) : Served :=
  (s, readFrom source (fun s => recordRun 12 6 first.toNat count.toNat (slotRecord s))
    (fun k => recordRun 12 6 first.toNat count.toNat fun i => k.slots.getD i []) s)

/-- R181: READ ALARMS. -/
def serveAlarms (source first count : Byte) (s : State) : Served :=
  (s, readFrom source (fun s => recordRun 40 10 first.toNat count.toNat (alarmRecord s))
    (fun k => recordRun 40 10 first.toNat count.toNat fun c => k.alarms.getD c []) s)

/-- R174: what NEXT NOTICE does to the queue, and the data it returns. -/
def takeNotice (s : State) : Served :=
  match s.alarm.notices with
  | n :: rest => (s.onAlarm fun a => { a with notices := rest }, .give (field 1 0 ++ noticeRecord n))
  | [] =>
    if s.alarm.resync then (s.onAlarm fun a => { a with resync := false }, .give (field 1 2))
    else (s, .give (field 1 1))

/-- R174: NEXT NOTICE. -/
def serveNotice (source : Byte) (s : State) : Served :=
  match sourceResult false source s with
  | some r => (s, .refuse r)
  | none => takeNotice s

/-- R150: READ RUNLOG. -/
def serveRunlog (source age : Byte) (s : State) : Served :=
  (s, readLive source
    (fun s => if 23 < age.toNat then .refuse .badField else .give (runLogRecord s age.toNat)) s)

/-- R201: READ CLOCK. -/
def serveClock (source : Byte) (s : State) : Served := (s, readLive source (fun s => .give (clockRecord s.cal)) s)

/-- R195: READ SETTINGS. -/
def serveSettings (source group first count : Byte) (s : State) : Served :=
  (s, readLive source (readSettingsAnswer group.toNat first.toNat count.toNat) s)

/-- R195: READ SIGNATURE. -/
def serveSignature (source group : Byte) (s : State) : Served :=
  (s, readLive source (readSignatureAnswer group.toNat) s)

/-! ## The snapshot (R205) -/

/-- R205: the copy made at the moment a SNAPSHOT is taken. -/
def makeSnapshot (s : State) : Snapshot :=
  { measure := measureRecord s
    strings := (List.range 4).map (stringRecord s)
    slots := (List.range 12).map (slotRecord s)
    alarms := (List.range 40).map (alarmRecord s)
    generator := generatorSection s
    age := 0 }

/-- R205: SNAPSHOT. -/
def serveSnapshot (s : State) : Served := (s.onLink fun l => { l with snapshot := some (makeSnapshot s) }, .ok)

/-- R205: the snapshot at a measurement event. -/
def Snapshot.tick (k : Snapshot) : Option Snapshot := if 60 ≤ k.age + 1 then none else some { k with age := k.age + 1 }

/-- The link unit takes a measurement event. -/
def linkEvent (s : State) : State := s.onLink fun l => { l with snapshot := l.snapshot.bind Snapshot.tick }

/-- R205: the drop of a snapshot at its 60th event. -/
def dropSnapshot (s : State) : State :=
  s.onLink fun l => { l with snapshot := l.snapshot.filter fun k => !due 60 k.age }

/-! ## Acknowledgement (R168, R170) -/

/-- The codes an ACK ALARM selects: those whose working severity is at or above `v`. -/
def codesAtLeast (s : State) (v : Nat) : List Nat := (List.range 40).filter fun c => decide (v ≤ s.severity c)

/-- R168: ACK ALARM. -/
def serveAck (form selector : Byte) (s : State) : Served :=
  if form = 0#8 ∧ selector.toNat ≤ 39 then (ackRecord selector.toNat s, .ok)
  else if form = 1#8 ∧ selector.toNat ≤ 3 then
    ((codesAtLeast s selector.toNat).foldl (fun s c => ackRecord c s) s, .ok)
  else (s, .refuse .badField)

/-- R170: RESET LATCH. -/
def serveResetLatch (s : State) : Served := ((List.range 40).foldl (fun s c => unlatchRecord c s) s, .ok)

/-! ## RESTART (R206) -/

/-- R206: RESTART; the start waits for the end of its reply. -/
def serveRestart (s : State) : Served := (s.onLink fun l => { l with restartDue := true }, .ok)

/-! ## Requests and their owners (R199, R204, R210) -/

/-- Every request with the serving of its owner. A command that is no request is answered as a kind that names
none. -/
def serveRequest : Instr → State → Served
  | .status source sect => serveStatus source sect
  | .readMeasure source => serveMeasure source
  | .readString source string => serveString source string
  | .readRoster source first count => serveRoster source first count
  | .readAlarms source first count => serveAlarms source first count
  | .nextNotice source => serveNotice source
  | .readRunlog source age => serveRunlog source age
  | .readClock source => serveClock source
  | .readSettings source group first count => serveSettings source group first count
  | .readSignature source group => serveSignature source group
  | .snapshot => serveSnapshot
  | .setClock year month day hour minute second =>
    serveSetClock year.toNat month.toNat day.toNat hour.toNat minute.toNat second.toNat
  | .alignClock => serveAlign
  | .ackAlarm form selector => serveAck form selector
  | .resetLatch => serveResetLatch
  | .hold minutes => serveHold minutes.toNat
  | .release => serveRelease
  | .genStart minutes loadFlag => serveGenStart minutes.toNat loadFlag.toNat
  | .genStop => serveGenStop
  | .equalizeStart => serveEqualizeStart
  | .equalizeStop => serveEqualizeStop
  | .capacityTestStart target => serveTestStart target.toNat
  | .capacityTestAbort => serveTestAbort
  | .rectifierLockout slot => serveLockout slot.toNat
  | .rectifierRestore slot => serveRestore slot.toNat
  | .rotateNow => serveRotateNow
  | .unlock group signature => serveUnlock group.toNat signature
  | .lockGroupRelock group => serveRelock group.toNat
  | .lockGroupSeal group => serveSeal group.toNat
  | .lockGroupMode group mode => serveMode group.toNat mode
  | .writeSettings group first count values => serveWrite group.toNat first.toNat count.toNat (values.map BitVec.toNat)
  | .restart => serveRestart
  | _ => fun s => (s, .refuse .unknownKind)

/-- R199: a request of kind `kind` is in hand with its owner's answer, the overrun mark clear. -/
def holdAnswer (kind : Byte) (a : Answer) (s : State) : State :=
  s.onLink fun l =>
    { l with
      receiver := .inHand, run := [], overrun := false, reply := none
      inHand := some { kind := kind, result := a.result, data := a.data, age := a.age } }

/-- The receiver can take a request: none is in hand, and it is not DEAF (R196, R202). -/
def State.hears (s : State) : Bool := s.link.receiver == .listening || s.link.receiver == .collecting

/-- R199: a request of kind `kind` is taken and handed to its owner. -/
def takeRequest (kind : Byte) (serve : State → Served) (s : State) : State :=
  holdAnswer kind (serve s).2 (serve s).1

/-! ## Frames (R197, R209, R210) -/

/-- The pairs of bytes of a run, high byte first; `none` when a byte is left over. -/
def pairsOf : List Byte → Option (List Half)
  | [] => some []
  | [_] => none
  | hi :: lo :: rest => (pairsOf rest).map (wordOf hi lo :: ·)

/-- LOCK GROUP's action (R210). -/
def lockRequest (group action : Byte) : Instr ⊕ Result :=
  if action = 0#8 then .inl (.lockGroupRelock group)
  else if action = 1#8 then .inl (.lockGroupSeal group)
  else if action = 2#8 then .inl (.lockGroupMode group .open_)
  else if action = 3#8 then .inl (.lockGroupMode group .keyed)
  else if action = 4#8 then .inl (.lockGroupMode group .permanent)
  else .inr .badField

/-- WRITE SETTINGS' payload (R191 step 1). -/
def writeRequest : List Byte → Instr ⊕ Result
  | group :: first :: count :: values =>
    match pairsOf values with
    | some v => .inl (.writeSettings group first count v)
    | none => .inr .badLength
  | _ => .inr .badLength

/-- R199 steps 1 and 2, R210: the request that a kind and a payload spell, or the result that refuses it. -/
def requestOf (kind : Nat) (payload : List Byte) : Instr ⊕ Result :=
  match kind, payload with
  | 0x01, [source, sect] => .inl (.status source sect)
  | 0x02, [source] => .inl (.readMeasure source)
  | 0x03, [source, string] => .inl (.readString source string)
  | 0x04, [source, first, count] => .inl (.readRoster source first count)
  | 0x05, [source, first, count] => .inl (.readAlarms source first count)
  | 0x06, [source] => .inl (.nextNotice source)
  | 0x07, [source, age] => .inl (.readRunlog source age)
  | 0x08, [source] => .inl (.readClock source)
  | 0x09, [source, group, first, count] => .inl (.readSettings source group first count)
  | 0x0A, [source, group] => .inl (.readSignature source group)
  | 0x0B, [] => .inl .snapshot
  | 0x20, [y1, y0, month, day, hour, minute, second] =>
    .inl (.setClock (wordOf y1 y0) month day hour minute second)
  | 0x21, [] => .inl .alignClock
  | 0x22, [form, selector] => .inl (.ackAlarm form selector)
  | 0x23, [] => .inl .resetLatch
  | 0x24, [m1, m0] => .inl (.hold (wordOf m1 m0))
  | 0x25, [] => .inl .release
  | 0x26, [m1, m0, loadFlag] => .inl (.genStart (wordOf m1 m0) loadFlag)
  | 0x27, [] => .inl .genStop
  | 0x28, [] => .inl .equalizeStart
  | 0x29, [] => .inl .equalizeStop
  | 0x2A, [target] => .inl (.capacityTestStart target)
  | 0x2B, [] => .inl .capacityTestAbort
  | 0x2C, [slot] => .inl (.rectifierLockout slot)
  | 0x2D, [slot] => .inl (.rectifierRestore slot)
  | 0x2E, [] => .inl .rotateNow
  | 0x30, [group, s1, s0] => .inl (.unlock group (wordOf s1 s0))
  | 0x31, [group, action] => lockRequest group action
  | 0x32, bytes => writeRequest bytes
  | 0x3F, [] => .inl .restart
  | k, _ => if k ∈ requestKinds then .inr .badLength else .inr .unknownKind
where
  /-- The kinds of R210. -/
  requestKinds : List Nat :=
    [0x01, 0x02, 0x03, 0x04, 0x05, 0x06, 0x07, 0x08, 0x09, 0x0A, 0x0B, 0x20, 0x21, 0x22, 0x23, 0x24, 0x25, 0x26,
     0x27, 0x28, 0x29, 0x2A, 0x2B, 0x2C, 0x2D, 0x2E, 0x30, 0x31, 0x32, 0x3F]

/-- R210: the kind and the payload of a request, as the host sends them; `none` for a command that is no
request. -/
def requestSpelling : Instr → Option (Byte × List Byte)
  | .status source sect => some (0x01#8, [source, sect])
  | .readMeasure source => some (0x02#8, [source])
  | .readString source string => some (0x03#8, [source, string])
  | .readRoster source first count => some (0x04#8, [source, first, count])
  | .readAlarms source first count => some (0x05#8, [source, first, count])
  | .nextNotice source => some (0x06#8, [source])
  | .readRunlog source age => some (0x07#8, [source, age])
  | .readClock source => some (0x08#8, [source])
  | .readSettings source group first count => some (0x09#8, [source, group, first, count])
  | .readSignature source group => some (0x0A#8, [source, group])
  | .snapshot => some (0x0B#8, [])
  | .setClock year month day hour minute second =>
    some (0x20#8, halfBytes year ++ [month, day, hour, minute, second])
  | .alignClock => some (0x21#8, [])
  | .ackAlarm form selector => some (0x22#8, [form, selector])
  | .resetLatch => some (0x23#8, [])
  | .hold minutes => some (0x24#8, halfBytes minutes)
  | .release => some (0x25#8, [])
  | .genStart minutes loadFlag => some (0x26#8, halfBytes minutes ++ [loadFlag])
  | .genStop => some (0x27#8, [])
  | .equalizeStart => some (0x28#8, [])
  | .equalizeStop => some (0x29#8, [])
  | .capacityTestStart target => some (0x2A#8, [target])
  | .capacityTestAbort => some (0x2B#8, [])
  | .rectifierLockout slot => some (0x2C#8, [slot])
  | .rectifierRestore slot => some (0x2D#8, [slot])
  | .rotateNow => some (0x2E#8, [])
  | .unlock group signature => some (0x30#8, [group] ++ halfBytes signature)
  | .lockGroupRelock group => some (0x31#8, [group, 0#8])
  | .lockGroupSeal group => some (0x31#8, [group, 1#8])
  | .lockGroupMode group mode => some (0x31#8, [group, BitVec.ofNat 8 (2 + modeCode mode)])
  | .writeSettings group first count values => some (0x32#8, [group, first, count] ++ values.flatMap halfBytes)
  | .restart => some (0x3F#8, [])
  | _ => none

/-- R209: the request frame to a station, every byte with a good stop bit. -/
def requestFrame (address : Nat) (kind : Byte) (payload : List Byte) : List LineByte :=
  (0xA5#8 :: withCheck (field 1 address ++ [kind] ++ field 1 payload.length ++ payload)).map fun v =>
    { value := v, goodStop := true }

/-- R197: the values of a run taken as a request frame by the station at `address`. -/
def frameOk (address : Nat) (run : List LineByte) : Bool :=
  let v := run.map LineByte.value
  let n := (v.getD 3 0).toNat
  run.all LineByte.goodStop && v.getD 0 0 == 0xA5#8 && decide (n ≤ 96) && v.length == n + 6 &&
    check ((v.drop 1).take (n + 3)) == wordOf (v.getD (n + 4) 0) (v.getD (n + 5) 0) && (v.getD 1 0).toNat == address

/-- R199: a taken frame is judged and handed to its owner. -/
def takeFrame (run : List LineByte) (s : State) : State :=
  let v := run.map LineByte.value
  let kind := v.getD 2 0
  let payload := (v.drop 4).take (v.length - 6)
  match requestOf kind.toNat payload with
  | .inl i => takeRequest kind (serveRequest i) s
  | .inr r => takeRequest kind (fun s => (s, .refuse r)) s

/-- R196, R197: a run closes. -/
def runCloses (s : State) : State :=
  if s.link.receiver = .collecting then
    if frameOk s.link.address s.link.run then takeFrame s.link.run s
    else s.onLink fun l => { l with receiver := .listening, run := [] }
  else s

/-! ## The receiver (R196, R202) -/

/-- R202: a byte of another station that is discarded. -/
def discardByte (s : State) : State :=
  if s.link.receiver = .inHand then s.onLink fun l => { l with overrun := true } else s

/-- R196: a byte begins on the line. -/
def byteBegins (b : LineByte) (s : State) : State :=
  match s.link.receiver with
  | .listening => s.onLink fun l => { l with receiver := .collecting, run := [b] }
  | .collecting => s.onLink fun l => { l with run := l.run ++ [b] }
  | .inHand | .deaf => discardByte s

/-- R202: the line has been idle for 50 ms while DEAF. -/
def deafEnds (s : State) : State :=
  if s.link.receiver = .deaf then s.onLink fun l => { l with receiver := .listening, overrun := false } else s

/-! ## The reply (R200, R209) -/

/-- R200, R209: the frame of a reply. -/
def replyFrame (s : State) (h : InHand) : List Byte :=
  let payload := field 1 h.result.code ++ digest s h ++ h.data
  0x5A#8 :: withCheck (field 1 s.link.address ++ [h.kind] ++ field 1 payload.length ++ payload)

/-- R200: the reply begins. -/
def replyBegins (s : State) : State :=
  match s.link.inHand, s.link.reply with
  | some h, none => s.onLink fun l => { l with reply := some (replyFrame s h) }
  | _, _ => s

/-- R200: the last byte of the reply has been sent. The end of a RESTART's reply is the start itself, whose row carries
the pins found (R206, log 27). -/
def replyEnds (s : State) : State :=
  if s.link.reply.isSome ∧ s.link.restartDue = false then
    s.onLink fun l =>
      { l with inHand := none, reply := none, receiver := if l.overrun then .deaf else .listening }
  else s

end Sys2Proof.Machine
end

