-- ==== Sys2Proof/Machine/StoreWrite.lean ====
section
/-! DEFINITION. The completion of a store write (R190, R194) and what the blocks do at that moment: the scheduler
(R94, R111), the calendar (R162), the measurement unit (R9, R14) and the alarm unit (R171). -/

namespace Sys2Proof.Machine

/-! ## What each group's write brings at the moment of completion -/

/-- R9: mains timers against a changed delay, `old` holding the settings before. -/
def mainsDelaysChanged (old : State) (s : State) : State :=
  let reached := fun i => s.now 2 i != old.now 2 i && s.meas.mainsTimer.any fun t => decide (s.now 2 i ≤ t)
  if !s.meas.mainsQualified && reached 12 then mainsReturns s
  else if s.meas.mainsQualified && reached 13 then mainsFails s
  else s

/-- R162: an exercise owed is withdrawn while its enable is off or the generator is not fitted. -/
def exerciseSettings (s : State) : State :=
  if s.now 3 27 = 1 ∧ s.now 3 0 = 1 then s else exerciseWithdrawn s

/-- R171: codes whose latching has been set from on to off, taken in ascending order (DESIGN CHOICE, log 29). -/
def latchingChanged (old : State) (s : State) : State :=
  (List.range 40).foldl (fun s c => if old.latching c && !s.latching c then unlatchRecord c s else s) s

/-- R14: the timer of an input under the working polarity. -/
def repolarise (s : State) : State :=
  s.onMeas fun m =>
    { m with inputs := m.inputs.mapIdx fun n x =>
        { x with
          timer := if senseOf (s.now 7 (8 + n)) x.level = x.active then none else some (x.timer.getD 0) } }

/-- R13, R14: SITE_INPUT of the inputs whose function has changed. -/
def functionReports (old : State) (s : State) : State :=
  (List.range 8).foldl (fun s n => if s.inputFunction n = old.inputFunction n then s else reportInput n s) s

/-- R13: the functions whose states differ. -/
def changedFunctions (old s : State) : List Nat :=
  (List.range' 1 7).filter fun f => s.functionActive f != old.functionActive f

/-- R14: a running timer that reaches a changed persistence. -/
def persistenceChanged (old : State) (n : Nat) (s : State) : State :=
  if s.now 7 (16 + n) ≠ old.now 7 (16 + n) ∧ (s.input n).timer.any fun t => decide (s.now 7 (16 + n) ≤ t) then
    inputQualifies n s
  else s

/-- R14: a write of group 7 (log 29 for the order). -/
def inputSettings (old : State) (s : State) : State :=
  let changed := changedFunctions old s
  let s := functionReports old (repolarise s)
  let s := changed.foldl (fun s f => handFunction f s) s
  (List.range 8).foldl (fun s n => persistenceChanged old n s) s

/-- R194 step 3: the blocks that act at the moment of completion. -/
def handGroup (g : Nat) (old : State) (s : State) : State :=
  if g = 0 then trimToGen s
  else if g = 2 then mainsDelaysChanged old s
  else if g = 3 then exerciseSettings (trimToGen s)
  else if g = 5 then latchingChanged old s
  else if g = 7 then inputSettings old s
  else s

/-! ## Completion -/

/-- R194 steps 1 and 2: the working copy, the image and the damaged flag. -/
def installGroup (g : Nat) (values : List Nat) (s : State) : State :=
  s.onStore fun x =>
    { x with
      work := x.work.set g values
      images := x.images.set g { values := values, good := true }
      damaged := x.damaged.set g false
      fresh := if x.fresh.contains g then x.fresh else x.fresh ++ [g]
      write := none }

/-- R190, R194: SETTING_WRITTEN. -/
def postWritten (g : Nat) (s : State) : State := post .settingWritten g (s.signature g).toNat s

/-- R194: a store write of a group completes. -/
def groupWriteCompletes (s : State) : State :=
  match s.store.write with
  | some (.group g values) => postWritten g (handGroup g s (reportSettings (installGroup g values s)))
  | some (.modeTable _ _) => s
  | none => s

/-- R190: the new modes in both copies. -/
def installModes (g : Nat) (mode : ProtectMode) (s : State) : State :=
  s.onStore fun x =>
    let m := x.modes.set g mode
    { x with
      modes := m, copyA := { modes := m, good := true }, copyB := { modes := m, good := true }
      tableDamaged := false, write := none }

/-- R190: a store write of the mode table completes. -/
def modeWriteCompletes (s : State) : State :=
  match s.store.write with
  | some (.modeTable g mode) => postWritten g (reportSettings (installModes g mode s))
  | some (.group _ _) => s
  | none => s

end Sys2Proof.Machine
end

