-- ==== Sys2Proof/Machine/Event.lean ====
section
/-! DEFINITION. The measurement event (R3): the measurement unit presents the readings, and every block takes the
event in the order the command gives (00_scope.md gives none; log 4). -/

namespace Sys2Proof.Machine

/-- The account unit takes a measurement event, and hands the counts of a test to the charge controller (R67). -/
def accountEvent (s : State) : State := accountReport (judgeTest (accountIntegrate s))

/-- What a block does when the event reaches it. -/
def blockEvent : Block → State → State
  | .measurement => measurementReport
  | .account => accountEvent
  | .charge => chargeEvent
  | .protection => protectionEvent
  | .rectifier => rectEvent
  | .moduleBus => busEvent
  | .generator => genEvent
  | .calendar => calendarEvent
  | .alarm => alarmEvent
  | .store => storeEvent
  | .link => linkEvent

/-- An order as every block's turn once: a block named again has had its turn, one not named takes it after. -/
def fullOrder (order : List Block) : List Block :=
  (order ++ allBlocks).foldl (fun l b => if l.contains b then l else l ++ [b]) []

/-- R3: a measurement event. -/
def measurementEvent (r : Readings) (order : List Block) (s : State) : State :=
  ((fullOrder order).foldl (fun s b => blockEvent b s) (raiseEvent r s)).onStore fun x => { x with fresh := [] }

end Sys2Proof.Machine
end

