-- ==== Sys2Proof/Machine/Starts.lean ====
section
/-! DEFINITION. The starts (R1) and what every block holds after one: R17, R21, R37, R41 to R43, R71, R86, R113,
R126, R151, R163, R165, R179, R180, R184, R186, R187, R196, R198 and R207. -/

namespace Sys2Proof.Machine

/-! ## The setting store (R184, R186, R187) -/

/-- R184: the groups whose working copies break a relation, of the relations that name a group of `pair`. -/
def pairBroken (work : List (List Nat)) (a b : Nat) : Bool :=
  relations.any fun r =>
    (r.loGroup == a || r.loGroup == b) && !r.holds fun g i => (work.getD g []).getD i 0

/-- A group loaded with its factory defaults and marked damaged. -/
def Store.spoil (g : Nat) (x : Store) : Store :=
  { x with work := x.work.set g (groupDefaults g), damaged := x.damaged.set g true }

/-- R184: a relation between two groups broken by the damage of one of them. Where both images are good, both are loaded
with their defaults and marked damaged (DESIGN CHOICE, log 52). -/
def Store.resolve (a b : Nat) (x : Store) : Store :=
  if pairBroken x.work a b then
    let y := if x.damaged.getD a false then x else x.spoil a
    if x.damaged.getD b false then y else y.spoil b
  else x

/-- R184: the groups loaded from their images. -/
def Store.load (x : Store) : Store :=
  { x with
    work := (List.range 8).map fun g =>
      match x.images[g]? with
      | some m => if m.good then m.values else groupDefaults g
      | none => groupDefaults g
    damaged := (List.range 8).map fun g => !(x.images[g]?).any Image.good }

/-- R186: the mode table. -/
def Store.loadModes (x : Store) : Store :=
  if x.copyA.good then
    { x with modes := x.copyA.modes, tableDamaged := false, copyB := if x.copyB.good then x.copyB else x.copyA }
  else if x.copyB.good then { x with modes := x.copyB.modes, tableDamaged := false, copyA := x.copyB }
  else { x with modes := List.replicate 8 .keyed, tableDamaged := true }

/-- R184, R186, R187, R189, R193: the setting store at a start. What a completed write still owed the next measurement
event as a write (R60, R149) is not kept over it (DESIGN CHOICE, log 47). -/
def Store.start (x : Store) : Store :=
  let x := (((x.load).resolve 1 2).resolve 0 3).loadModes
  { x with
    latched := x.work, fresh := [], sealed := List.replicate 8 false, unlocked := none, idle := 0, write := none }

/-! ## Measurement unit (R3, R8 to R11) -/

/-- R3: a channel's hold and last value are discarded; `blank` says that the reading itself did not outlive the
loss of supply (log 7). -/
def Channel.start (blank : Bool) (c : Channel) : Channel :=
  if blank then blankChannel else { c with held := 0, last := none }

/-- R3, R7: the string channels at a start; those above the strings-fitted setting are NOT_FITTED. -/
def startChannels (blank : Bool) (s : State) : List Channel :=
  (List.range 4).map fun i =>
    if i < s.stringsFitted then (s.stringChannel i).start blank else unfittedChannel

/-- R8: the fuel level presented until the first event. -/
def startFuel (s : State) (m : Meas) : Meas :=
  if s.inForce 3 26 = 1 then { m with fuel := m.lastFuel, fuelValidity := .held }
  else { m with fuel := 100, fuelValidity := .notFitted }

/-- A timer that runs from the start when its input calls for it. -/
def timerIf (runs : Bool) : Option Nat := if runs then some 0 else none

/-- R11: a site input at a start. -/
def startInput (s : State) (p : Pins) (n : Nat) : SiteInput :=
  let level := p.levels.getD n false
  { level := level, active := false, timer := timerIf (senseOf (s.now 7 (8 + n)) level) }

/-- The bus and load readings, kept over a start that the supply outlives. -/
def blankReadings (blank : Bool) (m : Meas) : Meas :=
  if blank then { m with bus := 0, busValidity := .valid, load := 0, loadValidity := .valid } else m

/-- R3, R8 to R11: the measurement unit at a start. -/
def measStart (cold blank : Bool) (p : Pins) (s : State) : State :=
  s.onMeas fun m =>
    startFuel s
      { blankReadings blank m with
        strings := startChannels blank s
        therms := m.therms.map (Channel.start blank)
        lastFuel := if cold then 0 else m.lastFuel
        mainsSense := p.mainsSense
        mainsQualified := false
        mainsTimer := timerIf p.mainsSense
        genSense := p.genSense
        genPresent := false
        genTimer := timerIf p.genSense
        inputs := (List.range 8).map (startInput s p) }

/-! ## Account, charge, protection -/

/-- R37, R41 to R43. -/
def acctStart (cold : Bool) (s : State) : State :=
  (if cold then coldStrings s else refitStrings (clearCounts s)).onAcct fun a => { a with taken := true, halted := false }

/-- R65, R71: the equalize record. -/
def EqRec.start (cold : Bool) (e : EqRec) : EqRec :=
  if cold then { state := .none, remaining := 0, duration := 0, dayCount := 0, daysWaiting := 0 }
  else if e.state = .running then { e with state := .suspended }
  else e

/-- R71. -/
def chargeStart (cold : Bool) (s : State) : State :=
  let tb : Int := s.inForce 1 6
  recomputeIbl (recomputeSetpoint (s.onCharge fun c =>
    { c with
      stage := .discharge, tb := tb, tc := compTemp tb, latch := false, absorbCount := 0, tailCount := 0
      absorbTimer := 0, armed := false, eq := c.eq.start cold, test := none }))

/-- R86. -/
def protStart (cold : Bool) (s : State) : State :=
  s.onProt fun p =>
    { nel := if cold then .closed else p.nel, shedCause := if cold then none else p.shedCause
      bpd := if cold then .closed else p.bpd, shedCount := 0, nelCount := 0, disconnectCount := 0, bpdCount := 0
      dischargeCount := 0 }

/-! ## Rectifier scheduler (R113) -/

/-- R113: a slot. -/
def Slot.start (cold : Bool) (now : Nat) (x : Slot) : Slot :=
  { blankSlot with
    hours := if cold then 0 else x.hours, residue := if cold then 0 else x.residue, lastChange := now }

/-- R113. -/
def rectStart (cold : Bool) (s : State) : State :=
  recomputeIm (s.onRect fun r =>
    { slots := r.slots.map (Slot.start cold s.stamp), running := [], queue := [], fitted := s.inForce 0 15
      spacing := 0, dwell := 0, settle := 0, rotation := if cold then 0 else r.rotation, rotationRequest := false
      requestFreed := false, swap := none, lastSwap := none, upFormed := 0, downFormed := 0, im := r.im })

/-! ## Generator controller (R151) -/

/-- R151: the open record of a run that the start cuts short. -/
def closeAtStart (s : State) : State :=
  if s.gen.machine.inRun then
    onOpenRecord (fun x =>
      { x with stopTime := some s.stamp, stopReason := some .reset, fuelStop := some s.meas.lastFuel }) s
  else s

/-- R151. The state count is 0 after a start, also where FAILED or IDLE stands over it (DESIGN CHOICE, log 59); of the
re-arm count the minutes alone are kept (log 38). -/
def genStart (cold : Bool) (s : State) : State :=
  (closeAtStart s).onGen fun g =>
    let failed := !cold && g.machine == .failed
    { machine := if failed then .failed else .idle
      stateCount := 0, run := none
      failReason := if failed then g.failReason else none
      rearmMinutes := if failed then g.rearmMinutes else 0
      rearmSeconds := 0, restCount := 0, stopHold := none, mainsFailTimer := some 0, spent := false, busCount := 0
      fuelLow := false, fuelEmpty := false, exercise := none
      log := if cold then [] else g.log }

/-! ## Calendar and supervisor (R17, R163) -/

/-- R163: the calendar after a cold start. -/
def coldCalendar : Cal :=
  { year := 2000, month := 1, day := 1, hour := 0, minute := 0, second := 0, weekday := 5, valid := false
    exState := .none, exDuration := 0, exWindow := 0, exDue := { year := 2000, month := 1, day := 1 }
    runMark := false, missed := false, last := none, handAgain := false }

/-- R163. -/
def calStart (cold : Bool) (s : State) : State :=
  s.onCal fun c => if cold then coldCalendar else { c with runMark := false, handAgain := false }

/-- R163: an exercise whose window stands at 0 is missed; one that is owed is handed at the first event. -/
def exerciseStart (s : State) : State :=
  (windowClosed s).onCal fun c => { c with handAgain := c.exState != .none }

/-- R17, R21. -/
def supStart (cold : Bool) (cause : StartCause) (s : State) : State :=
  s.onSup fun _ =>
    { mode := deriveMode s, ac := deriveAc s, hold := none
      startKind := if cold then .cold else .warm, startCause := cause }

/-! ## Alarm unit (R165, R179, R180) -/

/-- R179, R180: an alarm record. -/
def AlarmRec.start (cold : Bool) (r : AlarmRec) : AlarmRec :=
  if cold then blankAlarm false else { r with cond := false, qual := 0 }

/-- R180: the value of the START notice (R212), which has no place for the plant mode of R17 (DEDUCED, log 40). -/
def startValue (s : State) : Nat :=
  256 * s.sup.startCause.code + bitAt 0 s.link.strapFault + bitAt 1 s.cal.valid

/-- R179, R180: the alarm unit, and its START notice. -/
def alarmStart (cold : Bool) (s : State) : State :=
  post .start s.sup.startKind.code (startValue s)
    (s.onAlarm fun a =>
      { records := a.records.map (AlarmRec.start cold), notices := [], resync := false, evaluated := false
        lampLit := true })

/-- R165: every owner reports its conditions as they stand after the start (log 22). -/
def reportAll (s : State) : State :=
  s |> report alMainsFail (!s.meas.mainsQualified)
    |> report alLoadShed (s.prot.nel == .opened)
    |> report alBatteryDisconnected (s.prot.bpd == .opened)
    |> accountReport |> measurementReport |> reportOverdue |> reportCapacityLow |> reportFaults |> reportLost
    |> reportBusFail |> reportLockout |> report alGenRunning s.gen.machine.inRun |> reportFuel |> reportMissed
    |> reportSettings |> reportClock |> reportHold

/-! ## A start (R1) -/

/-- A start with the pins it finds; `blank` for the return of the plant supply, over which no volatile reading is
kept. The kind follows the check marker. -/
def makeStart (cause : StartCause) (blank : Bool) (p : Pins) (s : State) : State :=
  let cold := !s.markerGood
  let s := { s with powered := true, markerGood := true }.onStore Store.start
  let s := rectStart cold (protStart cold (calStart cold s))
  let s := genStart cold (measStart cold blank p s)
  let s := busStart (chargeStart cold (acctStart cold s))
  let s := alarmStart cold (linkStart p (supStart cold cause s))
  evaluateStart (exerciseStart (reportAll s))

/-- R1: the plant supply is lost: every block stops, and a store write in flight is cut short. What the blocks hold
outside the backup domain is replaced at the start that follows (log 30). -/
def loseSupply (s : State) : State := { s with powered := false }.onStore fun x => { x with write := none }

end Sys2Proof.Machine
end

