-- ==== Sys2Proof/Machine/CountCommands.lean ====
section
/-! DEFINITION. The commands that are the expiry of a count: each has its effect when its count is due and its state
stands, and none otherwise (log 3). -/

namespace Sys2Proof.Machine

/-- A count's expiry: the effect when the count is due. -/
def onExpiry (s : State) (isDue : State → Bool) (f : State → State) : Out :=
  whenPowered s fun s => if isDue s then f s else s

/-! ## Charge controller -/

/-- R51: the absorb entry count is due. -/
def absorbEntryDue (s : State) : Bool := s.charge.stage == .bulk && due 60 s.charge.absorbCount

/-- ABSORB_ENTRY (R51). -/
def execAbsorbEntry (s : State) : Out := onExpiry s absorbEntryDue (changeStage .absorb)

/-- R52: the tail count is due. -/
def tailExitDue (s : State) : Bool := s.charge.stage == .absorb && due 600 s.charge.tailCount

/-- TAIL_EXIT (R52, R34). -/
def execTailExit (s : State) : Out := onExpiry s tailExitDue tailExit

/-- R53: the ABSORB timer is due. -/
def absorbTimerDue (s : State) : Bool :=
  s.charge.stage == .absorb && due (s.inForce 1 14 * 3600) s.charge.absorbTimer

/-- ABSORB_TIMER_EXPIRY (R53). -/
def execAbsorbTimerExpiry (s : State) : Out := onExpiry s absorbTimerDue (changeStage .float)

/-- R62: the remaining time runs out. -/
def equalizeDue (s : State) : Bool := s.charge.stage == .equalize && decide (s.charge.eq.remaining ≤ 1)

/-- EQUALIZE_COMPLETE (R62). -/
def execEqualizeComplete (s : State) : Out := onExpiry s equalizeDue equalizeDone

/-! ## Protection unit -/

/-- R74: the shed count is due. -/
def shedDue (s : State) : Bool :=
  s.sup.mode == .battery && s.prot.nel == .closed && due (s.inForce 2 5) s.prot.shedCount

/-- R76: the cause of a shed whose delay has run out. -/
def delayedShedCause (s : State) : ShedCause := if shedSocTest s then .both else .voltage

/-- SHED_DELAY_EXPIRY (R74, R76). -/
def execShedDelayExpiry (s : State) : Out := onExpiry s shedDue fun s => openNel (delayedShedCause s) s

/-- R77: the NEL reconnect count is due. -/
def nelReconnectDue (s : State) : Bool := s.prot.nel == .opened && s.sup.ac && due (s.inForce 2 8) s.prot.nelCount

/-- NEL_RECONNECT (R77). -/
def execNelReconnect (s : State) : Out := onExpiry s nelReconnectDue closeNel

/-- R78: the disconnect count is due. -/
def disconnectDue (s : State) : Bool :=
  s.sup.mode == .battery && s.prot.bpd == .closed && due (s.inForce 2 1) s.prot.disconnectCount

/-- BATTERY_DISCONNECT (R79). -/
def execBatteryDisconnect (s : State) : Out := onExpiry s disconnectDue openBpd

/-- R80: the BPD reconnect count is due. The bus level and the n_min RUNNING slots of the event are not tested again
(DESIGN CHOICE, log 3). -/
def bpdReconnectDue (s : State) : Bool := s.prot.bpd == .opened && s.sup.ac && due (s.inForce 2 3) s.prot.bpdCount

/-- BPD_RECONNECT (R81). -/
def execBpdReconnect (s : State) : Out := onExpiry s bpdReconnectDue closeBpd

/-- R83: the discharge count is due. -/
def dischargeDue (s : State) : Bool := s.sup.ac && s.charge.stage != .test && due 60 s.prot.dischargeCount

/-- R83: the discharge count reaches 60. -/
def dischargeFull (s : State) : State :=
  report alBatteryDischarge true (s.onProt fun p => { p with dischargeCount := 60 })

/-- DISCHARGE_COUNT_EXPIRY (R83). -/
def execDischargeCountExpiry (s : State) : Out := onExpiry s dischargeDue dischargeFull

/-! ## Rectifier scheduler -/

/-- R99: the start count of slot `i` is due. -/
def startDue (i : Nat) (s : State) : Bool :=
  (s.slot i).state == .starting && due (s.inForce 4 9) (s.slot i).startCount

/-- START_TIMEOUT (R99). -/
def execStartTimeout (i : Fin 12) (s : State) : Out := onExpiry s (startDue i) (enterFault i)

/-- R100: the recovery count of slot `i` is due. -/
def recoveryDue (i : Nat) (s : State) : Bool :=
  (s.slot i).state == .fault && ((s.slot i).data.any fun d => !countingFault s d) &&
    due (s.inForce 4 10) (s.slot i).recovery

/-- FAULT_RECOVERY (R100). -/
def execFaultRecovery (i : Fin 12) (s : State) : Out := onExpiry s (recoveryDue i) (changeSlot i .standby)

/-- R106: the rotation counter reaches the interval. -/
def rotationReaches (s : State) : Bool :=
  s.sup.ac && s.inForce 4 6 != 0 && due (s.inForce 4 6 * 3600) s.rect.rotation

/-- ROTATION_DUE (R106): the counter stands at the interval or above it. -/
def execRotationDue (s : State) : Out :=
  onExpiry s rotationReaches fun s => s.onRect fun r => { r with rotation := max r.rotation (s.inForce 4 6 * 3600) }

/-- R108: the overlap count is due. -/
def overlapDue (s : State) : Bool := s.rect.swap.any fun w => w.phase == .overlap && due (s.inForce 4 8) w.overlap

/-- SWAP_OVERLAP_EXPIRY (R108). -/
def execSwapOverlapExpiry (s : State) : Out := onExpiry s overlapDue finishSwap

/-! ## Generator controller -/

/-- R127: the machine is in a state whose count is due. -/
def stateDue (m : GenState) (limit : State → Nat) (s : State) : Bool :=
  s.gen.machine == m && due (limit s) s.gen.stateCount

/-- PRIME_TIME_EXPIRY (R132). -/
def execPrimeTimeExpiry (s : State) : Out := onExpiry s (stateDue .priming fun s => s.inForce 3 11) enterCranking

/-- CRANK_MAXIMUM_EXPIRY (R132). -/
def execCrankMaximumExpiry (s : State) : Out := onExpiry s (stateDue .cranking fun s => s.inForce 3 12) crankExpired

/-- CRANK_REST_EXPIRY (R133). -/
def execCrankRestExpiry (s : State) : Out := onExpiry s (stateDue .crankRest fun s => s.inForce 3 13) enterCranking

/-- R134: the state count of WARMUP stands at `n` or above it. -/
def reachCount (n : Nat) (s : State) : State := s.onGen fun g => { g with stateCount := max n g.stateCount }

/-- R134: at the 10th event of WARMUP an active engine-fault input is taken. -/
def armFaults (s : State) : State :=
  let s := reachCount 10 s
  if s.engineFaultInput then takeEngineFault s else s

/-- WARMUP_FAULT_ARM (R134). -/
def execWarmupFaultArm (s : State) : Out := onExpiry s (stateDue .warmup fun _ => 10) armFaults

/-- R134: the warmup time is reached; a fault at the same event is taken first. -/
def warmupTimeReached (s : State) : State :=
  let s := reachCount (s.inForce 3 15) s
  if s.engineFaultInput && faultArmed s then takeEngineFault s else warmupEnds s

/-- WARMUP_END (R134). -/
def execWarmupEnd (s : State) : Out := onExpiry s (stateDue .warmup fun s => s.inForce 3 15) warmupTimeReached

/-- R130: the mains-fail start delay, in seconds. -/
def mainsFailDelay (s : State) : Nat := s.inForce 3 2 * 60

/-- R130: the mains-fail timer is due. -/
def mainsFailDue (s : State) : Bool := s.gen.mainsFailTimer.any (due (mainsFailDelay s))

/-- MAINS_FAIL_START_DELAY (R130, R129). -/
def execMainsFailStartDelay (s : State) : Out :=
  onExpiry s mainsFailDue fun s =>
    evaluateStart (s.onGen fun g => { g with mainsFailTimer := g.mainsFailTimer.map (max (mainsFailDelay s)) })

/-- R131: the bus-start count is due. -/
def busStartDue (s : State) : Bool := due (s.inForce 3 8) s.gen.busCount

/-- BUS_START_QUALIFIED (R131, R129). -/
def execBusStartQualified (s : State) : Out :=
  onExpiry s busStartDue fun s => evaluateStart (s.onGen fun g => { g with busCount := s.inForce 3 8 })

/-- R129: the rest count is due. -/
def restDue (s : State) : Bool := due s.minRest s.gen.restCount

/-- REST_COUNT_COMPLETE (R129). -/
def execRestCountComplete (s : State) : Out :=
  onExpiry s restDue fun s => evaluateStart (s.onGen fun g => { g with restCount := s.minRest })

/-- The machine carries or idles a run: ONLINE or OFFLOAD. -/
def GenState.carries : GenState → Bool
  | .online => true | .offload => true
  | .idle => false | .priming => false | .cranking => false | .crankRest => false | .warmup => false
  | .cooldown => false | .stopping => false | .failed => false

/-- R137: the run in flight, in ONLINE or OFFLOAD, whose limit is due. -/
def runDue (isDue : State → Run → Bool) (s : State) : Bool := s.gen.machine.carries && s.gen.run.any (isDue s)

/-- The run in flight is stopped (R137). -/
def stopInFlight (reason : StopReason) (s : State) : State :=
  match s.gen.run with
  | some r => stopRun reason r s
  | none => s

/-- R137: the run time is due to reach the maximum run. -/
def maxRunDue (s : State) (r : Run) : Bool := due (s.inForce 3 17 * 3600) r.runTime

/-- MAX_RUN (R137). -/
def execMaxRun (s : State) : Out := onExpiry s (runDue maxRunDue) (stopInFlight .maxRun)

/-- R137: the duration of an EXERCISE or MANUAL run is due. -/
def durationDue (r : Run) : Bool :=
  match r.basis with
  | .exercise => r.duration.any fun d => due (d * 60) r.runTime
  | .manual => r.duration.any fun d => r.durCount.any fun n => due (d * 60) n
  | .mainsFail | .accountLow | .busLow | .remote => false

/-- R137: the stop reason where the duration runs out; MAX_RUN when the same event brings the maximum run. -/
def durationReason (s : State) : StopReason :=
  if s.gen.run.any (maxRunDue s) then .maxRun else .duration

/-- DURATION (R137). -/
def execDuration (s : State) : Out :=
  onExpiry s (runDue fun _ r => durationDue r) fun s => stopInFlight (durationReason s) s

/-- COOLDOWN_EXPIRY (R139). -/
def execCooldownExpiry (s : State) : Out := onExpiry s (stateDue .cooldown fun s => s.inForce 3 18) enterStopping

/-- STOP_CONFIRM_EXPIRY (R140). -/
def execStopConfirmExpiry (s : State) : Out := onExpiry s (stateDue .stopping fun s => s.inForce 3 19) stopExpired

/-- R144: the re-arm count is due. -/
def rearmDue (s : State) : Bool :=
  s.gen.machine == .failed && s.inForce 3 22 != 0 &&
    due (s.inForce 3 22 * 60) (s.gen.rearmMinutes * 60 + s.gen.rearmSeconds)

/-- REARM_EXPIRY (R144). -/
def execRearmExpiry (s : State) : Out := onExpiry s rearmDue leaveFailed

/-- R146: the manual-stop hold runs out. -/
def stopHoldDue (s : State) : Bool := s.gen.stopHold.any fun n => decide (n ≤ 1)

/-- MANUAL_STOP_HOLD_EXPIRY (R146, R129). -/
def execManualStopHoldExpiry (s : State) : Out :=
  onExpiry s stopHoldDue fun s => evaluateStart (s.onGen fun g => { g with stopHold := none })

/-! ## Calendar, alarm unit, store, link -/

/-- R161: the window count runs out. -/
def windowDue (s : State) : Bool := s.cal.exState != .none && decide (s.cal.exWindow ≤ 1)

/-- WINDOW_CLOSE (R161). -/
def execWindowClose (s : State) : Out :=
  onExpiry s windowDue fun s => windowClosed (s.onCal fun c => { c with exWindow := 0 })

/-- R166: the record of code `c` is raising and its count is due. -/
def raiseDue (c : Nat) (s : State) : Bool := (s.record c).raising && due (s.raiseDelay c) (s.record c).qual

/-- R166: the record of code `c` is clearing and its count is due. -/
def clearDue (c : Nat) (s : State) : Bool := (s.record c).clearing && due (s.clearDelay c) (s.record c).qual

/-- R166: the qualification of code `c` is complete, once the table is evaluated (R179). -/
def qualificationExpires (c : Nat) (s : State) : State :=
  if raiseDue c s then raiseAlarm c s else if clearDue c s then clearAlarm c s else s

/-- QUALIFICATION_COUNT_EXPIRY (R166, R167). -/
def execQualificationCountExpiry (c : Fin 40) (s : State) : Out :=
  onExpiry s (fun s => s.alarm.evaluated) (qualificationExpires c)

/-- R189: the idle count is due. -/
def idleDue (s : State) : Bool := s.store.unlocked.isSome && due 600 s.store.idle

/-- IDLE_COUNT_EXPIRY (R189). -/
def execIdleCountExpiry (s : State) : Out := onExpiry s idleDue relock

/-- SNAPSHOT_DROP (R205). -/
def execSnapshotDrop (s : State) : Out := whenPowered s dropSnapshot

end Sys2Proof.Machine
end

