-- ==== Sys2Proof/Machine/EventCommands.lean ====
section
/-! DEFINITION. The commands that are starts and supplies (R1), the measurement event (R3), and the events at the
plant inputs (R5, R7, R9 to R11, R21), the calendar's tick (R153), the lamp (R178) and the store (R190, R194). -/

namespace Sys2Proof.Machine

/-- POWER_RETURN_START (R1). A return while the supply stands is a loss and a return (log 9). -/
def execPowerReturnStart (p : Pins) (s : State) : Out := .next (makeStart .supplyReturned true p (loseSupply s))

/-- RESET_PIN_START (R1). -/
def execResetPinStart (p : Pins) (s : State) : Out := whenPowered s (makeStart .resetPin false p)

/-- R206: the reply to a RESTART is being sent. -/
def restartReplying (s : State) : Bool := s.link.restartDue && s.link.reply.isSome

/-- RESTART_WARM_START (R206): the end of the last byte of a RESTART's reply (log 27). -/
def execRestartWarmStart (p : Pins) (s : State) : Out :=
  whenPowered s fun s => if restartReplying s then makeStart .restart false p s else s

/-- PLANT_SUPPLY_LOSS (R1). -/
def execPlantSupplyLoss (s : State) : Out := whenPowered s loseSupply

/-- BACKUP_CELL_FAILURE (R1): it breaks the check marker only while the plant supply is gone. -/
def execBackupCellFailure (s : State) : Out := .next (if s.powered then s else { s with markerGood := false })

/-- MEASUREMENT_EVENT (R3). -/
def execMeasurementEvent (r : Readings) (order : List Block) (s : State) : Out :=
  whenPowered s (measurementEvent r order)

/-- THERMISTOR_FALLBACK (R5). -/
def execThermistorFallback (t : Fin 4) (s : State) : Out := whenPowered s (thermistorExpires t)

/-- STRING_CHANNEL_UNUSABLE (R7, R29). -/
def execStringChannelUnusable (i : Fin 4) (s : State) : Out := whenPowered s (channelExpires i)

/-- MAINS_SENSE_CHANGE (R9). -/
def execMainsSenseChange (present : Bool) (s : State) : Out := whenPowered s (mainsSensed present)

/-- MAINS_RETURN_TIMER_EXPIRY (R9). -/
def execMainsReturnTimerExpiry (s : State) : Out := whenPowered s mainsReturns

/-- MAINS_FAIL_TIMER_EXPIRY (R9). -/
def execMainsFailTimerExpiry (s : State) : Out := whenPowered s mainsFails

/-- GEN_SENSE_CHANGE (R10). -/
def execGenSenseChange (present : Bool) (s : State) : Out := whenPowered s (genSensed present)

/-- GEN_AC_QUALIFIED (R10). -/
def execGenAcQualified (s : State) : Out := whenPowered s genQualifies

/-- SITE_INPUT_LEVEL_CHANGE (R11). -/
def execSiteInputLevelChange (n : Fin 8) (level : Bool) (s : State) : Out := whenPowered s (levelChanges n level)

/-- PERSISTENCE_EXPIRY (R11 to R13). -/
def execPersistenceExpiry (n : Fin 8) (s : State) : Out := whenPowered s (persistenceExpires n)

/-- HOLD_EXPIRY (R21). -/
def execHoldExpiry (s : State) : Out := whenPowered s endHold

/-- CALENDAR_TICK (R153, R157, R160): it goes on while the plant supply is absent. -/
def execCalendarTick (s : State) : Out := .next (if s.powered then poweredTick s else unpoweredTick s)

/-- LAMP_HALF_PERIOD (R178). -/
def execLampHalfPeriod (s : State) : Out := whenPowered s lampHalf

/-- STORE_WRITE_COMPLETE (R194). -/
def execStoreWriteComplete (s : State) : Out := whenPowered s groupWriteCompletes

/-- MODE_TABLE_WRITE_COMPLETE (R190). -/
def execModeTableWriteComplete (s : State) : Out := whenPowered s modeWriteCompletes

end Sys2Proof.Machine
end

