-- ==== Sys2Proof/Machine/LineCommands.lean ====
section
/-! DEFINITION. The commands that are events of the two lines: the module bus (R115 to R123) and the station link
(R196 to R202). -/

namespace Sys2Proof.Machine

/-! ## Module bus -/

/-- COMMAND_SENT (R116). -/
def execCommandSent (s : State) : Out := whenPowered s (phaseTo .sending .window id)

/-- REPLY_WINDOW_EXPIRY (R117). -/
def execReplyWindowExpiry (s : State) : Out := whenPowered s (phaseTo .window .turnaround id)

/-- MODULE_REPLY_BYTE (R117). -/
def execModuleReplyByte (b : LineByte) (s : State) : Out := whenPowered s (onExchange (Exchange.take b))

/-- STATUS_FRAME (R117): its bytes one after another. -/
def execStatusFrame (bytes : List LineByte) (s : State) : Out := whenPowered s (takeBytes bytes)

/-- REPLY_GAP_TIMEOUT (R117). -/
def execReplyGapTimeout (s : State) : Out :=
  whenPowered s (phaseTo .receiving .turnaround fun e => { e with cut := true })

/-- TRAILING_BYTES (R117). -/
def execTrailingBytes (s : State) : Out :=
  whenPowered s (phaseTo .turnaround .turnaround fun e => { e with trailing := true })

/-- TURNAROUND_END (R118, R120 to R123). -/
def execTurnaroundEnd (s : State) : Out := whenPowered s turnaroundEnds

/-! ## Station link -/

/-- LINK_BYTE_BEGINS (R196). -/
def execLinkByteBegins (b : LineByte) (s : State) : Out := whenPowered s (byteBegins b)

/-- RUN_CLOSE (R196, R197, R199). -/
def execRunClose (s : State) : Out := whenPowered s runCloses

/-- LINK_BYTE_DISCARD (R202). -/
def execLinkByteDiscard (s : State) : Out := whenPowered s discardByte

/-- REPLY_BEGIN (R200). -/
def execReplyBegin (s : State) : Out := whenPowered s replyBegins

/-- REPLY_END (R200). -/
def execReplyEnd (s : State) : Out := whenPowered s replyEnds

/-- DEAF_IDLE_EXPIRY (R202). -/
def execDeafIdleExpiry (s : State) : Out := whenPowered s deafEnds

end Sys2Proof.Machine
end

