-- ==== Sys2Proof/Machine/Requests.lean ====
section
/-! DEFINITION. The requests (R199, R204, R210), each the moment at which it is taken by the link unit and handed to
its owner (log 5). -/

namespace Sys2Proof.Machine

/-- A request is taken: its owner serves it and the answer is in hand with the kind's code. With a request in hand or the
receiver DEAF its bytes are discarded (R202). -/
def onRequest (kind : Byte) (i : Instr) (s : State) : Out :=
  whenPowered s fun s => if s.hears then takeRequest kind (serveRequest i) s else discardByte s

/-- STATUS (R203). -/
def execStatus (source : Byte) (sect : Byte) (s : State) : Out := onRequest 0x01#8 (.status source sect) s

/-- READ_MEASURE (R201). -/
def execReadMeasure (source : Byte) (s : State) : Out := onRequest 0x02#8 (.readMeasure source) s

/-- READ_STRING (R44). -/
def execReadString (source : Byte) (string : Byte) (s : State) : Out :=
  onRequest 0x03#8 (.readString source string) s

/-- READ_ROSTER (R112). -/
def execReadRoster (source : Byte) (first : Byte) (count : Byte) (s : State) : Out :=
  onRequest 0x04#8 (.readRoster source first count) s

/-- READ_ALARMS (R181). -/
def execReadAlarms (source : Byte) (first : Byte) (count : Byte) (s : State) : Out :=
  onRequest 0x05#8 (.readAlarms source first count) s

/-- NEXT_NOTICE (R174). -/
def execNextNotice (source : Byte) (s : State) : Out := onRequest 0x06#8 (.nextNotice source) s

/-- READ_RUNLOG (R150). -/
def execReadRunlog (source : Byte) (age : Byte) (s : State) : Out := onRequest 0x07#8 (.readRunlog source age) s

/-- READ_CLOCK (R201). -/
def execReadClock (source : Byte) (s : State) : Out := onRequest 0x08#8 (.readClock source) s

/-- READ_SETTINGS (R195). -/
def execReadSettings (source : Byte) (group : Byte) (first : Byte) (count : Byte) (s : State) : Out :=
  onRequest 0x09#8 (.readSettings source group first count) s

/-- READ_SIGNATURE (R195). -/
def execReadSignature (source : Byte) (group : Byte) (s : State) : Out :=
  onRequest 0x0A#8 (.readSignature source group) s

/-- SNAPSHOT (R205). -/
def execSnapshot (s : State) : Out := onRequest 0x0B#8 .snapshot s

/-- SET_CLOCK (R155). -/
def execSetClock (year : Half) (month : Byte) (day : Byte) (hour : Byte) (minute : Byte) (second : Byte) (s : State) : Out :=
  onRequest 0x20#8 (.setClock year month day hour minute second) s

/-- ALIGN_CLOCK (R156). -/
def execAlignClock (s : State) : Out := onRequest 0x21#8 .alignClock s

/-- ACK_ALARM (R168). -/
def execAckAlarm (form : Byte) (selector : Byte) (s : State) : Out :=
  onRequest 0x22#8 (.ackAlarm form selector) s

/-- RESET_LATCH (R170). -/
def execResetLatch (s : State) : Out := onRequest 0x23#8 .resetLatch s

/-- HOLD (R18). -/
def execHold (minutes : Half) (s : State) : Out := onRequest 0x24#8 (.hold minutes) s

/-- RELEASE (R21). -/
def execRelease (s : State) : Out := onRequest 0x25#8 .release s

/-- GEN_START (R145). -/
def execGenStart (minutes : Half) (loadFlag : Byte) (s : State) : Out :=
  onRequest 0x26#8 (.genStart minutes loadFlag) s

/-- GEN_STOP (R146). -/
def execGenStop (s : State) : Out := onRequest 0x27#8 .genStop s

/-- EQUALIZE_START (R64). -/
def execEqualizeStart (s : State) : Out := onRequest 0x28#8 .equalizeStart s

/-- EQUALIZE_STOP (R64). -/
def execEqualizeStop (s : State) : Out := onRequest 0x29#8 .equalizeStop s

/-- CAPACITY_TEST_START (R66). -/
def execCapacityTestStart (target : Byte) (s : State) : Out := onRequest 0x2A#8 (.capacityTestStart target) s

/-- CAPACITY_TEST_ABORT (R68). -/
def execCapacityTestAbort (s : State) : Out := onRequest 0x2B#8 .capacityTestAbort s

/-- RECTIFIER_LOCKOUT (R103). -/
def execRectifierLockout (slot : Byte) (s : State) : Out := onRequest 0x2C#8 (.rectifierLockout slot) s

/-- RECTIFIER_RESTORE (R104). -/
def execRectifierRestore (slot : Byte) (s : State) : Out := onRequest 0x2D#8 (.rectifierRestore slot) s

/-- ROTATE_NOW (R110). -/
def execRotateNow (s : State) : Out := onRequest 0x2E#8 .rotateNow s

/-- UNLOCK (R188). -/
def execUnlock (group : Byte) (signature : Half) (s : State) : Out :=
  onRequest 0x30#8 (.unlock group signature) s

/-- LOCK_GROUP_RELOCK (R190). -/
def execLockGroupRelock (group : Byte) (s : State) : Out := onRequest 0x31#8 (.lockGroupRelock group) s

/-- LOCK_GROUP_SEAL (R190). -/
def execLockGroupSeal (group : Byte) (s : State) : Out := onRequest 0x31#8 (.lockGroupSeal group) s

/-- LOCK_GROUP_MODE (R190). -/
def execLockGroupMode (group : Byte) (mode : ProtectMode) (s : State) : Out :=
  onRequest 0x31#8 (.lockGroupMode group mode) s

/-- WRITE_SETTINGS (R191). -/
def execWriteSettings (group : Byte) (first : Byte) (count : Byte) (values : List Half) (s : State) : Out :=
  onRequest 0x32#8 (.writeSettings group first count values) s

/-- RESTART (R206). -/
def execRestart (s : State) : Out := onRequest 0x3F#8 .restart s

end Sys2Proof.Machine
end

