-- ==== Sys2Proof/Machine/Dispatch.lean ====
section
/-! DEFINITION. One arm per command: its meaning. -/

namespace Sys2Proof.Machine

def exec (i : Instr) (s : State) : Host.Outcome State Fault Refusal :=
  match i with
  | .powerReturnStart p => Sys2Proof.Machine.execPowerReturnStart p s
  | .resetPinStart p => Sys2Proof.Machine.execResetPinStart p s
  | .restartWarmStart p => Sys2Proof.Machine.execRestartWarmStart p s
  | .measurementEvent r order => Sys2Proof.Machine.execMeasurementEvent r order s
  | .thermistorFallback t => Sys2Proof.Machine.execThermistorFallback t s
  | .stringChannelUnusable n => Sys2Proof.Machine.execStringChannelUnusable n s
  | .mainsSenseChange present => Sys2Proof.Machine.execMainsSenseChange present s
  | .mainsReturnTimerExpiry => Sys2Proof.Machine.execMainsReturnTimerExpiry s
  | .mainsFailTimerExpiry => Sys2Proof.Machine.execMainsFailTimerExpiry s
  | .genSenseChange present => Sys2Proof.Machine.execGenSenseChange present s
  | .genAcQualified => Sys2Proof.Machine.execGenAcQualified s
  | .siteInputLevelChange n level => Sys2Proof.Machine.execSiteInputLevelChange n level s
  | .persistenceExpiry n => Sys2Proof.Machine.execPersistenceExpiry n s
  | .holdExpiry => Sys2Proof.Machine.execHoldExpiry s
  | .absorbEntry => Sys2Proof.Machine.execAbsorbEntry s
  | .tailExit => Sys2Proof.Machine.execTailExit s
  | .absorbTimerExpiry => Sys2Proof.Machine.execAbsorbTimerExpiry s
  | .equalizeComplete => Sys2Proof.Machine.execEqualizeComplete s
  | .shedDelayExpiry => Sys2Proof.Machine.execShedDelayExpiry s
  | .nelReconnect => Sys2Proof.Machine.execNelReconnect s
  | .batteryDisconnect => Sys2Proof.Machine.execBatteryDisconnect s
  | .bpdReconnect => Sys2Proof.Machine.execBpdReconnect s
  | .dischargeCountExpiry => Sys2Proof.Machine.execDischargeCountExpiry s
  | .startTimeout n => Sys2Proof.Machine.execStartTimeout n s
  | .faultRecovery n => Sys2Proof.Machine.execFaultRecovery n s
  | .rotationDue => Sys2Proof.Machine.execRotationDue s
  | .swapOverlapExpiry => Sys2Proof.Machine.execSwapOverlapExpiry s
  | .commandSent => Sys2Proof.Machine.execCommandSent s
  | .replyWindowExpiry => Sys2Proof.Machine.execReplyWindowExpiry s
  | .statusFrame bytes => Sys2Proof.Machine.execStatusFrame bytes s
  | .replyGapTimeout => Sys2Proof.Machine.execReplyGapTimeout s
  | .trailingBytes => Sys2Proof.Machine.execTrailingBytes s
  | .turnaroundEnd => Sys2Proof.Machine.execTurnaroundEnd s
  | .primeTimeExpiry => Sys2Proof.Machine.execPrimeTimeExpiry s
  | .crankMaximumExpiry => Sys2Proof.Machine.execCrankMaximumExpiry s
  | .crankRestExpiry => Sys2Proof.Machine.execCrankRestExpiry s
  | .warmupFaultArm => Sys2Proof.Machine.execWarmupFaultArm s
  | .warmupEnd => Sys2Proof.Machine.execWarmupEnd s
  | .mainsFailStartDelay => Sys2Proof.Machine.execMainsFailStartDelay s
  | .busStartQualified => Sys2Proof.Machine.execBusStartQualified s
  | .restCountComplete => Sys2Proof.Machine.execRestCountComplete s
  | .maxRun => Sys2Proof.Machine.execMaxRun s
  | .duration => Sys2Proof.Machine.execDuration s
  | .cooldownExpiry => Sys2Proof.Machine.execCooldownExpiry s
  | .stopConfirmExpiry => Sys2Proof.Machine.execStopConfirmExpiry s
  | .rearmExpiry => Sys2Proof.Machine.execRearmExpiry s
  | .manualStopHoldExpiry => Sys2Proof.Machine.execManualStopHoldExpiry s
  | .calendarTick => Sys2Proof.Machine.execCalendarTick s
  | .windowClose => Sys2Proof.Machine.execWindowClose s
  | .qualificationCountExpiry c => Sys2Proof.Machine.execQualificationCountExpiry c s
  | .lampHalfPeriod => Sys2Proof.Machine.execLampHalfPeriod s
  | .idleCountExpiry => Sys2Proof.Machine.execIdleCountExpiry s
  | .storeWriteComplete => Sys2Proof.Machine.execStoreWriteComplete s
  | .modeTableWriteComplete => Sys2Proof.Machine.execModeTableWriteComplete s
  | .runClose => Sys2Proof.Machine.execRunClose s
  | .linkByteDiscard => Sys2Proof.Machine.execLinkByteDiscard s
  | .replyBegin => Sys2Proof.Machine.execReplyBegin s
  | .replyEnd => Sys2Proof.Machine.execReplyEnd s
  | .deafIdleExpiry => Sys2Proof.Machine.execDeafIdleExpiry s
  | .snapshotDrop => Sys2Proof.Machine.execSnapshotDrop s
  | .status source sect => Sys2Proof.Machine.execStatus source sect s
  | .readMeasure source => Sys2Proof.Machine.execReadMeasure source s
  | .readString source string => Sys2Proof.Machine.execReadString source string s
  | .readRoster source first count => Sys2Proof.Machine.execReadRoster source first count s
  | .readAlarms source first count => Sys2Proof.Machine.execReadAlarms source first count s
  | .nextNotice source => Sys2Proof.Machine.execNextNotice source s
  | .readRunlog source age => Sys2Proof.Machine.execReadRunlog source age s
  | .readClock source => Sys2Proof.Machine.execReadClock source s
  | .readSettings source group first count => Sys2Proof.Machine.execReadSettings source group first count s
  | .readSignature source group => Sys2Proof.Machine.execReadSignature source group s
  | .snapshot => Sys2Proof.Machine.execSnapshot s
  | .setClock year month day hour minute second => Sys2Proof.Machine.execSetClock year month day hour minute second s
  | .alignClock => Sys2Proof.Machine.execAlignClock s
  | .ackAlarm form selector => Sys2Proof.Machine.execAckAlarm form selector s
  | .resetLatch => Sys2Proof.Machine.execResetLatch s
  | .hold minutes => Sys2Proof.Machine.execHold minutes s
  | .release => Sys2Proof.Machine.execRelease s
  | .genStart minutes loadFlag => Sys2Proof.Machine.execGenStart minutes loadFlag s
  | .genStop => Sys2Proof.Machine.execGenStop s
  | .equalizeStart => Sys2Proof.Machine.execEqualizeStart s
  | .equalizeStop => Sys2Proof.Machine.execEqualizeStop s
  | .capacityTestStart target => Sys2Proof.Machine.execCapacityTestStart target s
  | .capacityTestAbort => Sys2Proof.Machine.execCapacityTestAbort s
  | .rectifierLockout slot => Sys2Proof.Machine.execRectifierLockout slot s
  | .rectifierRestore slot => Sys2Proof.Machine.execRectifierRestore slot s
  | .rotateNow => Sys2Proof.Machine.execRotateNow s
  | .unlock group signature => Sys2Proof.Machine.execUnlock group signature s
  | .lockGroupRelock group => Sys2Proof.Machine.execLockGroupRelock group s
  | .lockGroupSeal group => Sys2Proof.Machine.execLockGroupSeal group s
  | .lockGroupMode group mode => Sys2Proof.Machine.execLockGroupMode group mode s
  | .writeSettings group first count values => Sys2Proof.Machine.execWriteSettings group first count values s
  | .restart => Sys2Proof.Machine.execRestart s
  | .plantSupplyLoss => Sys2Proof.Machine.execPlantSupplyLoss s
  | .backupCellFailure => Sys2Proof.Machine.execBackupCellFailure s
  | .linkByteBegins b => Sys2Proof.Machine.execLinkByteBegins b s
  | .moduleReplyByte b => Sys2Proof.Machine.execModuleReplyByte b s

end Sys2Proof.Machine
end

