-- ==== Sys2Proof/Safety.lean ====
section
/-! DEFINITION. The properties of a state that the manual promises of the whole part, in the terms the statements
use. -/

namespace Sys2Proof.Machine

/-- The command is taken and leads to a next state of which `P` holds. -/
def Leads (i : Instr) (s : State) (P : State → Prop) : Prop := ∃ t, exec i s = .next t ∧ P t

/-! ## Properties of every state -/

/-- R148, R164, R173: the run log and the notice queue hold at most what they may, the alarm table its forty
records. -/
def State.TablesBounded (s : State) : Prop :=
  s.alarm.notices.length ≤ 32 ∧ s.gen.log.length ≤ 24 ∧ s.alarm.records.length = 40

/-- R15: the plant mode and AC available are those that their three inputs give. -/
def State.ModeDerived (s : State) : Prop := s.sup.mode = deriveMode s ∧ s.sup.ac = deriveAc s

/-- R45, R48, R50, R60, R66: the stage is DISCHARGE exactly in BATTERY and PROTECT, EQUALIZE and TEST only in MAINS; a
test is in flight exactly in TEST, and an equalize RUNNING exactly in EQUALIZE. -/
def State.StageFits (s : State) : Prop :=
  (s.charge.stage = .discharge ↔ s.sup.mode = .battery ∨ s.sup.mode = .protect) ∧
    (s.charge.stage = .equalize ∨ s.charge.stage = .test → s.sup.mode = .mains) ∧
    (s.charge.test.isSome = true ↔ s.charge.stage = .test) ∧
    (s.charge.eq.state = .running ↔ s.charge.stage = .equalize)

/-- R152 and the calendar record: every field in its range, and the weekday that of the date. -/
def State.CalendarLegal (s : State) : Prop :=
  2000 ≤ s.cal.year ∧ s.cal.year ≤ 2099 ∧ 1 ≤ s.cal.month ∧ s.cal.month ≤ 12 ∧ 1 ≤ s.cal.day ∧
    s.cal.day ≤ daysInMonth s.cal.year s.cal.month ∧ s.cal.hour ≤ 23 ∧ s.cal.minute ≤ 59 ∧ s.cal.second ≤ 59 ∧
    s.cal.weekday = weekdayOf s.cal.year s.cal.month s.cal.day

/-- R192: the cell thresholds of groups 1 and 2 stand in their order. -/
def CellsInOrder (work : List (List Nat)) : Prop :=
  let v := fun g i => (work.getD g []).getD i 0
  v 2 0 < v 2 4 ∧ v 2 4 < v 2 9 ∧ v 2 9 < v 1 0 ∧ v 1 0 < v 1 1 ∧ v 1 1 ≤ v 1 2 ∧ v 1 2 < v 2 10 ∧
    v 1 3 < v 1 4 ∧ v 2 4 < v 1 4 ∧ v 1 4 < v 2 9

/-- R192: the generator budget is at least the module rating. -/
def BudgetInOrder (work : List (List Nat)) : Prop := (work.getD 0 []).getD 14 0 ≤ (work.getD 3 []).getD 25 0

/-- R192: the settings stand in their order. -/
def SettingsInOrder (work : List (List Nat)) : Prop := CellsInOrder work ∧ BudgetInOrder work

/-- R191 to R193: the working copies are in order, and so they will be when the store write in flight completes. -/
def State.SettingsOrdered (s : State) : Prop :=
  s.store.work.length = 8 ∧ SettingsInOrder s.store.work ∧
    ∀ g values, s.store.write = some (.group g values) → SettingsInOrder (s.store.work.set g values)

/-- The initial charge of a group 0 is at most 100 %. -/
def InitialChargeLegal (identity : List Nat) : Prop := identity.getD 16 0 ≤ 100

/-- The initial charge is legal wherever the store holds a group 0 that can come into force. -/
def State.InitialChargeBounded (s : State) : Prop :=
  s.store.work.length = 8 ∧ InitialChargeLegal (s.store.work.getD 0 []) ∧
    InitialChargeLegal (s.store.latched.getD 0 []) ∧
    (∀ m, s.store.images[0]? = some m → m.good = true → InitialChargeLegal m.values) ∧
    ∀ values, s.store.write = some (.group 0 values) → InitialChargeLegal values

/-- R24 to R26: an account lies between 0 and Amax, its residue strictly between one cAh either way. -/
def StringRec.Bounded (r : StringRec) : Prop := r.account ≤ 100 * r.capacity ∧ -36000 < r.residue ∧ r.residue < 36000

/-- Every account is bounded. -/
def State.AccountsBounded (s : State) : Prop :=
  s.InitialChargeBounded ∧ ∀ r, some r ∈ s.acct.strings → r.Bounded

/-- R167, R171, R179: once the table is evaluated, a record is GONE_UNSEEN only with its latching on. -/
def State.LatchingHonoured (s : State) : Prop :=
  s.alarm.evaluated = true → ∀ c, c < 40 → (s.record c).state = .goneUnseen → s.latching c = true

/-- R87, R88: the running list holds the STARTING and RUNNING slots, the standby queue the STANDBY slots, neither holds a
slot twice, and a swap is of two of the twelve slots. -/
def State.RosterPlaced (s : State) : Prop :=
  s.rect.slots.length = 12 ∧ s.bus.links.length = 12 ∧ s.rect.running.Nodup ∧ s.rect.queue.Nodup ∧
    (∀ i, i ∈ s.rect.running ↔ i < 12 ∧ ((s.slot i).state = .starting ∨ (s.slot i).state = .running)) ∧
    (∀ i, i ∈ s.rect.queue ↔ i < 12 ∧ (s.slot i).state = .standby) ∧
    ∀ w, s.rect.swap = some w → w.incoming < 12 ∧ w.outgoing < 12

/-- R88: the standby queue stands in ascending order of run hours, the lower number first between equal hours. -/
def State.QueueOrdered (s : State) : Prop := s.rect.queue.Pairwise fun i j => queueBefore s i j = true

/-- R107 to R109: the two slots of a swap are different members of the running list, and its phase is OVERLAP exactly while
the incoming slot is RUNNING. -/
def State.SwapPlaced (s : State) : Prop :=
  ∀ w, s.rect.swap = some w → w.incoming ∈ s.rect.running ∧ w.outgoing ∈ s.rect.running ∧ w.incoming ≠ w.outgoing ∧
    (w.phase = .overlap ↔ (s.slot w.incoming).state = .running)

/-! ## What commands bring -/

/-- R184: what a start verifies group `g` to: its image where the check is good, else the factory defaults. -/
def Store.verified (x : Store) (g : Nat) : List Nat :=
  (((x.images[g]?).filter Image.good).map Image.values).getD (groupDefaults g)

/-- R184: group `g` takes part in an order that the groups, as verified, would break. -/
def Store.Disordered (x : Store) (g : Nat) : Prop :=
  let work := (List.range 8).map x.verified
  (g = 1 ∨ g = 2) ∧ ¬ CellsInOrder work ∨ (g = 0 ∨ g = 3) ∧ ¬ BudgetInOrder work

/-- What stands right after a start with cause `cause` and the pins `p`, taken in `s` (R1, R7, R8 to R11, R17, R21, R71,
R86, R113, R126, R151, R154, R163, R179, R180, R184, R186, R187, R198, R207). -/
structure Started (cause : StartCause) (p : Pins) (s t : State) : Prop where
  supply : t.powered = true ∧ t.markerGood = true
  kind : t.sup.startKind = (if s.markerGood then .warm else .cold) ∧ t.sup.startCause = cause
  mode : t.sup.mode = (if t.prot.bpd = .opened then .protect else .battery) ∧ t.sup.ac = false
  hold : t.sup.hold = none
  contactors : t.prot =
    { nel := if s.markerGood then s.prot.nel else .closed
      shedCause := if s.markerGood then s.prot.shedCause else none
      bpd := if s.markerGood then s.prot.bpd else .closed
      shedCount := 0, nelCount := 0, disconnectCount := 0, bpdCount := 0, dischargeCount := 0 }
  stage : t.charge.stage = .discharge ∧ t.charge.latch = false ∧ t.charge.test = none ∧ t.charge.absorbCount = 0 ∧
    t.charge.tailCount = 0 ∧ t.charge.absorbTimer = 0 ∧ t.charge.armed = false ∧
    t.charge.tb = (t.now 1 6 : Int)
  equalizeCold : s.markerGood = false →
    t.charge.eq = { state := .none, remaining := 0, duration := 0, dayCount := 0, daysWaiting := 0 }
  equalizeWarm : s.markerGood = true →
    t.charge.eq =
      { s.charge.eq with state := if s.charge.eq.state = .running then .suspended else s.charge.eq.state }
  qualification : t.meas.mainsQualified = false ∧ t.meas.genPresent = false ∧ t.meas.mainsSense = p.mainsSense ∧
    t.meas.genSense = p.genSense ∧ t.meas.mainsTimer.isSome = p.mainsSense ∧ t.meas.genTimer.isSome = p.genSense
  inputs : ∀ n, n < 8 → (t.input n).active = false ∧ (t.input n).level = p.levels.getD n false
  fuel : t.meas.lastFuel = if s.markerGood then s.meas.lastFuel else 0
  channels : ∀ i, i < 4 → (t.stringChannel i).last = none ∧ (t.stringChannel i).held = 0 ∧ (t.therm i).last = none ∧
    (t.therm i).held = 0
  unfitted : ∀ i, i < 4 → t.now 0 9 ≤ i → t.stringChannel i = unfittedChannel
  roster : t.rect.running = [] ∧ t.rect.queue = [] ∧ t.rect.swap = none ∧ t.rect.lastSwap = none ∧
    t.rect.rotationRequest = false ∧ t.rect.requestFreed = false ∧ t.rect.spacing = 0 ∧ t.rect.dwell = 0 ∧
    t.rect.settle = 0 ∧ t.rect.im = t.now 0 14 ∧ t.rect.rotation = if s.markerGood then s.rect.rotation else 0
  slots : ∀ i, i < 12 → (t.slot i).state = .absent ∧ (t.slot i).answering = .unknown ∧ (t.slot i).faults = 0 ∧
    (t.slot i).data = none ∧ (t.slot i).hours = (if s.markerGood then (s.slot i).hours else 0)
  links : ∀ i, i < 12 → t.linkRec i = if i < t.now 0 15 then some unheardLink else none
  exchange : t.bus.exchange.slot = 0 ∧ t.bus.exchange.phase = .sending ∧ t.bus.exchange.run = false ∧
    t.bus.exchange.setpoint = t.charge.setpoint ∧ t.bus.exchange.limit = t.rect.im
  generator : t.gen.mainsFailTimer = some 0 ∧ t.gen.spent = false ∧ t.gen.stopHold = none ∧ t.gen.fuelLow = false ∧
    t.gen.fuelEmpty = false ∧ t.gen.busCount = 0
  machine : 0 < t.now 3 20 →
    t.gen.machine = (if s.markerGood ∧ s.gen.machine = .failed then .failed else .idle) ∧ t.gen.run = none
  clockWarm : s.markerGood = true → t.stamp = s.stamp ∧ t.cal.valid = s.cal.valid ∧ t.cal.weekday = s.cal.weekday
  clockCold : s.markerGood = false →
    t.stamp = 0 ∧ t.cal.valid = false ∧ t.cal.weekday = 5 ∧ t.cal.exState = .none ∧ t.cal.missed = false ∧
      t.cal.last = none
  records : ∀ c, c < 40 → (t.record c).state = (if s.markerGood then (s.record c).state else .idle) ∧
    (t.record c).occurrences = (if s.markerGood then (s.record c).occurrences else 0)
  notices : t.alarm.notices.head? = some
      { kind := .start, subject := (if s.markerGood then 0 else 1)
        value := 256 * cause.code + (if t.link.strapFault then 1 else 0) + (if t.cal.valid then 2 else 0)
        time := t.stamp } ∧
    t.alarm.resync = false ∧ t.alarm.evaluated = false
  locks : t.store.unlocked = none ∧ t.store.write = none ∧ t.store.sealed = List.replicate 8 false ∧
    t.store.latched = t.store.work
  groups : ∀ g, g < 8 →
    (s.store.Disordered g → t.group g = groupDefaults g ∧ t.store.damaged.getD g false = true) ∧
      (¬ s.store.Disordered g → t.group g = s.store.verified g ∧
        t.store.damaged.getD g false = !(s.store.images[g]?).any Image.good)
  modes : t.store.modes =
    (if s.store.copyA.good then s.store.copyA.modes
    else if s.store.copyB.good then s.store.copyB.modes
    else List.replicate 8 .keyed) ∧
    t.store.tableDamaged = (!s.store.copyA.good && !s.store.copyB.good)
  station : t.link.address = (strapAddress p.strapA p.strapB).getD 240 ∧
    t.link.strapFault = (strapAddress p.strapA p.strapB).isNone ∧ t.link.rate = t.now 7 36
  receiver : t.link.receiver = .deaf ∧ t.link.inHand = none ∧ t.link.reply = none ∧ t.link.overrun = false ∧
    t.link.snapshot = none

/-- What the measurement unit presents at an event with conversions `r` taken in `s` (R4, R5, R7, R8), and what the
event leaves as it was. -/
structure EventPresented (r : Readings) (s t : State) : Prop where
  bus : t.meas.bus = (if r.bus < 0 then 0 else if 7000 < r.bus then 7000 else r.bus.toNat) ∧
    t.meas.busValidity = (if 0 ≤ r.bus ∧ r.bus ≤ 7000 then .valid else .saturated)
  load : t.meas.load = (if r.load < 0 then 0 else if 20000 < r.load then 20000 else r.load.toNat) ∧
    t.meas.loadValidity = (if 0 ≤ r.load ∧ r.load ≤ 20000 then .valid else .saturated)
  strings : ∀ i, i < 4 →
    let x := stringReading r i
    let c := s.stringChannel i
    t.stringChannel i =
      if s.now 0 9 ≤ i then { reading := 0, validity := .notFitted, held := 0, last := none }
      else if -10000 ≤ x ∧ x ≤ 10000 then { reading := x, validity := .valid, held := 0, last := some x }
      else if c.held < 10 then
        { reading := c.last.getD 0, validity := .held, held := c.held + 1, last := c.last }
      else { reading := 0, validity := .unusable, held := 10, last := c.last }
  therms : ∀ i, i < 4 →
    let x := thermReading r i
    let c := s.therm i
    t.therm i =
      if -400 ≤ x ∧ x ≤ 900 then { reading := x, validity := .valid, held := 0, last := some x }
      else if c.last = none ∨ c.validity = .fallback ∨ c.validity = .held ∧ 600 ≤ c.held + 1 then
        { reading := s.now 1 6, validity := .fallback, held := 600, last := c.last }
      else
        { reading := c.last.getD 0, validity := .held
          held := if c.validity = .held then c.held + 1 else 0, last := c.last }
  fuel : (t.meas.fuel, t.meas.fuelValidity, t.meas.lastFuel) =
    if s.now 3 26 ≠ 1 then (100, .notFitted, s.meas.lastFuel)
    else if 0 ≤ r.fuel ∧ r.fuel ≤ 100 then (r.fuel.toNat, .valid, r.fuel.toNat)
    else (s.meas.lastFuel, .held, s.meas.lastFuel)
  senses : t.meas.mainsSense = s.meas.mainsSense ∧ t.meas.mainsQualified = s.meas.mainsQualified ∧
    t.meas.genSense = s.meas.genSense ∧ t.meas.genPresent = s.meas.genPresent ∧
    t.meas.inputs.map SiteInput.active = s.meas.inputs.map SiteInput.active ∧
    t.meas.inputs.map SiteInput.level = s.meas.inputs.map SiteInput.level
  settings : t.store =
    { s.store with latched := s.store.work, fresh := [], unlocked := t.store.unlocked, idle := t.store.idle }
  exchange : t.bus.exchange = { s.bus.exchange with orphan := t.bus.exchange.orphan } ∧ t.bus.tag = s.bus.tag
  link : t.link = { s.link with snapshot := t.link.snapshot }
  time : t.stamp = s.stamp ∧ t.cal.valid = s.cal.valid ∧ t.cal.weekday = s.cal.weekday
  supply : t.powered = s.powered ∧ t.markerGood = s.markerGood

/-! ## What operations leave, for the statements to name -/

/-- R165: condition `c` has been reported as `v`; no other record has changed and no notice has been lost from the
queue. -/
structure Reported (c : Nat) (v : Bool) (s t : State) : Prop where
  cond : (t.record c).cond = v
  others : ∀ d, d < 40 → d ≠ c → t.record d = s.record d
  notices : s.alarm.notices <+: t.alarm.notices
  evaluated : t.alarm.evaluated = s.alarm.evaluated

/-- R45, R55, R58, R59, R95: the stage has become `new`, with the counts of the stages discarded and the setpoint, the
battery limit and the module limit formed again. -/
structure StageEntered (new : Stage) (s t : State) : Prop where
  setpoint : t.charge.setpoint =
    if new = .test then s.cells * s.inForce 1 3 / 10 else compensated s (cellValue s new) s.charge.tc
  charge : t.charge =
    { s.charge with
      stage := new, setpoint := t.charge.setpoint, ibl := batteryLimit t, absorbCount := 0, tailCount := 0
      absorbTimer := 0, armed := false, eq := t.charge.eq, test := t.charge.test }
  modules : t.rect = { s.rect with im := t.moduleLimit }

/-- R112, R87, R95, R102: slot `i` has left the running list and the standby queue for a state `new` that is in
neither, or for STANDBY with its place in the queue; with the last change, the counts, the module limit and the two
conditions that follow. -/
structure SlotTook (i : Nat) (new : SlotState) (s t : State) : Prop where
  slot : t.slot i =
    { s.slot i with
      state := new, lastChange := s.stamp, startCount := 0, recovery := 0, faults := (t.slot i).faults
      data := if new = .absent then none else (s.slot i).data }
  others : ∀ j, j < 12 → j ≠ i → t.slot j = s.slot j
  running : t.rect.running = s.rect.running.erase i
  queue : t.rect.queue =
    if new = .standby then
      (s.rect.queue.takeWhile fun j => !queueBefore s i j) ++ i :: s.rect.queue.dropWhile fun j => !queueBefore s i j
    else s.rect.queue.erase i
  limit : t.rect.im = if t.nRun = s.nRun then s.rect.im else t.moduleLimit
  conditions : (t.record 16).cond = (faultCount t == 1) ∧ (t.record 17).cond = decide (2 ≤ faultCount t)
  counts : t.rect.fitted = s.rect.fitted ∧ t.rect.spacing = s.rect.spacing ∧ t.rect.dwell = s.rect.dwell ∧
    t.rect.settle = s.rect.settle ∧ t.rect.upFormed = s.rect.upFormed ∧ t.rect.downFormed = s.rect.downFormed

/-- R108, R109: a swap in which slot `i` takes part has ended, ABANDONED for the incoming slot and NO_STOP for the
outgoing, with its ROTATION notice; any other stands. -/
structure SwapLeft (i : Nat) (s t : State) : Prop where
  swap : t.rect.swap = s.rect.swap.filter fun w => w.incoming != i && w.outgoing != i
  ended : ∀ w, s.rect.swap = some w → w.incoming = i ∨ w.outgoing = i →
    t.rect.lastSwap = some
        { incoming := w.incoming, outgoing := w.outgoing
          outcome := if w.incoming = i then .abandoned else .noStop, endTime := s.stamp } ∧
      t.rect.rotation = (if w.incoming = i then s.rect.rotation else 0) ∧ t.rect.rotationRequest = false ∧
      t.rect.requestFreed = false ∧
      (s.alarm.notices.length < 30 →
        ({ kind := .rotation, subject := w.incoming, value := if w.incoming = i then 3 else 2
           time := s.stamp } : Notice) ∈ t.alarm.notices)
  stands : (s.rect.swap.any fun w => w.incoming == i || w.outgoing == i) = false →
    t.rect.lastSwap = s.rect.lastSwap ∧ t.rect.rotation = s.rect.rotation ∧
      t.rect.rotationRequest = s.rect.rotationRequest ∧ t.rect.requestFreed = s.rect.requestFreed

/-- R127, R129, R132, R147, R148: a run has begun, with its record at the head of the log. -/
structure RunBegun (basis : Basis) (opening : Option Basis) (load : Bool) (duration : Option Nat) (s t : State) :
    Prop where
  machine : t.gen.machine =
    if 0 < s.inForce 3 11 then .priming else if s.meas.genPresent then .warmup else .cranking
  run : t.gen.run = some
    { basis := basis, opening := opening, exMark := s.gen.exercise.isSome, load := load
      attempts := if s.inForce 3 11 = 0 ∧ s.meas.genPresent = false then 1 else 0, warmupEnd := none, runTime := 0
      duration := duration, durCount := none, tailMark := false, stopReason := none, reachedOnline := false }
  log : t.gen.log =
    (({ basis := basis, opening := opening, startTime := s.stamp, warmupEnd := none, stopTime := none
        stopReason := none
        attempts := if s.inForce 3 11 = 0 ∧ s.meas.genPresent = false then 1 else 0
        fuelStart := s.meas.fuel, fuelStop := none, reachedOnline := false } : RunRec) :: s.gen.log).take 24
  generator : t.gen =
    { s.gen with machine := t.gen.machine, stateCount := 0, run := t.gen.run, log := t.gen.log }
  mark : t.cal = { s.cal with runMark := s.cal.runMark || s.gen.exercise.isSome }
  notice : s.alarm.notices.length < 32 →
    ({ kind := .genRunStart, subject := basis.code, value := s.meas.fuel, time := s.stamp } : Notice) ∈
      t.alarm.notices
  running : s.alarm.records.length = 40 → (t.record 24).cond = true
  frame : t = { s with gen := t.gen, cal := t.cal, alarm := t.alarm }

/-- R129, R147: an evaluation of the causes and the gates at `s`: nothing changes unless the gates are open and a cause
is true, and then the first cause begins a run. -/
structure Evaluated (s t : State) : Prop where
  closed : gatesOpen s = false ∨ firstCause s = none → t = s
  plant : ∀ b, firstCause s = some b → gatesOpen s = true → b ≠ .exercise → RunBegun b none false none s t
  exercise : gatesOpen s = true → firstCause s = some .exercise →
    if s.meas.mainsQualified = true then RunBegun .exercise none false s.gen.exercise s t
    else RunBegun .mainsFail (some .exercise) false none s t

/-- R139, R140, R148: the machine has entered STOPPING from `s`, the run there having stop reason `reason` and failure
reason `fail`: it stays there while generator AC is PRESENT, and with it ABSENT the stop is confirmed, the record
closed and the rest count begun. -/
structure StoppingEntered (reason : Option StopReason) (fail : Option FailReason) (s t : State) : Prop where
  confirming : s.meas.genPresent = true →
    t.gen.machine = .stopping ∧ t.gen.stateCount = 0 ∧
      t.gen.run = s.gen.run.map fun r => { r with stopReason := reason }
  confirmed : s.meas.genPresent = false → 0 < s.minRest →
    t.gen.machine = (if fail = some .engineFault ∨ fail = some .engineLost then .failed else .idle) ∧
      t.gen.run = none ∧ t.gen.restCount = 0
  record : s.meas.genPresent = false → ∀ x, s.gen.log.head? = some x →
    ({ x with stopTime := some s.stamp, stopReason := reason, fuelStop := some s.meas.fuel } : RunRec) ∈ t.gen.log
  failure : t.gen.failReason = fail
  frame : t =
    { s with
      sup := t.sup, acct := t.acct, charge := t.charge, prot := t.prot, rect := t.rect, gen := t.gen, cal := t.cal
      alarm := t.alarm, link := t.link }

/-! ## Enumerated values -/

/-- R214: every enumerated value has the number of its place in the list of its field, counted from 0. -/
def NumberedInOrder : Prop :=
  [Mode.mains, .generator, .battery, .protect].map Mode.code = List.range 4 ∧
    [Stage.discharge, .bulk, .absorb, .float, .equalize, .test].map Stage.code = List.range 6 ∧
    [GenState.idle, .priming, .cranking, .crankRest, .warmup, .online, .offload, .cooldown, .stopping, .failed].map
        GenState.code = List.range 10 ∧
    [Basis.mainsFail, .accountLow, .busLow, .remote, .exercise, .manual].map Basis.code = List.range 6 ∧
    [StopReason.mainsReturn, .charged, .remoteOff, .duration, .maxRun, .manualStop, .inhibit, .fuelEmpty, .notFitted,
      .engineFault, .engineLost, .startFail, .stopFail, .reset].map StopReason.code = List.range 14 ∧
    [SlotState.absent, .standby, .starting, .running, .fault, .lockout].map SlotState.code = List.range 6 ∧
    [Answering.unknown, .yes, .no].map Answering.code = List.range 3 ∧
    [AlarmState.idle, .activeNew, .activeSeen, .goneUnseen].map AlarmState.code = List.range 4 ∧
    [Validity.valid, .held, .saturated, .unusable, .fallback, .notFitted].map Validity.code = List.range 6 ∧
    [Sync.unsync, .sync].map Sync.code = List.range 2 ∧
    [TestOutcome.pass, .endVoltage, .aborted].map TestOutcome.code = List.range 3 ∧
    [SwapOutcome.completed, .absorbed, .noStop, .abandoned].map SwapOutcome.code = List.range 4 ∧
    [NoticeKind.alarmChange, .modeChange, .stageChange, .genRunStart, .genRunEnd, .rotation, .equalizeEnd, .testEnd,
      .inputEdge, .settingWritten, .start].map NoticeKind.code = List.range 11 ∧
    [StartKind.warm, .cold].map StartKind.code = List.range 2 ∧
    [StartCause.supplyReturned, .resetPin, .restart].map StartCause.code = List.range 3 ∧
    [HoldCause.request, .key].map HoldCause.code = List.range 2 ∧
    [EqState.none, .pending, .running, .suspended].map EqState.code = List.range 4 ∧
    [FailReason.startFail, .stopFail, .engineFault, .engineLost].map FailReason.code = List.range 4 ∧
    [ShedCause.voltage, .soc, .both].map ShedCause.code = List.range 3 ∧
    [Contactor.closed, .opened].map Contactor.code = List.range 2 ∧
    [SwapPhase.starting, .overlap].map SwapPhase.code = List.range 2 ∧
    [ExState.none, .due, .waiting].map ExState.code = List.range 3 ∧
    [ExOutcome.served, .counted, .missed].map ExOutcome.code = List.range 3

end Sys2Proof.Machine
end

