-- ==== Sys2Proof/WellFormed.lean ====
section
/-! DEFINITION. Which commands are well formed: what the plant and the lines can send as one command. -/

namespace Sys2Proof

/-- The order of a measurement event names each block once. -/
def wellFormedOrder (order : List Block) : Bool :=
  order.length == allBlocks.length && allBlocks.all fun b => order.contains b

/-- The pins of a start: eight input levels (R11). -/
def Pins.wellFormed (p : Pins) : Bool := p.levels.length == 8

/-- A status frame brings at most the twelve bytes of R213. -/
def wellFormedStatusFrame (bytes : List LineByte) : Bool := decide (bytes.length ≤ 12)

/-- R209, R210: the payload of WRITE SETTINGS, 3 bytes and 2 for each value, is at most 96 bytes. -/
def wellFormedValues (values : List Half) : Bool := decide (3 + 2 * values.length ≤ 96)

/-- The commands that can be sent. -/
def Instr.wellFormed : Instr → Bool
  | .powerReturnStart p => p.wellFormed
  | .resetPinStart p => p.wellFormed
  | .restartWarmStart p => p.wellFormed
  | .measurementEvent _ order => wellFormedOrder order
  | .statusFrame bytes => wellFormedStatusFrame bytes
  | .writeSettings _ _ _ values => wellFormedValues values
  | _ => true

end Sys2Proof
end

