-- ==== Sys2Proof/Certificates/Slice0/Obligations.lean ====
section
/-! DEFINITION. The statements for the provers. -/

section Obligations

open Sys2Proof Sys2Proof.Machine

/-- For every command c, queue rest and state s: step at s with c at the front of its queue answers what exec
answers for c at s with the rest as its queue; on an empty queue the step answers the state unchanged. -/
def Obligations.StepRunsTheFrontCommand : Prop :=
  ∀ (c : Instr) (rest : List Instr) (s : State),
    step { s with pending := c :: rest } = exec c { s with pending := rest } ∧
      step { s with pending := [] } = .next { s with pending := [] }

/-- For every command and every state, exec answers a next state (never a fault or a refusal), and the queue of
waiting commands in it is the one it was given. -/
def Obligations.CommandsLeaveTheQueueAlone : Prop :=
  ∀ (i : Instr) (s : State), Leads i s fun t => t.pending = s.pending

/-- With the plant supply absent, every command except POWER_RETURN_START, CALENDAR_TICK and BACKUP_CELL_FAILURE
answers the state unchanged. Rules: R1, R153. -/
def Obligations.NothingMovesWithoutSupply : Prop :=
  ∀ (i : Instr) (s : State), s.powered = false →
    match i with
    | .powerReturnStart _ => True
    | .calendarTick => True
    | .backupCellFailure => True
    | i => exec i s = .next s

/-- For every state whose notice queue holds at most 32 notices, whose run log holds at most 24 records and
whose alarm table holds forty records, if a step answers a next state, the same holds of that state. Rules:
R148, R164, R173. -/
def Obligations.StepsKeepTheTablesBounded : Prop :=
  ∀ (s t : State), s.TablesBounded → step s = .next t → t.TablesBounded

/-- For every state in which the plant mode is PROTECT exactly while the BPD is OPEN, else GENERATOR while the
machine is ONLINE, else MAINS while mains is QUALIFIED, else BATTERY, and AC available is QUALIFIED or ONLINE,
every step that answers a next state leads to a state of which the same holds. If besides the stage is DISCHARGE
exactly in BATTERY and PROTECT, EQUALIZE or TEST only in MAINS, a test in flight exactly in TEST and an equalize
RUNNING exactly in EQUALIZE, the step keeps that too. Rules: R15, R17, R45, R48, R50, R66, R71. -/
def Obligations.StepsKeepTheModeDerived : Prop :=
  ∀ (s t : State), s.ModeDerived → step s = .next t → t.ModeDerived ∧ (s.StageFits → t.StageFits)

/-- For every state whose working copies keep disconnect < shed < bus-low < float < absorb <= equalize <
bus-high, test-hold < test-end, shed < test-end < bus-low and Rm <= budget, and would keep them when the store
write in flight completes, every step that answers a next state leads to a state of which the same holds; starts
that find damaged groups are among the steps. Rules: R184, R191, R192, R193, R194. -/
def Obligations.StepsKeepTheSettingsOrdered : Prop :=
  ∀ (s t : State), s.SettingsOrdered → step s = .next t → t.SettingsOrdered

/-- For every state whose year, month, day, hour, minute and second lie in the ranges of the calendar record
(the day within the days of the month) and whose weekday is that of the date counted from SATURDAY 2000-01-01,
every step that answers a next state leads to a state of which the same holds. Rules: R152, R153, R155, R156,
R163. -/
def Obligations.StepsKeepTheCalendarLegal : Prop :=
  ∀ (s t : State), s.CalendarLegal → step s = .next t → t.CalendarLegal

/-- For every state whose store holds no initial charge above 100 % in any group 0 that can come into force, and
whose string records have accounts of at most 100 times the recorded capacity and residues strictly between
-36000 and 36000, every step that answers a next state leads to a state of which the same holds. Rules: R22,
R24, R25, R35, R36, R43. -/
def Obligations.StepsKeepTheAccountsBounded : Prop :=
  ∀ (s t : State), s.AccountsBounded → step s = .next t → t.AccountsBounded

/-- For every state in which, once the table is evaluated, a record is in GONE_UNSEEN only if its working
latching setting is on, every step that answers a next state leads to a state of which the same holds. Rules:
R167, R171, R179. -/
def Obligations.StepsHonourTheLatching : Prop :=
  ∀ (s t : State), s.LatchingHonoured → step s = .next t → t.LatchingHonoured

/-- For every state with twelve slot records and link records whose running list holds exactly the STARTING and
RUNNING slots and whose standby queue holds exactly the STANDBY slots, neither holding a slot twice, and whose
swap is of two of the twelve slots, every step that answers a next state leads to a state of which the same
holds. If besides the standby queue stands in ascending order of run hours, the lower slot number first between
equal hours, the step keeps that too; and so it does if besides the two slots of a swap are different members of
the running list and its phase is OVERLAP exactly while the incoming slot is RUNNING. Rules: R87, R88, R105,
R107, R108, R109, R111, R113. -/
def Obligations.StepsKeepTheRosterPlaced : Prop :=
  ∀ (s t : State), s.RosterPlaced → step s = .next t → t.RosterPlaced ∧ (s.QueueOrdered → t.QueueOrdered) ∧
    (s.SwapPlaced → t.SwapPlaced)

/-- State.reset has bounded tables, a derived mode and a stage that fits it, ordered settings, a legal calendar,
bounded accounts, honoured latching, a placed roster, an ordered queue and a placed swap. Rules: R15, R45, R87,
R88, R152, R167, R173, R192. -/
def Obligations.ResetMeetsTheInvariants : Prop :=
  State.reset.TablesBounded ∧ State.reset.ModeDerived ∧ State.reset.StageFits ∧ State.reset.SettingsOrdered ∧
    State.reset.CalendarLegal ∧ State.reset.AccountsBounded ∧ State.reset.LatchingHonoured ∧
    State.reset.RosterPlaced ∧ State.reset.QueueOrdered ∧ State.reset.SwapPlaced

/-- POWER_RETURN_START in every state (with the supply standing it is a loss and a return, the model's choice,
log 9), RESET_PIN_START with the supply present, and RESTART_WARM_START with the supply present and the reply to
a RESTART being sent (log 27), each answer a next state that is Started: kind by the check marker, mode BATTERY
or PROTECT, stage DISCHARGE, contactors kept or closed, roster empty, links UNHEARD, records kept or cleared,
START at the head of the queue, each group loaded from its image if that is good and else with its defaults, but
with its defaults and marked damaged where the order of groups 1 and 2, or of 0 and 3, would be broken (for two
good images the model's choice, log 52), the mode table from its first good copy, station address read, receiver
DEAF, and the rest of Started. RESTART_WARM_START with no such reply being sent leaves the state unchanged.
Rules: R1, R17, R71, R86, R113, R126, R151, R163, R180, R184, R198, R207. -/
def Obligations.StartsBringTheirState : Prop :=
  ∀ (p : Pins) (s : State),
    Leads (.powerReturnStart p) s (Started .supplyReturned p s) ∧
      (s.powered = true → Leads (.resetPinStart p) s (Started .resetPin p s)) ∧
      (s.powered = true → s.link.restartDue = true → s.link.reply ≠ none →
        Leads (.restartWarmStart p) s (Started .restart p s)) ∧
      (s.powered = true → s.link.restartDue = false ∨ s.link.reply = none →
        exec (.restartWarmStart p) s = .next s)

/-- After each of the three starts (POWER_RETURN_START in every state, log 9 with the supply standing;
RESET_PIN_START; RESTART_WARM_START while the reply to a RESTART is sent), each of the four strings: not fitted,
no record; fitted after a cold start, or after a warm start without a record, the working capacity, account 100
x capacity x initial charge / 100, residue 0, UNSYNC, everything else absent; after a warm start with a record
of the working capacity, that record with baseline and delivered absent; with a record of another capacity, that
record with the working capacity, the account no more than the new Amax, residue 0, UNSYNC, and baseline and
delivered absent. Rules: R35, R36, R37, R41, R42, R43. -/
def Obligations.StartsKeepOrRenewTheAccounts : Prop :=
  ∀ (p : Pins) (s : State),
    let renewed := fun t : State => ∀ i, i < 4 →
      let fresh : StringRec :=
        { capacity := t.now 0 (10 + i), account := 100 * t.now 0 (10 + i) * t.now 0 16 / 100, residue := 0
          sync := .unsync, baseline := none, delivered := none, lastTest := none, lastHealth := none }
      (t.now 0 9 ≤ i → t.stringRec i = none) ∧
        (i < t.now 0 9 → s.markerGood = false ∨ s.stringRec i = none → t.stringRec i = some fresh) ∧
        (i < t.now 0 9 → s.markerGood = true → ∀ r, s.stringRec i = some r → t.stringRec i = some
          (if r.capacity = t.now 0 (10 + i) then { r with baseline := none, delivered := none }
          else
            { r with
              capacity := t.now 0 (10 + i), account := min r.account (100 * t.now 0 (10 + i)), residue := 0
              sync := .unsync, baseline := none, delivered := none }))
    Leads (.powerReturnStart p) s renewed ∧ (s.powered = true → Leads (.resetPinStart p) s renewed) ∧
      (s.powered = true → s.link.restartDue = true → s.link.reply ≠ none → Leads (.restartWarmStart p) s renewed)

/-- PLANT_SUPPLY_LOSS with the supply present answers the state with the supply absent and no store write in
flight, all else as it was (log 30). BACKUP_CELL_FAILURE answers the state with the check marker broken when the
supply is absent, and the state unchanged when it is present. Rules: R1, R193. -/
def Obligations.SupplyLossAndCellFailure : Prop :=
  ∀ (s : State),
    (s.powered = true →
      exec .plantSupplyLoss s = .next { s with powered := false, store := { s.store with write := none } }) ∧
      (s.powered = false → exec .backupCellFailure s = .next { s with markerGood := false }) ∧
      (s.powered = true → exec .backupCellFailure s = .next s)

/-- For every set of conversions and every order, MEASUREMENT_EVENT with the supply present answers a next state
whose bus, load, string, thermistor and fuel channels hold what R4, R5, R7 and R8 give from the conversions, the
channels before and the working settings (a string that two completed writes unfit and fit again between two
events keeps its channel's hold count and last valid value, where R7 has a newly fitted channel evaluated as
though just started: the model's choice, log 48); the senses, qualifications and inputs' levels and states are
unchanged, and so are the working settings, the exchange on the module bus but for its orphan mark, and the link
unit but for its snapshot. The event is the presentation, then each block's turn once, in the order given and
completed (log 4). Rules: R3, R4, R5, R7, R8. -/
def Obligations.EventPresentsTheReadings : Prop :=
  ∀ (r : Readings) (order : List Block) (s : State), s.powered = true →
    Leads (.measurementEvent r order) s (EventPresented r s) ∧
      (let turns := fullOrder order
        let u := turns.foldl (fun v b => blockEvent b v) (raiseEvent r s)
        turns.Nodup ∧ (∀ b : Block, b ∈ turns) ∧
          exec (.measurementEvent r order) s = .next { u with store := { u.store with fresh := [] } })

/-- With the supply present and the stage not ABSORB, after MEASUREMENT_EVENT: a string above the strings-fitted
count in force has no record. A fitted one has the record it had, or a fresh one if it had none; if the capacity
in force at the event (the model's reading for writes that undo each other, log 48) differs from the recorded
one, with that capacity, the account clamped to it, residue 0 and UNSYNC, everything else of it kept (the test
fields the model's choice, log 49). With the account unit first in the order the current presented is then
integrated into it: the conversion in range, or for one out of range the last valid one, or 0 without one, while
HELD; a channel UNUSABLE integrates nothing and makes it UNSYNC. At an event raised in PROTECT nothing is
integrated, in whatever order the blocks take it and though it close the BPD. With a test in flight this is said
of capacity, account, residue and sync flag only. Rules: R23, R24, R25, R27, R28, R30, R35, R36, R81. -/
def Obligations.EventIntegratesTheAccounts : Prop :=
  ∀ (r : Readings) (order : List Block) (s : State), s.powered = true → s.charge.stage ≠ .absorb →
    ∀ i, i < 4 →
      let c := s.now 0 (10 + i)
      let x := stringReading r i
      let valid := -10000 ≤ x ∧ x ≤ 10000
      let current := if valid then x else (s.stringChannel i).last.getD 0
      let before : StringRec :=
        match s.stringRec i with
        | none =>
          { capacity := c, account := 100 * c * s.now 0 16 / 100, residue := 0, sync := .unsync
            baseline := none, delivered := none, lastTest := none, lastHealth := none }
        | some y =>
          if y.capacity = c then y
          else { y with capacity := c, account := min y.account (100 * c), residue := 0, sync := .unsync }
      let after :=
        if ¬ valid ∧ 10 ≤ (s.stringChannel i).held then { before with sync := .unsync }
        else if s.sup.mode = .protect then before
        else before.integrate (if 0 ≤ current then current * s.now 1 10 else current * 100)
      let holds := fun t : State =>
        (s.charge.test = none → t.stringRec i = some after) ∧
          (t.stringRec i).map (fun y => (y.capacity, y.account, y.residue, y.sync)) =
            some (after.capacity, after.account, after.residue, after.sync)
      (s.now 0 9 ≤ i → Leads (.measurementEvent r order) s fun t => t.stringRec i = none) ∧
        (i < s.now 0 9 → Leads (.measurementEvent r (.account :: order)) s holds) ∧
        (i < s.now 0 9 → s.sup.mode = .protect → Leads (.measurementEvent r order) s holds)

/-- For every record with a residue strictly between -36000 and 36000 and every contribution q: with k the
quotient of residue + q by 36000 truncated toward zero, k is added to the account and k x 36000 taken from the
sum, what is left lying strictly between -36000 and 36000 with the sign of the sum or 0; an account then above
Amax becomes Amax and one below 0 becomes 0, either with residue 0; any other keeps the residue, so that 36000 x
account + residue has grown by exactly q. Nothing else of the record changes. Rules: R24, R25. -/
def Obligations.IntegrationCarriesAndClamps : Prop :=
  ∀ (r : StringRec) (q : Int), -36000 < r.residue → r.residue < 36000 →
    let sum := r.residue + q
    let k := sum.tdiv 36000
    let a := (r.account : Int) + k
    let rest := sum - k * 36000
    let full := 100 * (r.capacity : Int)
    rest < 36000 ∧ -36000 < rest ∧ (0 ≤ sum → 0 ≤ rest) ∧ (sum ≤ 0 → rest ≤ 0) ∧
      (full < a → r.integrate q = { r with account := 100 * r.capacity, residue := 0 }) ∧
      (a < 0 → r.integrate q = { r with account := 0, residue := 0 }) ∧
      (0 ≤ a → a ≤ full → ((r.integrate q).account : Int) = a ∧
        r.integrate q = { r with account := (r.integrate q).account, residue := rest } ∧
        36000 * ((r.integrate q).account : Int) + (r.integrate q).residue = 36000 * (r.account : Int) + r.residue + q)

/-- With the supply present, THERMISTOR_FALLBACK of a thermistor that is HELD and whose hold count has reached
or is one short of 600 answers the state with that channel in FALLBACK, presenting the fallback temperature in
force, all else as it was; of a thermistor that is not HELD, the state unchanged. Rules: R5. -/
def Obligations.HeldThermistorFallsBack : Prop :=
  ∀ (i : Fin 4) (s : State), s.powered = true →
    ((s.therm i).validity = .held → 600 ≤ (s.therm i).held + 1 →
      exec (.thermistorFallback i) s = .next { s with meas := { s.meas with
        therms := s.meas.therms.modify i fun c =>
          { c with reading := s.inForce 1 6, validity := .fallback, held := 600 } } }) ∧
      ((s.therm i).validity ≠ .held → exec (.thermistorFallback i) s = .next s)

/-- With the supply present and a complete alarm table, STRING_CHANNEL_UNUSABLE of a channel HELD for ten events
answers a next state in which the channel is UNUSABLE and presents 0, the string's record has sync UNSYNC with
the account and residue it had, the other records their account, residue and sync, STRING_FAULT of the string is
true, and no test is in flight if the string is fitted; measurements of the other channels, settings, calendar,
bus and link are unchanged. Rules: R7, R29, R68. -/
def Obligations.UnusableChannelUnsyncsItsString : Prop :=
  ∀ (i : Fin 4) (s : State), s.powered = true → s.alarm.records.length = 40 →
    (s.stringChannel i).validity = .held → 11 ≤ (s.stringChannel i).held + 1 →
      Leads (.stringChannelUnusable i) s fun t =>
        t.meas = { s.meas with
          strings := s.meas.strings.modify i fun c => { c with reading := 0, validity := .unusable, held := 10 } } ∧
        (∀ n, n < 4 → (t.stringRec n).map (fun x => (x.account, x.residue, x.sync)) =
          (s.stringRec n).map fun x => (x.account, x.residue, if n = i.val then Sync.unsync else x.sync)) ∧
        (t.record (8 + i)).cond = true ∧ ((s.stringRec i).isSome = true → t.charge.test = none) ∧
        t = { s with
          meas := t.meas, acct := t.acct, charge := t.charge, rect := t.rect, prot := t.prot, alarm := t.alarm }

/-- With the supply present, MAINS_SENSE_CHANGE, GEN_SENSE_CHANGE and SITE_INPUT_LEVEL_CHANGE to a level other
than the present one answer the state with the new level and the timer at 0 if the level (for an input: its
sense through the polarity) differs from the qualified state and none if it agrees, all else as it was; to the
present level, the state unchanged. Rules: R9, R10, R11. -/
def Obligations.SensesAndLevelsRunTheirTimers : Prop :=
  ∀ (b : Bool) (n : Fin 8) (s : State), s.powered = true →
    (s.meas.mainsSense ≠ b → exec (.mainsSenseChange b) s = .next { s with meas := { s.meas with
        mainsSense := b, mainsTimer := if b = s.meas.mainsQualified then none else some 0 } }) ∧
      (s.meas.mainsSense = b → exec (.mainsSenseChange b) s = .next s) ∧
      (s.meas.genSense ≠ b → exec (.genSenseChange b) s = .next { s with meas := { s.meas with
        genSense := b, genTimer := if b = s.meas.genPresent then none else some 0 } }) ∧
      (s.meas.genSense = b → exec (.genSenseChange b) s = .next s) ∧
      ((s.input n).level ≠ b → exec (.siteInputLevelChange n b) s = .next { s with meas := { s.meas with
        inputs := s.meas.inputs.modify n fun x =>
          { x with level := b, timer := if (b != (s.now 7 (8 + n) == 1)) = x.active then none else some 0 } } }) ∧
      ((s.input n).level = b → exec (.siteInputLevelChange n b) s = .next s)

/-- With the supply present and a complete alarm table: MAINS_RETURN_TIMER_EXPIRY while the return timer runs
makes mains QUALIFIED, AC available true, MAINS_FAIL false, the mains-fail timer not running and the spent mark
clear; MAINS_FAIL_TIMER_EXPIRY while the fail timer runs makes mains NOT_QUALIFIED, MAINS_FAIL true, starts the
mains-fail timer, and, from a derived mode and a placed roster with the machine not ONLINE before it, empties
the running list (also where this loss moves the run to ONLINE, since the scheduler acts on the mode before the
generator on mains: the model's choice, log 6). Either leaves the mode and AC available derived. In ONLINE and
OFFLOAD a MANUAL run without the load flag goes to OFFLOAD at a return and to ONLINE at a loss; a loss converts
an EXERCISE run in PRIMING to WARMUP or OFFLOAD to MAINS_FAIL opened as EXERCISE, without a duration, from
OFFLOAD to ONLINE; no other basis changes, nor, in other states, the machine. Where no such timer runs the state
is unchanged. Settings, calendar, module bus, link and hold are unchanged. Rules: R9, R15, R16, R96, R130, R135,
R136. -/
def Obligations.MainsQualificationChanges : Prop :=
  ∀ (s : State), s.powered = true → s.alarm.records.length = 40 →
    let carries := s.gen.machine = .online ∨ s.gen.machine = .offload
    let starting := s.gen.machine = .priming ∨ s.gen.machine = .cranking ∨ s.gen.machine = .crankRest ∨
      s.gen.machine = .warmup
    let basisOf := fun (x : RunRec) => (x.basis, x.opening)
    (s.meas.mainsQualified = false → s.meas.mainsTimer.isSome = true →
      Leads .mainsReturnTimerExpiry s fun t =>
        t.meas = { s.meas with mainsQualified := true, mainsTimer := none } ∧ t.sup.mode = deriveMode t ∧
        t.sup.ac = true ∧ t.sup.hold = s.sup.hold ∧ (t.record 0).cond = false ∧ t.gen.mainsFailTimer = none ∧
        t.gen.spent = false ∧
        (∀ r, s.gen.run = some r → carries → r.basis = .manual → r.load = false → t.gen.machine = .offload) ∧
        (¬ carries → t.gen.machine = s.gen.machine) ∧
        (∀ r, s.gen.run = some r →
          t.gen.run.map (fun x => { x with reachedOnline := r.reachedOnline }) = some r ∧
            t.gen.log.map basisOf = s.gen.log.map basisOf) ∧
        t = { s with
          meas := t.meas, sup := t.sup, acct := t.acct, charge := t.charge, rect := t.rect, prot := t.prot
          gen := t.gen, alarm := t.alarm }) ∧
      (s.meas.mainsQualified = true → s.meas.mainsTimer.isSome = true →
        Leads .mainsFailTimerExpiry s fun t =>
          t.meas = { s.meas with mainsQualified := false, mainsTimer := none } ∧ t.sup.mode = deriveMode t ∧
          t.sup.ac = t.online ∧ t.sup.hold = s.sup.hold ∧ (t.record 0).cond = true ∧ t.gen.mainsFailTimer = some 0 ∧
          t.gen.spent = s.gen.spent ∧
          (∀ r, s.gen.run = some r → carries → r.basis = .manual → r.load = false → t.gen.machine = .online) ∧
          (∀ r, s.gen.run = some r → r.basis = .exercise → starting ∨ s.gen.machine = .offload →
            t.gen.machine = (if s.gen.machine = .offload then .online else s.gen.machine) ∧
              t.gen.run.map (fun x => { x with reachedOnline := r.reachedOnline }) = some
                { r with basis := .mainsFail, opening := some .exercise, duration := none, durCount := none } ∧
              t.gen.log.map basisOf = (s.gen.log.map basisOf).modifyHead fun _ => (.mainsFail, some .exercise)) ∧
          (∀ r, s.gen.run = some r → r.basis ≠ .exercise →
            t.gen.run.map (fun x => { x with reachedOnline := r.reachedOnline }) = some r ∧
              t.gen.log.map basisOf = s.gen.log.map basisOf) ∧
          (¬ carries → t.gen.machine = s.gen.machine) ∧
          t = { s with
            meas := t.meas, sup := t.sup, acct := t.acct, charge := t.charge, rect := t.rect, prot := t.prot
            gen := t.gen, alarm := t.alarm }) ∧
      (s.meas.mainsQualified = true → s.meas.mainsTimer.isSome = true → s.ModeDerived → s.RosterPlaced →
        s.gen.machine ≠ .online → Leads .mainsFailTimerExpiry s fun t => t.rect.running = []) ∧
      (s.meas.mainsQualified = true ∨ s.meas.mainsTimer = none → exec .mainsReturnTimerExpiry s = .next s) ∧
      (s.meas.mainsQualified = false ∨ s.meas.mainsTimer = none → exec .mainsFailTimerExpiry s = .next s)

/-- With the supply present and the second of the generator sense running, GEN_AC_QUALIFIED answers a next state
whose generator AC is the sense. Sense present: CRANKING and CRANK_REST go to WARMUP, any other state stays.
Sense absent: WARMUP goes to CRANK_REST while attempts remain and else to FAILED with START_FAIL; ONLINE and
OFFLOAD go to FAILED with ENGINE_LOST; COOLDOWN and STOPPING, with a minimum rest above 0, go to FAILED after an
engine fault or loss and else to IDLE; IDLE, PRIMING, CRANKING, CRANK_REST and FAILED stay. Settings, module bus
and link are unchanged; with no second running the state is unchanged. Rules: R10, R132, R133, R134, R140, R141,
R144. -/
def Obligations.GeneratorAcQualifies : Prop :=
  ∀ (s : State), s.powered = true →
    (s.meas.genTimer = none → exec .genAcQualified s = .next s) ∧
      (s.meas.genTimer.isSome = true → Leads .genAcQualified s fun t =>
        t.meas = { s.meas with genPresent := s.meas.genSense, genTimer := none } ∧
        t = { s with
          meas := t.meas, sup := t.sup, acct := t.acct, charge := t.charge, rect := t.rect, prot := t.prot
          gen := t.gen, cal := t.cal, alarm := t.alarm } ∧
        (s.meas.genSense = true → (s.gen.machine = .cranking ∨ s.gen.machine = .crankRest) →
          t.gen.machine = .warmup ∧ t.gen.stateCount = 0 ∧ t.gen.run = s.gen.run) ∧
        (s.meas.genSense = true → s.gen.machine ≠ .cranking → s.gen.machine ≠ .crankRest → t.gen = s.gen) ∧
        (s.meas.genSense = false → s.gen.machine = .warmup →
          (s.gen.run.map Run.attempts).getD 0 < s.inForce 3 14 → t.gen.machine = .crankRest) ∧
        (s.meas.genSense = false → s.gen.machine = .warmup →
          s.inForce 3 14 ≤ (s.gen.run.map Run.attempts).getD 0 →
            t.gen.machine = .failed ∧ t.gen.failReason = some .startFail) ∧
        (s.meas.genSense = false → (s.gen.machine = .online ∨ s.gen.machine = .offload) →
          t.gen.machine = .failed ∧ t.gen.failReason = some .engineLost) ∧
        (s.meas.genSense = false → (s.gen.machine = .cooldown ∨ s.gen.machine = .stopping) → 0 < s.minRest →
          t.gen.machine =
            if s.gen.failReason = some .engineFault ∨ s.gen.failReason = some .engineLost then .failed else .idle) ∧
        (s.meas.genSense = false →
          (s.gen.machine = .idle ∨ s.gen.machine = .priming ∨ s.gen.machine = .cranking ∨
            s.gen.machine = .crankRest ∨ s.gen.machine = .failed) → t.gen = s.gen))

/-- With the supply present and a complete alarm table, PERSISTENCE_EXPIRY of an input whose timer runs answers
a next state in which that input's qualified state is its sense with no timer and every other measurement is
unchanged; SITE_INPUT of it is true exactly for function ALARM and ACTIVE; with its edge enabled and room for
one notice the INPUT_EDGE notice is in the queue (that it takes the last place, before SITE_INPUT's
ALARM_CHANGE, is the model's choice, log 6). A key that thereby becomes active with no hold starts a KEY hold at
the hold limit; one that becomes inactive ends a KEY hold and relocks an unlocked KEYED group, no other group
and at no other time. GEN_INHIBIT becoming active ends a run with INHIBIT, through STOPPING before ONLINE and
OFFLOAD, else through COOLDOWN; becoming inactive it has the causes evaluated. OIL_PRESSURE or ENGINE_TEMP
becoming active in ONLINE, OFFLOAD, COOLDOWN or WARMUP past ten events is ENGINE_FAULT. A change of FUEL_FLOAT
reports FUEL_LOW. The module bus, the link, the settings' values and any write in flight are unchanged. With no
timer running the state is unchanged. Rules: R11, R12, R13, R19, R21, R129, R140, R141, R142, R143, R189. -/
def Obligations.SiteInputEdges : Prop :=
  ∀ (n : Fin 8) (s : State), s.powered = true → s.alarm.records.length = 40 →
    ((s.input n).timer = none → exec (.persistenceExpiry n) s = .next s) ∧
      ((s.input n).timer.isSome = true → Leads (.persistenceExpiry n) s fun t =>
        let v : State := { s with meas := t.meas }
        let turnsOn := fun f : Nat => s.functionActive f = false ∧ v.functionActive f = true
        let turnsOff := fun f : Nat => s.functionActive f = true ∧ v.functionActive f = false
        let early := s.gen.machine = .priming ∨ s.gen.machine = .cranking ∨ s.gen.machine = .crankRest ∨
          s.gen.machine = .warmup
        let carries := s.gen.machine = .online ∨ s.gen.machine = .offload
        let armed := carries ∨ s.gen.machine = .cooldown ∨ s.gen.machine = .warmup ∧ 10 ≤ s.gen.stateCount
        t.meas = { s.meas with
          inputs := s.meas.inputs.modify n fun x => { x with active := s.sense n, timer := none } } ∧
        (t.record (32 + n)).cond = (s.now 7 n == 1 && s.sense n) ∧
        (edgeEnabled s n (s.sense n) = true → s.alarm.notices.length < 32 →
          ({ kind := .inputEdge, subject := n + 1, value := if s.sense n then 1 else 0, time := s.stamp } : Notice) ∈
            t.alarm.notices) ∧
        (s.now 7 n = 2 → s.key = false → s.sense n = true → s.sup.hold = none →
          t.sup.hold = some { cause := .key, left := s.now 5 161 * 60 }) ∧
        (turnsOff 2 → t.sup.hold = s.sup.hold.filter fun h => h.cause != .key) ∧
        t.store.unlocked =
          (if turnsOff 2 then s.store.unlocked.filter fun g => s.store.modes.getD g .keyed != .keyed
          else s.store.unlocked) ∧
        (turnsOn 3 → early → s.meas.genPresent = true →
          t.gen.machine = .stopping ∧ t.gen.run = s.gen.run.map fun r => { r with stopReason := some .inhibit }) ∧
        (turnsOn 3 → early → s.meas.genPresent = false → t.gen.machine = .failed ∨ t.gen.machine = .idle) ∧
        (turnsOn 3 → carries → 0 < s.inForce 3 18 →
          t.gen.machine = .cooldown ∧ t.gen.run = s.gen.run.map fun r => { r with stopReason := some .inhibit }) ∧
        (turnsOn 3 → ¬ early → ¬ carries → t.gen = s.gen) ∧
        (turnsOff 3 → gatesOpen v = false ∨ firstCause v = none → t.gen = s.gen) ∧
        (turnsOff 3 → gatesOpen v = true → ∀ b, firstCause v = some b → b ≠ .exercise →
          t.gen.run.map Run.basis = some b) ∧
        (turnsOn 5 ∨ turnsOn 6 → armed →
          t.gen.machine = (if s.meas.genPresent = true then .stopping else .failed) ∧
            t.gen.failReason = some .engineFault) ∧
        (turnsOn 5 ∨ turnsOn 6 → ¬ armed → t.gen = s.gen) ∧
        (turnsOn 7 ∨ turnsOff 7 → (t.record 25).cond = (s.gen.fuelLow || v.functionActive 7)) ∧
        t = { s with
          meas := t.meas, sup := t.sup, acct := t.acct, charge := t.charge, rect := t.rect, prot := t.prot
          gen := t.gen, cal := t.cal, alarm := t.alarm, store := { s.store with unlocked := t.store.unlocked } })

/-- With the supply present and forty alarm records, and for the two requests the receiver LISTENING or
COLLECTING: HOLD answers a next state whose hold has cause REQUEST and the minutes asked, the hold limit in
place of 0, and no more than the limit (then CLAMPED), with HOLD_ACTIVE true. HOLD_EXPIRY and RELEASE with a
hold active answer the evaluation of the start causes and gates on the state with no hold, HOLD_ACTIVE false and
a rotation request held under it marked for the next measurement event (log 34), a run's GEN_RUN_START behind
HOLD_ACTIVE's notice and ahead of GEN_RUNNING's (the model's choice, log 6); with none active HOLD_EXPIRY leaves
the state unchanged and RELEASE only answers OK. Everything else stands. Rules: R18, R20, R21, R110, R129, R165.
-/
def Obligations.HoldsBeginAndEnd : Prop :=
  ∀ (minutes : Half) (s : State), s.powered = true → s.alarm.records.length = 40 →
    (s.hears = true → Leads (.hold minutes) s fun t =>
      let granted := if minutes.toNat = 0 then s.now 5 161 else min minutes.toNat (s.now 5 161)
      t.sup = { s.sup with hold := some { cause := .request, left := 60 * granted } } ∧
        Reported 31 true s t ∧
        t = { s with
          sup := t.sup, alarm := t.alarm
          link := (holdAnswer 0x24#8
            { result := if s.now 5 161 < minutes.toNat then .clamped else .ok, data := [] } s).link }) ∧
      (s.sup.hold.isSome = true →
        let u := clearHold s
        u.sup = { s.sup with hold := none } ∧ Reported 31 false s u ∧
          u = { s with
            sup := u.sup, alarm := u.alarm
            rect := { s.rect with requestFreed := s.rect.requestFreed || s.rect.rotationRequest } } ∧
          Leads .holdExpiry s (Evaluated u) ∧
          (s.hears = true → Leads .release s fun t =>
            Evaluated u { t with link := s.link } ∧ t.link = (holdAnswer 0x25#8 Answer.ok s).link)) ∧
      (s.sup.hold = none →
        exec .holdExpiry s = .next s ∧ (s.hears = true → exec .release s = .next (holdAnswer 0x25#8 Answer.ok s)))

/-- With the supply present: MAINS_FAIL_START_DELAY with the mains-fail timer at its delay, BUS_START_QUALIFIED
with its count due, REST_COUNT_COMPLETE with its count due and MANUAL_STOP_HOLD_EXPIRY with the hold run out
each answer the evaluation on the state with that timer, count or hold brought there (a run posting
GEN_RUN_START before GEN_RUNNING is reported: the model's choice, log 6); with no timer or no hold running the
state is unchanged. The gates are open exactly under the seven conditions of R129, and the first true cause is
taken in the order MAINS_FAIL, ACCOUNT_LOW, BUS_LOW, REMOTE, EXERCISE. Rules: R129, R130, R131, R146, R147. -/
def Obligations.OpenedGatesAndCausesAreEvaluated : Prop :=
  ∀ (s : State), s.powered = true →
    (∀ n, s.gen.mainsFailTimer = some n → s.inForce 3 2 * 60 ≤ n + 1 →
      Leads .mainsFailStartDelay s (Evaluated
        { s with gen := { s.gen with mainsFailTimer := some (max (s.inForce 3 2 * 60) n) } })) ∧
      (s.gen.mainsFailTimer = none → exec .mainsFailStartDelay s = .next s) ∧
      (s.inForce 3 8 ≤ s.gen.busCount + 1 →
        Leads .busStartQualified s (Evaluated { s with gen := { s.gen with busCount := s.inForce 3 8 } })) ∧
      (s.inForce 3 20 * 60 ≤ s.gen.restCount + 1 →
        Leads .restCountComplete s (Evaluated { s with gen := { s.gen with restCount := s.inForce 3 20 * 60 } })) ∧
      (∀ n, s.gen.stopHold = some n → n ≤ 1 →
        Leads .manualStopHoldExpiry s (Evaluated { s with gen := { s.gen with stopHold := none } })) ∧
      (s.gen.stopHold = none → exec .manualStopHoldExpiry s = .next s) ∧
      (gatesOpen s = true ↔
        s.inForce 3 0 = 1 ∧ s.gen.machine = .idle ∧ s.inForce 3 20 * 60 ≤ s.gen.restCount ∧ s.gen.stopHold = none ∧
          s.sup.hold = none ∧ s.functionActive 3 = false ∧ s.gen.fuelEmpty = false) ∧
      firstCause s =
        if s.inForce 3 1 = 1 ∧ (s.gen.mainsFailTimer.any fun n => decide (s.inForce 3 2 * 60 ≤ n)) = true ∧
            s.gen.spent = false then some .mainsFail
        else if s.inForce 3 3 = 1 ∧ (s.sup.mode = .battery ∨ s.sup.mode = .protect) ∧
            (s.fittedStrings.any fun r => r.sync == .sync && decide (r.account * 100 / (100 * r.capacity) ≤ s.inForce 3 4)) =
              true then some .accountLow
        else if s.inForce 3 6 = 1 ∧ s.inForce 3 8 ≤ s.gen.busCount then some .busLow
        else if s.inForce 3 9 = 1 ∧ s.functionActive 4 = true then some .remote
        else if s.gen.exercise.isSome = true then some .exercise
        else none

/-- With the supply present: ABSORB_ENTRY with its count due in BULK enters ABSORB; ABSORB_TIMER_EXPIRY with the
timer due in ABSORB enters FLOAT and touches no account; TAIL_EXIT with the tail count due in ABSORB enters
FLOAT, sets every string with a VALID channel to Amax, residue 0, SYNC, and sets the tail mark of a run in
progress. A stage entered posts STAGE_CHANGE, clears the stage counts and forms setpoint, Ibl and Im again. In
any other stage the command leaves the state unchanged. Everything else stands. A measurement event at the
charge controller forms Tb, Tc and BATT_TEMP_HIGH, sets the latch at the stop temperature and clears it 5
degrees below, and forms setpoint and Ibl again. With no test in flight it counts in BULK the events at the
absorb level, 60 entering ABSORB, and in ABSORB the tail and the timer; a latch newly set takes either to FLOAT.
In FLOAT a latch just cleared with the return test true, or an armed rebulk test true with the latch clear,
enters BULK, also where an equalize could begin at the event (the model's choice, log 16); else the stage is
FLOAT or EQUALIZE and a rebulk test false arms it. In every state Ibl as it is formed is the sum, over the
fitted strings (those whose record the account unit holds, log 21) with a channel not UNUSABLE, of recorded
capacity times charge rate / 10, each term truncated; with Tb at or above the derate temperature half of it,
truncated; and in ONLINE no more than the budget less the load, or than 0. Rules: R34, R46, R47, R51, R52, R53,
R54, R55, R58, R59, R95, R138. -/
def Obligations.StageCountsMoveTheStage : Prop :=
  ∀ (s : State), s.powered = true →
    (s.charge.stage = .bulk → 60 ≤ s.charge.absorbCount + 1 → Leads .absorbEntry s fun t =>
      StageEntered .absorb s t ∧ t.charge.eq = s.charge.eq ∧ t.charge.test = s.charge.test ∧
        t = { s with
          charge := t.charge, rect := t.rect
          alarm := (post .stageChange Stage.absorb.code Stage.bulk.code s).alarm }) ∧
      (s.charge.stage ≠ .bulk → exec .absorbEntry s = .next s) ∧
      (let share := fun i : Nat =>
          match s.stringRec i with
          | some r => if (s.stringChannel i).validity = .unusable then 0 else r.capacity * s.inForce 1 11 / 10
          | none => 0
        let whole := share 0 + share 1 + share 2 + share 3
        let cooled := if (s.inForce 1 8 : Int) ≤ s.charge.tb then whole / 2 else whole
        let spare : Int := (s.inForce 3 25 : Int) - s.meas.load
        batteryLimit s = if s.gen.machine = .online then min cooled (max 0 spare).toNat else cooled) ∧
      (s.charge.stage = .absorb → s.inForce 1 14 * 3600 ≤ s.charge.absorbTimer + 1 →
        Leads .absorbTimerExpiry s fun t =>
          StageEntered .float s t ∧ t.charge.eq = s.charge.eq ∧ t.charge.test = s.charge.test ∧
            t = { s with
              charge := t.charge, rect := t.rect
              alarm := (post .stageChange Stage.float.code Stage.absorb.code s).alarm }) ∧
      (s.charge.stage = .absorb → 600 ≤ s.charge.tailCount + 1 → Leads .tailExit s fun t =>
        StageEntered .float s t ∧ t.charge.eq = s.charge.eq ∧ t.charge.test = s.charge.test ∧
          (∀ i, i < 4 → (s.stringChannel i).validity = .valid →
            (t.stringRec i).map (fun r => (r.account, r.residue, r.sync)) =
              (t.stringRec i).map fun r => (100 * r.capacity, 0, Sync.sync)) ∧
          (s.acct.taken = true → ∀ i, i < 4 → t.stringRec i = (s.stringRec i).map fun r =>
            if (s.stringChannel i).validity = .valid then
              { r with account := 100 * r.capacity, residue := 0, sync := .sync }
            else r) ∧
          t.gen = (if s.gen.machine = .idle ∨ s.gen.machine = .failed then s.gen
            else { s.gen with run := s.gen.run.map fun r => { r with tailMark := true } }) ∧
          t = { s with
            acct := t.acct, charge := t.charge, rect := t.rect, gen := t.gen
            alarm := (post .stageChange Stage.float.code Stage.absorb.code s).alarm }) ∧
      (s.charge.stage ≠ .absorb → exec .absorbTimerExpiry s = .next s ∧ exec .tailExit s = .next s) ∧
      (s.alarm.records.length = 40 →
        let w := chargeEvent s
        let v : State := { s with charge := { s.charge with tc := w.charge.tc } }
        let serves := fun i : Nat => thermistorAssigned s i = true ∧
          ((s.therm i).validity = .valid ∨ (s.therm i).validity = .held)
        let hot := (s.inForce 1 7 : Int) ≤ w.charge.tb
        let cool := w.charge.tb ≤ (s.inForce 1 7 : Int) - 50
        let newlyHot := hot ∧ s.charge.latch = false
        let cooled := cool ∧ s.charge.latch = true
        let counts := fun (absorb tail timer : Nat) =>
          (w.charge.absorbCount, w.charge.tailCount, w.charge.absorbTimer) = (absorb, tail, timer)
        (∀ i, i < 4 → serves i → (s.therm i).reading ≤ w.charge.tb) ∧
          ((∃ i, i < 4 ∧ serves i) → ∃ i, i < 4 ∧ serves i ∧ w.charge.tb = (s.therm i).reading) ∧
          ((∀ i, i < 4 → ¬ serves i) → w.charge.tb = (s.inForce 1 6 : Int)) ∧
          w.charge.tc = max 0 (min 450 w.charge.tb) ∧
          ((w.record 12).cond = true ↔ hot ∧ ∃ i, i < 4 ∧ serves i) ∧
          (w.charge.latch = true ↔ hot ∨ s.charge.latch = true ∧ ¬ cool) ∧
          w.charge.setpoint = stageSetpoint w w.charge.stage ∧ w.charge.ibl = batteryLimit w ∧
          (s.charge.test = none → s.charge.stage = .bulk →
            let n := if absorbLevel v ≤ s.meas.bus then s.charge.absorbCount + 1 else 0
            (newlyHot → w.charge.stage = .float) ∧ (¬ newlyHot → 60 ≤ n → w.charge.stage = .absorb) ∧
              (¬ newlyHot → n < 60 → w.charge.stage = .bulk ∧ counts n s.charge.tailCount s.charge.absorbTimer)) ∧
          (s.charge.test = none → s.charge.stage = .absorb →
            let n := if tailTest v = true then s.charge.tailCount + 1 else 0
            let m := s.charge.absorbTimer + 1
            (newlyHot ∨ 600 ≤ n ∨ s.inForce 1 14 * 3600 ≤ m → w.charge.stage = .float) ∧
              (600 ≤ n → s.acct.taken = true → ∀ i, i < 4 → w.stringRec i = (s.stringRec i).map fun r =>
                if (s.stringChannel i).validity = .valid then
                  { r with account := 100 * r.capacity, residue := 0, sync := .sync }
                else r) ∧
              (n < 600 → w.acct = s.acct) ∧
              (¬ newlyHot → n < 600 → m < s.inForce 1 14 * 3600 →
                w.charge.stage = .absorb ∧ counts s.charge.absorbCount n m)) ∧
          (s.charge.test = none → s.charge.stage = .float →
            let rises := cooled ∧ returnTest s = true ∨
              w.charge.latch = false ∧ s.charge.armed = true ∧ rebulkTest s = true
            (rises → w.charge.stage = .bulk) ∧
              (¬ rises → w.charge.stage = .float ∨ w.charge.stage = .equalize) ∧
              (w.charge.stage = .float → (w.charge.armed = true ↔
                s.charge.armed = true ∧ ¬ newlyHot ∨ w.charge.latch = false ∧ rebulkTest s = false))))

/-- For every state and every stage but TEST there are a compensation c and a plant voltage p with: c the
nearest whole number to N x k x (Tc - 250) / 100, halves away from zero; p the nearest number of 10 mV units to
N x V - c, a remainder of 5 mV rounded up; and the setpoint p clamped to the window from the bus-low plant
voltage + 10 to the bus-high plant voltage - 10, or the lower end if the ends cross. In TEST it is the test-hold
plant voltage. Rules: R56, R57. -/
def Obligations.SetpointFollowsItsSteps : Prop :=
  ∀ (s : State) (stage : Stage),
    (stage ≠ .test → ∃ c p : Int,
      let x := (s.cells : Int) * s.inForce 1 5 * (s.charge.tc - 250)
      let m := (s.cells : Int) * cellValue s stage - c
      let low := ((s.cells * s.inForce 2 9 / 10 : Nat) : Int) + 10
      let high := ((s.cells * s.inForce 2 10 / 10 : Nat) : Int) - 10
      (2 * |100 * c - x| < 100 ∨ 2 * |100 * c - x| = 100 ∧ |x| < |100 * c|) ∧
        10 * p - 5 ≤ m ∧ m < 10 * p + 5 ∧
        (stageSetpoint s stage : Int) = if high < low then low else if high < p then high else if p < low then low else p) ∧
      stageSetpoint s .test = s.cells * s.inForce 1 3 / 10

/-- With the supply present, and for the two requests the receiver LISTENING or COLLECTING: EQUALIZE_START makes
NONE PENDING with 0 days waiting and changes no other equalize state; EQUALIZE_STOP sets the day count to 0, in
PENDING and SUSPENDED clears the record and posts EQUALIZE_END STOPPED with the minutes remaining, and in
RUNNING also moves the stage to FLOAT; EQUALIZE_COMPLETE with at most one second remaining in EQUALIZE enters
FLOAT, clears the record and posts EQUALIZE_END COMPLETED with the duration; in another stage it leaves the
state unchanged. Both requests answer OK. STAGE_CHANGE comes before EQUALIZE_END (the model's choice, log 6).
Everything else stands. A measurement event at the charge controller, with no test in flight: one that takes a
completed write of group 1, whether or not it changed the interval (the model's choice: DEDUCED, log 32), makes
a NONE with its interval reached PENDING (seen in BULK); in FLOAT that does not rise to BULK, in MAINS with no
hold and Tb below the limit, PENDING begins with its whole duration and SUSPENDED with its remainder, and else
the record stands; in EQUALIZE a second is taken from the remainder, the last completing it as above, also with
Tb at the limit (completion before suspension is the model's choice, log 16), and else Tb at the limit suspends
it and enters FLOAT. Rules: R60, R61, R62, R63, R64. -/
def Obligations.EqualizeIsAskedStoppedAndCompleted : Prop :=
  ∀ (s : State), s.powered = true →
    let cleared : EqRec := { state := .none, remaining := 0, duration := 0, dayCount := 0, daysWaiting := 0 }
    (s.hears = true → exec .equalizeStart s = .next (holdAnswer 0x28#8 Answer.ok
        (if s.charge.eq.state = .none then
          { s with charge := { s.charge with eq := { s.charge.eq with state := .pending, daysWaiting := 0 } } }
        else s))) ∧
      (s.hears = true → s.charge.eq.state = .none → exec .equalizeStop s = .next (holdAnswer 0x29#8 Answer.ok
        { s with charge := { s.charge with eq := { s.charge.eq with dayCount := 0 } } })) ∧
      (s.hears = true → s.charge.eq.state = .pending → exec .equalizeStop s = .next (holdAnswer 0x29#8 Answer.ok
        (post .equalizeEnd 1 0 { s with charge := { s.charge with eq := cleared } }))) ∧
      (s.hears = true → s.charge.eq.state = .suspended → exec .equalizeStop s = .next (holdAnswer 0x29#8 Answer.ok
        (post .equalizeEnd 1 (s.charge.eq.remaining / 60) { s with charge := { s.charge with eq := cleared } }))) ∧
      (s.hears = true → s.charge.eq.state = .running → s.charge.stage = .equalize → Leads .equalizeStop s fun t =>
        StageEntered .float s t ∧ t.charge.eq = cleared ∧ t.charge.test = s.charge.test ∧
          t = { s with
            charge := t.charge, rect := t.rect
            alarm := (post .equalizeEnd 1 (s.charge.eq.remaining / 60)
              (post .stageChange Stage.float.code Stage.equalize.code s)).alarm
            link := (holdAnswer 0x29#8 Answer.ok s).link }) ∧
      (s.charge.stage = .equalize → s.charge.eq.remaining ≤ 1 → Leads .equalizeComplete s fun t =>
        StageEntered .float s t ∧ t.charge.eq = cleared ∧ t.charge.test = s.charge.test ∧
          t = { s with
            charge := t.charge, rect := t.rect
            alarm := (post .equalizeEnd 0 s.charge.eq.duration
              (post .stageChange Stage.float.code Stage.equalize.code s)).alarm }) ∧
      (s.charge.stage ≠ .equalize → exec .equalizeComplete s = .next s) ∧
      (s.charge.test = none →
        let w := chargeEvent s
        let cooled := w.charge.tb ≤ (s.inForce 1 7 : Int) - 50 ∧ s.charge.latch = true
        let rises := cooled ∧ returnTest s = true ∨
          w.charge.latch = false ∧ s.charge.armed = true ∧ rebulkTest s = true
        let allowed := s.sup.mode = .mains ∧ s.sup.hold = none ∧ w.charge.tb < (s.inForce 1 9 : Int)
        (s.charge.stage = .bulk → s.charge.eq.state = .none → w.charge.eq =
          if 1 ∈ s.store.fresh ∧ s.inForce 1 15 ≠ 0 ∧ s.inForce 1 15 ≤ s.charge.eq.dayCount then
            { s.charge.eq with state := .pending, daysWaiting := 0 }
          else s.charge.eq) ∧
          (s.charge.stage = .float → 1 ∉ s.store.fresh → ¬ rises →
            (allowed → s.charge.eq.state = .pending → w.charge.stage = .equalize ∧ w.charge.eq =
              { s.charge.eq with
                state := .running, duration := s.inForce 1 16, remaining := 60 * s.inForce 1 16 }) ∧
              (allowed → s.charge.eq.state = .suspended →
                w.charge.stage = .equalize ∧ w.charge.eq = { s.charge.eq with state := .running }) ∧
              (¬ allowed ∨ s.charge.eq.state = .none ∨ s.charge.eq.state = .running →
                w.charge.stage = .float ∧ w.charge.eq = s.charge.eq)) ∧
          (s.charge.stage = .equalize → s.charge.eq.state = .running →
            (s.charge.eq.remaining ≤ 1 → w.charge.stage = .float ∧ w.charge.eq = cleared) ∧
              (1 < s.charge.eq.remaining → (s.inForce 1 9 : Int) ≤ w.charge.tb →
                w.charge.stage = .float ∧
                  w.charge.eq = { s.charge.eq with state := .suspended, remaining := s.charge.eq.remaining - 1 }) ∧
              (1 < s.charge.eq.remaining → w.charge.tb < (s.inForce 1 9 : Int) →
                w.charge.stage = .equalize ∧
                  w.charge.eq = { s.charge.eq with remaining := s.charge.eq.remaining - 1 })))

/-- With the supply present, forty alarm records and, for the requests, the receiver LISTENING or COLLECTING:
CAPACITY_TEST_START with a target of 0 (for 40) or 10 to 80, in FLOAT and MAINS with every fitted string SYNC
and no equalize RUNNING or SUSPENDED, enters TEST, writes the test record, gives every string its baseline and
delivered 0, and drops the discharge count with BATTERY_DISCHARGE reported false (DEDUCED, log 33); another
target is BAD_FIELD, a failing condition REFUSED_STATE. CAPACITY_TEST_ABORT of a test in TEST writes ABORTED
results, posts TEST_END and enters BULK, or FLOAT with the latch set; with no test it is REFUSED_STATE.
Everything else stands. At a measurement event each string's delivered count becomes the decrease of its account
below its baseline, else 0 (so for a string newly fitted in the test, DEDUCED, log 42), one with an UNUSABLE
channel keeping its count. Then the account unit's turn, whether the event's integration is still to be done in
it or is done already, adds one to the elapsed count; with every fitted string's delivered count, as so formed,
at its target the test ends PASS, else with the bus at or below the test-end voltage END_VOLTAGE, whatever the
sync flags, each with the health of every string and the stage as after an abort, and else goes on. At the
charge controller's turn, and not before, a fitted UNSYNC string ends it ABORTED (that these are two turns is
the model's choice, log 28), the stage following the latch as this event leaves it (log 16). The minutes are the
elapsed count's (log 43); TEST_END comes before STAGE_CHANGE, and STAGE_CHANGE before BATTERY_DISCHARGE (log 6).
Rules: R38, R39, R40, R47, R66, R67, R68, R69, R83. -/
def Obligations.CapacityTestBeginsAndAborts : Prop :=
  ∀ (target : Byte) (s : State), s.powered = true → s.alarm.records.length = 40 →
    let n := target.toNat
    let wanted := n = 0 ∨ 10 ≤ n ∧ n ≤ 80
    let allowed := s.charge.stage = .float ∧ s.sup.mode = .mains ∧
      (s.fittedStrings.all fun r => r.sync == .sync) = true ∧ s.charge.eq.state ≠ .running ∧
      s.charge.eq.state ≠ .suspended
    let after := fun latch : Bool => if latch = true then Stage.float else Stage.bulk
    let counted := accountIntegrate s
    let ended := fun (v : State) (outcome : TestOutcome) (x : TestRec) (minutes : Nat) (u : State) =>
      ∀ i, i < 4 → u.stringRec i = (v.stringRec i).map fun r =>
        let d := r.delivered.getD 0
        let health := if outcome = .aborted then none else some (min 100 (d * 100 / (r.capacity * x.target)))
        { r with
          lastTest := some
            { outcome := outcome, endTime := s.stamp, delivered := d, minutes := minutes, health := health }
          lastHealth := (health.map fun h => { health := h, endTime := s.stamp : HealthResult }).or r.lastHealth
          baseline := none, delivered := none }
    (s.hears = true → ¬ wanted →
        exec (.capacityTestStart target) s = .next (holdAnswer 0x2A#8 (Answer.refuse .badField) s)) ∧
      (s.hears = true → wanted → ¬ allowed →
        exec (.capacityTestStart target) s = .next (holdAnswer 0x2A#8 (Answer.refuse .refusedState) s)) ∧
      (s.hears = true → wanted → allowed → Leads (.capacityTestStart target) s fun t =>
        StageEntered .test s t ∧ t.charge.eq = s.charge.eq ∧
          t.charge.test = some { target := if n = 0 then 40 else n, acceptedAt := s.stamp, elapsed := 0 } ∧
          (∀ i, i < 4 → t.stringRec i =
            (s.stringRec i).map fun r => { r with baseline := some r.account, delivered := some 0 }) ∧
          Reported 5 false (post .stageChange Stage.test.code Stage.float.code s) t ∧
          t = { s with
            acct := t.acct, charge := t.charge, rect := t.rect, prot := { s.prot with dischargeCount := 0 }
            alarm := t.alarm, link := (holdAnswer 0x2A#8 Answer.ok s).link }) ∧
      (∀ x, s.charge.test = some x → s.hears = true → s.charge.stage = .test → Leads .capacityTestAbort s fun t =>
        let next := after s.charge.latch
        StageEntered next s t ∧ t.charge.eq = s.charge.eq ∧ t.charge.test = none ∧ ended s .aborted x (x.elapsed / 60) t ∧
          t = { s with
            acct := t.acct, charge := t.charge, rect := t.rect
            alarm := (post .stageChange next.code Stage.test.code (post .testEnd 2 (x.elapsed / 60) s)).alarm
            link := (holdAnswer 0x2B#8 Answer.ok s).link }) ∧
      (s.hears = true → s.charge.test = none →
        exec .capacityTestAbort s = .next (holdAnswer 0x2B#8 (Answer.refuse .refusedState) s)) ∧
      (∀ x, s.charge.test = some x → s.charge.stage = .test →
        let minutes := (x.elapsed + 1) / 60
        let reached := (counted.fittedStrings.all fun r => r.delivered.any fun d => decide (r.capacity * x.target ≤ d)) = true
        let low := s.meas.bus ≤ s.cells * s.inForce 1 4 / 10
        let u := accountEvent s
        let w := chargeEvent s
        (s.acct.taken = true → counted = s) ∧
          (s.acct.taken = false → ∀ i, i < 4 → ∀ y, counted.stringRec i = some y → y.delivered =
            if (s.stringChannel i).validity = .unusable then (s.stringRec i).bind StringRec.delivered
            else some (if y.account < y.baseline.getD 0 then y.baseline.getD 0 - y.account else 0)) ∧
          (reached ∨ low → u.charge.test = none ∧ u.charge.stage = after s.charge.latch ∧
            ended counted (if reached then .pass else .endVoltage) x minutes u) ∧
          (¬ reached → ¬ low →
            u.charge = { s.charge with test := some { x with elapsed := x.elapsed + 1 } } ∧ u.acct = counted.acct) ∧
          ((s.fittedStrings.any fun r => r.sync == .unsync) = true →
            w.charge.test = none ∧ w.charge.stage = after w.charge.latch ∧ ended s .aborted x (x.elapsed / 60) w) ∧
          ((s.fittedStrings.all fun r => r.sync == .sync) = true →
            w.charge.test = some x ∧ w.charge.stage = .test ∧ w.acct = s.acct))

/-- With the supply present and forty alarm records: SHED_DELAY_EXPIRY in BATTERY with the NEL CLOSED and its
count due opens the NEL with cause BOTH if some fitted SYNC string is at or below a shed SOC that is on, else
VOLTAGE, and LOAD_SHED is true; NEL_RECONNECT with the NEL OPEN, AC available and its count due closes it,
clears the cause and LOAD_SHED; DISCHARGE_COUNT_EXPIRY with AC available, the stage not TEST and its count due
makes BATTERY_DISCHARGE true at a count of 60. With the contactor in the other position, or AC not available,
the state is unchanged. All else stands. A measurement event at the protection unit counts in BATTERY with the
NEL CLOSED the events at or below the shed voltage, opening it at the delay or at once on SOC with the cause
that holds, also at an event at which the BPD opens (the NEL first is the model's choice, log 17); with it OPEN
and AC available the events at or above the reconnect voltage, closing it at the delay; a count whose event
fails is 0. It reports BUS_HIGH and BUS_LOW by their voltages and, the BPD not moving, counts the discharge
events to 60 and reports BATTERY_DISCHARGE exactly at 60. Rules: R72, R73, R74, R75, R76, R77, R82, R83. -/
def Obligations.NelOpensAndClosesOnItsCounts : Prop :=
  ∀ (s : State), s.powered = true → s.alarm.records.length = 40 →
    (s.sup.mode = .battery → s.prot.nel = .closed → s.inForce 2 5 ≤ s.prot.shedCount + 1 →
      Leads .shedDelayExpiry s fun t =>
        t.prot = { s.prot with
          nel := .opened, shedCount := 0, nelCount := 0
          shedCause := some (if s.inForce 2 6 ≠ 0 ∧
              (s.fittedStrings.any fun r =>
                r.sync == .sync && decide (r.account * 100 / (100 * r.capacity) ≤ s.inForce 2 6)) = true
            then .both else .voltage) } ∧
        Reported 3 true s t ∧ t = { s with prot := t.prot, alarm := t.alarm }) ∧
      (s.sup.mode ≠ .battery ∨ s.prot.nel = .opened → exec .shedDelayExpiry s = .next s) ∧
      (s.prot.nel = .opened → s.sup.ac = true → s.inForce 2 8 ≤ s.prot.nelCount + 1 →
        Leads .nelReconnect s fun t =>
          t.prot = { s.prot with nel := .closed, shedCause := none, shedCount := 0, nelCount := 0 } ∧
            Reported 3 false s t ∧ t = { s with prot := t.prot, alarm := t.alarm }) ∧
      (s.prot.nel = .closed ∨ s.sup.ac = false → exec .nelReconnect s = .next s) ∧
      (s.sup.ac = true → s.charge.stage ≠ .test → 60 ≤ s.prot.dischargeCount + 1 →
        Leads .dischargeCountExpiry s fun t =>
          t.prot = { s.prot with dischargeCount := 60 } ∧ Reported 5 true s t ∧
            t = { s with prot := t.prot, alarm := t.alarm }) ∧
      (s.sup.ac = false ∨ s.charge.stage = .test → exec .dischargeCountExpiry s = .next s) ∧
      (let w := protectionEvent s
        let volts := fun i : Nat => s.cells * s.inForce 2 i / 10
        let shed := if s.meas.bus ≤ volts 4 then s.prot.shedCount + 1 else 0
        let slow := s.inForce 2 5 ≤ shed
        let empty := s.inForce 2 6 ≠ 0 ∧ (s.fittedStrings.any fun r =>
          r.sync == .sync && decide (r.account * 100 / (100 * r.capacity) ≤ s.inForce 2 6)) = true
        let back := if volts 7 ≤ s.meas.bus then s.prot.nelCount + 1 else 0
        let drain := if s.sup.ac = true ∧ s.charge.stage ≠ .test ∧ s.batteryCurrent ≤ -(s.inForce 2 11 : Int) then
          min 60 (s.prot.dischargeCount + 1) else 0
        let still := w.prot.bpd = s.prot.bpd
        (s.prot.nel = .closed → s.sup.mode = .battery → slow ∨ empty →
          w.prot.nel = .opened ∧ (w.record 3).cond = true ∧ w.prot.shedCount = 0 ∧
            w.prot.shedCause = some (if slow ∧ empty then .both else if slow then .voltage else .soc)) ∧
          (s.prot.nel = .closed → s.sup.mode = .battery → ¬ (slow ∨ empty) →
            w.prot.nel = .closed ∧ w.prot.shedCause = s.prot.shedCause ∧ (still → w.prot.shedCount = shed)) ∧
          (s.prot.nel = .closed → s.sup.mode ≠ .battery →
            w.prot.nel = .closed ∧ w.prot.shedCause = s.prot.shedCause ∧ w.prot.shedCount = 0) ∧
          (s.prot.nel = .opened → s.sup.ac = true → s.inForce 2 8 ≤ back →
            w.prot.nel = .closed ∧ w.prot.shedCause = none ∧ (w.record 3).cond = false ∧ w.prot.nelCount = 0) ∧
          (s.prot.nel = .opened → s.sup.ac = true → back < s.inForce 2 8 →
            w.prot.nel = .opened ∧ w.prot.shedCause = s.prot.shedCause ∧ (still → w.prot.nelCount = back)) ∧
          (s.prot.nel = .opened → s.sup.ac = false →
            w.prot.nel = .opened ∧ w.prot.shedCause = s.prot.shedCause ∧ w.prot.nelCount = 0) ∧
          ((w.record 1).cond = true ↔ volts 10 ≤ s.meas.bus) ∧ ((w.record 2).cond = true ↔ s.meas.bus ≤ volts 9) ∧
          (still → w.prot.dischargeCount = drain ∧ ((w.record 5).cond = true ↔ drain = 60)))

/-- With the supply present and forty alarm records: BATTERY_DISCONNECT in BATTERY with the BPD CLOSED and its
count due opens it; the mode becomes PROTECT, the stage DISCHARGE, no test is in flight, BATTERY_DISCONNECTED is
true and the accounts stand. BPD_RECONNECT from a derived mode with the BPD OPEN, AC available and its count due
closes it; the mode becomes GENERATOR if the machine is ONLINE and else MAINS, the stage BULK, or FLOAT with the
latch set, and BATTERY_DISCONNECTED is false. Measurements, generator, calendar, settings, module bus, link and
hold stand. With the BPD already so, the state is unchanged. The command of a count one short does not test the
bus and the n_min slots again (DESIGN CHOICE, log 3). A measurement event at the protection unit, from a derived
mode, counts in BATTERY with the BPD CLOSED the events at or below the disconnect voltage, opening it as above
at the delay; with it OPEN the events with AC available, n_min slots (or all fitted) RUNNING and the bus at or
above the reconnect voltage, closing it as above at the delay; a count whose event fails is 0. Rules: R15, R48,
R49, R73, R78, R79, R80, R81. -/
def Obligations.BpdMakesAndEndsProtect : Prop :=
  ∀ (s : State), s.powered = true → s.alarm.records.length = 40 →
    (s.sup.mode = .battery → s.prot.bpd = .closed → s.inForce 2 1 ≤ s.prot.disconnectCount + 1 →
      Leads .batteryDisconnect s fun t =>
        t.prot.bpd = .opened ∧ t.prot.nel = s.prot.nel ∧ t.prot.shedCause = s.prot.shedCause ∧
          t.prot.disconnectCount = 0 ∧ t.prot.bpdCount = 0 ∧ t.sup.mode = .protect ∧ t.sup.hold = s.sup.hold ∧
          t.charge.stage = .discharge ∧ t.charge.test = none ∧ (t.record 4).cond = true ∧
          (∀ i, i < 4 → (t.stringRec i).map (fun r => (r.capacity, r.account, r.residue, r.sync)) =
            (s.stringRec i).map fun r => (r.capacity, r.account, r.residue, r.sync)) ∧
          t = { s with
            sup := t.sup, acct := t.acct, charge := t.charge, prot := t.prot, rect := t.rect, alarm := t.alarm }) ∧
      (s.sup.mode ≠ .battery ∨ s.prot.bpd = .opened → exec .batteryDisconnect s = .next s) ∧
      (s.prot.bpd = .opened → s.sup.ac = true → s.ModeDerived → s.inForce 2 3 ≤ s.prot.bpdCount + 1 →
        Leads .bpdReconnect s fun t =>
          t.prot = { s.prot with
            bpd := .closed, disconnectCount := 0, bpdCount := 0, shedCount := 0 } ∧
            t.sup = { s.sup with mode := if s.gen.machine = .online then .generator else .mains } ∧
            t.charge.stage = (if s.charge.latch = true then .float else .bulk) ∧ (t.record 4).cond = false ∧
            t = { s with
              sup := t.sup, charge := t.charge, prot := t.prot, rect := t.rect, alarm := t.alarm }) ∧
      (s.prot.bpd = .closed ∨ s.sup.ac = false → exec .bpdReconnect s = .next s) ∧
      (s.ModeDerived →
        let w := protectionEvent s
        let volts := fun i : Nat => s.cells * s.inForce 2 i / 10
        let off := if s.meas.bus ≤ volts 0 then s.prot.disconnectCount + 1 else 0
        let enough := min (s.inForce 4 3) (s.inForce 0 15) ≤
          (s.rect.running.filter fun i => (s.slot i).state == .running).length
        let on := if s.sup.ac = true ∧ enough ∧ volts 2 ≤ s.meas.bus then s.prot.bpdCount + 1 else 0
        (s.prot.bpd = .closed → s.sup.mode = .battery → s.inForce 2 1 ≤ off →
          w.prot.bpd = .opened ∧ w.prot.disconnectCount = 0 ∧ w.sup.mode = .protect ∧ w.charge.stage = .discharge ∧
            w.charge.test = none ∧ (w.record 4).cond = true) ∧
          (s.prot.bpd = .closed → s.sup.mode = .battery → off < s.inForce 2 1 →
            w.prot.bpd = .closed ∧ w.prot.disconnectCount = off ∧ w.sup = s.sup ∧ w.charge = s.charge) ∧
          (s.prot.bpd = .closed → s.sup.mode ≠ .battery →
            w.prot.bpd = .closed ∧ w.prot.disconnectCount = 0 ∧ w.sup = s.sup ∧ w.charge = s.charge) ∧
          (s.prot.bpd = .opened → 0 < s.inForce 2 3 → s.inForce 2 3 ≤ on →
            w.prot.bpd = .closed ∧ w.prot.bpdCount = 0 ∧ (w.record 4).cond = false ∧
              w.sup.mode = (if s.gen.machine = .online then .generator else .mains) ∧
              w.charge.stage = (if s.charge.latch = true then .float else .bulk)) ∧
          (s.prot.bpd = .opened → on < s.inForce 2 3 →
            w.prot.bpd = .opened ∧ w.prot.bpdCount = on ∧ w.sup = s.sup ∧ w.charge = s.charge))

/-- With the supply present, forty alarm records, a placed roster and, for the requests, the receiver LISTENING
or COLLECTING: START_TIMEOUT of a STARTING slot with its count due puts it in FAULT with its fault count raised
by one up to 255; RECTIFIER_LOCKOUT of a fitted slot puts it in LOCKOUT; either leaves its lists and ends a swap
it is in. FAULT_RECOVERY of a FAULT slot whose status shows no counting fault, its count due, and
RECTIFIER_RESTORE of a LOCKOUT slot that answers give STANDBY at its place in the queue; a restored slot that
does not answer is ABSENT and holds no status any more (DEDUCED, log 13); both leave the swap, the last swap,
the rotation counter and the request. Im follows a changed n_run, RECT_FAIL and RECT_MULTI_FAIL the number of
slots in FAULT. Other states leave all unchanged, unfitted slots are BAD_FIELD. Nothing outside the scheduler,
the alarm unit and the answer changes. Rules: R87, R88, R98, R99, R100, R102, R103, R104, R109. -/
def Obligations.SlotsLeaveAndReturn : Prop :=
  ∀ (i : Fin 12) (b : Byte) (s : State), s.powered = true → s.alarm.records.length = 40 → s.RosterPlaced →
    let kept := fun t : State =>
      (t.rect.swap, t.rect.lastSwap, t.rect.rotation, t.rect.rotationRequest, t.rect.requestFreed) =
        (s.rect.swap, s.rect.lastSwap, s.rect.rotation, s.rect.rotationRequest, s.rect.requestFreed)
    ((s.slot i).state = .starting → s.inForce 4 9 ≤ (s.slot i).startCount + 1 → Leads (.startTimeout i) s fun t =>
      SlotTook i .fault s t ∧ SwapLeft i s t ∧ (t.slot i).faults = min 255 ((s.slot i).faults + 1) ∧
        t = { s with rect := t.rect, alarm := t.alarm }) ∧
      ((s.slot i).state ≠ .starting → exec (.startTimeout i) s = .next s) ∧
      (∀ d, (s.slot i).data = some d → (s.slot i).state = .fault → countingFault s d = false →
        s.inForce 4 10 ≤ (s.slot i).recovery + 1 → Leads (.faultRecovery i) s fun t =>
          SlotTook i .standby s t ∧ (t.slot i).faults = (s.slot i).faults ∧ kept t ∧
            t = { s with rect := t.rect, alarm := t.alarm }) ∧
      ((s.slot i).state ≠ .fault ∨ (s.slot i).data = none → exec (.faultRecovery i) s = .next s) ∧
      (s.hears = true → s.rect.fitted ≤ b.toNat ∨ 11 < b.toNat →
        exec (.rectifierLockout b) s = .next (holdAnswer 0x2C#8 (Answer.refuse .badField) s) ∧
          exec (.rectifierRestore b) s = .next (holdAnswer 0x2D#8 (Answer.refuse .badField) s)) ∧
      (s.hears = true → b.toNat < s.rect.fitted → b.toNat ≤ 11 →
        ((s.slot b.toNat).state = .lockout →
          exec (.rectifierLockout b) s = .next (holdAnswer 0x2C#8 Answer.ok s) ∧
            Leads (.rectifierRestore b) s fun t =>
              SlotTook b.toNat (if (s.slot b.toNat).answering = .yes then .standby else .absent) s t ∧
                (t.slot b.toNat).faults = (s.slot b.toNat).faults ∧ kept t ∧
                t = { s with
                  rect := t.rect, alarm := t.alarm, link := (holdAnswer 0x2D#8 Answer.ok s).link }) ∧
          ((s.slot b.toNat).state ≠ .lockout →
            exec (.rectifierRestore b) s = .next (holdAnswer 0x2D#8 (Answer.refuse .refusedState) s) ∧
              Leads (.rectifierLockout b) s fun t =>
                SlotTook b.toNat .lockout s t ∧ SwapLeft b.toNat s t ∧
                  (t.slot b.toNat).faults = (s.slot b.toNat).faults ∧
                  t = { s with
                    rect := t.rect, alarm := t.alarm, link := (holdAnswer 0x2C#8 Answer.ok s).link }))

/-- With the supply present, forty alarm records, a placed roster and, for ROTATE_NOW, the receiver LISTENING or
COLLECTING: ROTATION_DUE with AC available and the counter due at an interval that is on leaves the counter at
or above the interval. ROTATE_NOW without AC or a swap pair is REFUSED_STATE (a second one while a request is
held too, though R110 has it accepted: that the refusals go first is the model's choice, log 56); with a pair it
holds the request under a hold and else starts the queue's head in a swap in phase STARTING and drops a request
still held (DEDUCED, log 34), Im formed again and spacing and dwell at 0. SWAP_OVERLAP_EXPIRY with the overlap
due ends the swap: with n_run above n_up the outgoing slot goes to STANDBY and the outcome is COMPLETED, else it
is ABSORBED; the last swap is written, the counter is 0, a held request is dropped, and ROTATION is posted if
there is room. The counts n_up, n_down and settle stand in both, and in the second spacing too. Nothing outside
the scheduler, the alarm unit and the answer changes. Rules: R93, R106, R107, R108, R110. -/
def Obligations.RotationsBeginAndEnd : Prop :=
  ∀ (s : State), s.powered = true → s.alarm.records.length = 40 → s.RosterPlaced →
    let stand := fun t : State =>
      (t.nUp, t.nDown, t.rect.settle, t.rect.fitted) = (s.nUp, s.nDown, s.rect.settle, s.rect.fitted)
    (s.sup.ac = true → s.inForce 4 6 ≠ 0 → s.inForce 4 6 * 3600 ≤ s.rect.rotation + 1 →
      exec .rotationDue s = .next
        { s with rect := { s.rect with rotation := max s.rect.rotation (s.inForce 4 6 * 3600) } }) ∧
      (s.sup.ac = false ∨ s.inForce 4 6 = 0 → exec .rotationDue s = .next s) ∧
      (s.hears = true → s.sup.ac = false ∨ swapPair s = none →
        exec .rotateNow s = .next (holdAnswer 0x2E#8 (Answer.refuse .refusedState) s)) ∧
      (∀ p, swapPair s = some p → s.sup.ac = true →
        s.rect.swap = none ∧ s.rect.queue.head? = some p.1 ∧ (s.slot p.2).state = .running ∧
          (s.slot p.1).hours + s.inForce 4 7 < (s.slot p.2).hours ∧
          (s.hears = true → s.sup.hold ≠ none → exec .rotateNow s = .next (holdAnswer 0x2E#8 Answer.ok
            { s with rect := { s.rect with rotationRequest := true } })) ∧
          (s.hears = true → s.sup.hold = none → Leads .rotateNow s fun t =>
            t.rect.swap = some { incoming := p.1, outgoing := p.2, phase := .starting, overlap := 0 } ∧
              t.slot p.1 = { s.slot p.1 with
                state := .starting, lastChange := s.stamp, startCount := 0, recovery := 0 } ∧
              (∀ j, j < 12 → j ≠ p.1 → t.slot j = s.slot j) ∧ t.rect.running = s.rect.running ++ [p.1] ∧
              t.rect.queue = s.rect.queue.drop 1 ∧ t.rect.spacing = 0 ∧ t.rect.dwell = 0 ∧
              t.rect.rotationRequest = false ∧ t.rect.requestFreed = false ∧ t.rect.rotation = s.rect.rotation ∧
              t.rect.lastSwap = s.rect.lastSwap ∧ t.rect.im = t.moduleLimit ∧ stand t ∧
              t = { s with
                rect := t.rect, alarm := t.alarm, link := (holdAnswer 0x2E#8 Answer.ok s).link })) ∧
      (∀ w, s.rect.swap = some w → w.phase = .overlap → s.inForce 4 8 ≤ w.overlap + 1 →
        Leads .swapOverlapExpiry s fun t =>
          t.rect.swap = none ∧ t.rect.rotation = 0 ∧ t.rect.rotationRequest = false ∧ t.rect.requestFreed = false ∧
            stand t ∧ t.rect.spacing = s.rect.spacing ∧
            (s.alarm.notices.length < 30 →
              ({ kind := .rotation, subject := w.incoming
                 value := if s.nUp < s.rect.running.length then 0 else 1, time := s.stamp } : Notice) ∈
                t.alarm.notices) ∧
            (∀ j, j < 12 → j ≠ w.outgoing → t.slot j = s.slot j) ∧
            (s.nUp < s.rect.running.length →
              (t.slot w.outgoing).state = .standby ∧ t.rect.running = s.rect.running.erase w.outgoing ∧
                t.rect.dwell = 0 ∧
                (w.outgoing ∈ s.rect.running → t.rect.im = t.moduleLimit ∧ t.rect.queue =
                  (s.rect.queue.takeWhile fun j => !queueBefore s w.outgoing j) ++
                    w.outgoing :: s.rect.queue.dropWhile fun j => !queueBefore s w.outgoing j) ∧
                t.rect.lastSwap = some
                  { incoming := w.incoming, outgoing := w.outgoing, outcome := .completed, endTime := s.stamp }) ∧
            (s.rect.running.length ≤ s.nUp →
              t.slot w.outgoing = s.slot w.outgoing ∧ t.rect.running = s.rect.running ∧ t.rect.dwell = s.rect.dwell ∧
                t.rect.queue = s.rect.queue ∧ t.rect.im = s.rect.im ∧
                t.rect.lastSwap = some
                  { incoming := w.incoming, outgoing := w.outgoing, outcome := .absorbed, endTime := s.stamp }) ∧
            t = { s with rect := t.rect, alarm := t.alarm }) ∧
      (s.rect.swap = none → exec .swapOverlapExpiry s = .next s)

/-- With the supply present: COMMAND_SENT takes SENDING to WINDOW; REPLY_WINDOW_EXPIRY takes WINDOW to
TURNAROUND; REPLY_GAP_TIMEOUT takes RECEIVING to TURNAROUND, cut short; TRAILING_BYTES marks TURNAROUND; in any
other phase each leaves the state unchanged. MODULE_REPLY_BYTE is the first byte held in WINDOW, joins those
held in RECEIVING, the twelfth ending reception, marks trailing bytes in TURNAROUND, and is nothing in SENDING.
STATUS_FRAME is its bytes one after another, so twelve in WINDOW are held and end in TURNAROUND. All else
stands. Rules: R116, R117. -/
def Obligations.BusPhasesFollowTheBytes : Prop :=
  ∀ (b : LineByte) (bytes : List LineByte) (s : State), s.powered = true →
    let e := s.bus.exchange
    let put := fun x : Exchange => ({ s with bus := { s.bus with exchange := x } } : State)
    exec .commandSent s = .next (if e.phase = .sending then put { e with phase := .window } else s) ∧
      exec .replyWindowExpiry s = .next (if e.phase = .window then put { e with phase := .turnaround } else s) ∧
      exec .replyGapTimeout s =
        .next (if e.phase = .receiving then put { e with phase := .turnaround, cut := true } else s) ∧
      exec .trailingBytes s = .next (if e.phase = .turnaround then put { e with trailing := true } else s) ∧
      (e.phase = .sending → exec (.moduleReplyByte b) s = .next s) ∧
      (e.phase = .window → exec (.moduleReplyByte b) s = .next (put { e with phase := .receiving, bytes := [b] })) ∧
      (e.phase = .receiving → exec (.moduleReplyByte b) s = .next (put { e with
        bytes := e.bytes ++ [b], phase := if 12 ≤ e.bytes.length + 1 then .turnaround else .receiving })) ∧
      (e.phase = .turnaround → exec (.moduleReplyByte b) s = .next (put { e with trailing := true })) ∧
      exec (.statusFrame []) s = .next s ∧
      (∀ t, exec (.moduleReplyByte b) s = .next t → exec (.statusFrame (b :: bytes)) s = exec (.statusFrame bytes) t) ∧
      (e.phase = .window → bytes.length = 12 →
        exec (.statusFrame bytes) s = .next (put { e with bytes := bytes, phase := .turnaround }))

/-- With the supply present and the exchange in TURNAROUND, TURNAROUND_END answers a next state in which: the
link record of the exchange's slot, unless the exchange is an orphan, has counted a good reply (misses 0; HEARD
at the second in a row) or a miss (LOST at the third; in LOST the count rises again from what a good reply left,
the model's choice, log 46); the next exchange has the next tag, addresses the same slot if the reply is to be
repeated and else the next fitted slot, carries commanded run, setpoint and Im as they now stand, and is
SENDING; repeat marks are clear but a repeated slot's. Only rectifiers and alarms change beside. In another
phase the state is unchanged. A measurement event at the module bus takes the slots-fitted count in force at it
(a change undone since the last event is none: the model's choice, log 48): a slot it fits keeps its link
record, or begins UNHEARD with its counts at 0 if it was not fitted, one it does not fit has none, and an
exchange with such a slot becomes an orphan and goes on. MODULE_BUS_FAIL is then true exactly when every slot of
that count is ABSENT (the count this unit has applied: the model's choice, log 37). Nothing else changes. Rules:
R115, R116, R118, R120, R122, R123, R124, R125. -/
def Obligations.TurnaroundCountsTheReply : Prop :=
  ∀ (s : State), s.powered = true →
    let e := s.bus.exchange
    (e.phase ≠ .turnaround → exec .turnaroundEnd s = .next s) ∧
      (e.phase = .turnaround → Leads .turnaroundEnd s fun t =>
        let again := repeats e (s.linkRec e.slot)
        let x := t.bus.exchange
        x = { slot := if again = true then e.slot else if e.slot + 1 < s.bus.fitted then e.slot + 1 else 0
              tag := s.bus.tag + 1, run := (t.slot x.slot).state.commanded, setpoint := s.charge.setpoint
              limit := t.rect.im, phase := .sending, bytes := [], cut := false, trailing := false, orphan := false } ∧
          t.bus.tag = s.bus.tag + 1 ∧ t.bus.fitted = s.bus.fitted ∧ t.bus.links.length = s.bus.links.length ∧
          (∀ i, i < 12 → i ≠ e.slot ∨ e.orphan = true →
            t.linkRec i = (s.linkRec i).map fun l => { l with repeated := again && i == e.slot }) ∧
          (e.orphan = false → e.good = true → t.linkRec e.slot = (s.linkRec e.slot).map fun l =>
            if l.state = .heard then { l with misses := 0, repeated := again }
            else if 1 ≤ l.goods then { state := .heard, misses := 0, goods := 0, repeated := again }
            else { l with misses := 0, goods := l.goods + 1, repeated := again }) ∧
          (e.orphan = false → e.good = false → t.linkRec e.slot = (s.linkRec e.slot).map fun l =>
            { state := if 2 ≤ l.misses then .lost else l.state, misses := min 3 (l.misses + 1), goods := 0
              repeated := again }) ∧
          t = { s with bus := t.bus, rect := t.rect, alarm := t.alarm }) ∧
      (s.alarm.records.length = 40 →
        let w := busEvent s
        let fitted := s.inForce 0 15
        w.bus = { s.bus with
          fitted := fitted, links := w.bus.links
          exchange := { e with orphan := e.orphan || decide (fitted ≤ e.slot) } } ∧
          (∀ i, i < 12 → w.linkRec i =
            if fitted ≤ i then none
            else if i < s.bus.fitted then s.linkRec i
            else some { state := .unheard, misses := 0, goods := 0, repeated := false }) ∧
          Reported 20 (decide (∀ i, i < fitted → (s.slot i).state = .absent)) s w ∧
          w = { s with bus := w.bus, alarm := w.alarm })

/-- With the supply present, the exchange in TURNAROUND, no orphan and a placed roster: a good reply with data
from a HEARD slot that is fitted and not ABSENT stores the status and, with a counting fault, puts STANDBY,
STARTING and RUNNING in FAULT, else makes STARTING RUNNING or RUNNING STARTING as the RUNNING flag says; the
second good reply in a row of a link not HEARD makes answering YES and ABSENT STANDBY, the data as they were (of
a slot in LOCKOUT the model's choice, log 58); the third miss of a link not LOST makes answering NO and every
state but LOCKOUT ABSENT. Any other reply leaves the slot's state and data. No other slot's record changes.
Rules: R97, R98, R101, R121, R122, R123, R124. -/
def Obligations.RepliesMoveTheirSlot : Prop :=
  ∀ (l : LinkRec) (s : State), s.powered = true → s.RosterPlaced →
    let e := s.bus.exchange
    let x := s.slot e.slot
    e.phase = .turnaround → e.orphan = false → s.linkRec e.slot = some l →
      Leads .turnaroundEnd s fun t =>
        let y := t.slot e.slot
        (∀ j, j < 12 → j ≠ e.slot → t.slot j = s.slot j) ∧
          (e.good = true → l.state = .heard → e.notReady = false → e.slot < s.rect.fitted → x.state ≠ .absent →
            y.data = some e.status ∧ y.answering = x.answering ∧
              y.state =
                if countingFault s e.status = true then
                  (if x.state = .lockout then .lockout else .fault)
                else if x.state = .starting ∧ e.status.running = true then .running
                else if x.state = .running ∧ e.status.running = false then .starting
                else x.state) ∧
          (e.good = true → l.state = .heard →
            e.notReady = true ∨ s.rect.fitted ≤ e.slot ∨ x.state = .absent → y = x) ∧
          (e.good = true → l.state ≠ .heard → 1 ≤ l.goods →
            y.answering = .yes ∧ y.data = x.data ∧
              y.state = if x.state = .absent then .standby else x.state) ∧
          (e.good = true → l.state ≠ .heard → l.goods = 0 → y = x) ∧
          (e.good = false → l.state ≠ .lost → 2 ≤ l.misses →
            y.answering = .no ∧ y.state = if x.state = .lockout then .lockout else .absent) ∧
          (e.good = false → l.state = .lost ∨ l.misses < 2 → y = x)

/-- With the supply present, forty alarm records and a run in flight: PRIME_TIME_EXPIRY in PRIMING and
CRANK_REST_EXPIRY in CRANK_REST, their count due, enter CRANKING with one attempt more in run and record, or
WARMUP with none more if generator AC is PRESENT. CRANK_MAXIMUM_EXPIRY in CRANKING, its count due, changes
nothing with generator AC PRESENT; with it ABSENT it enters CRANK_REST while attempts remain and else FAILED
with START_FAIL, the record closed. In another state each leaves the state unchanged. Only the generator, its
alarms and an exercise returned to the calendar change: FAILED before WARMUP end clears the run mark of a run
with the exercise mark, and an exercise WAITING with its window closed is then missed with the date of its due
moment. Rules: R132, R133, R144, R148, R147, R160, R161. -/
def Obligations.CrankSequence : Prop :=
  ∀ (r : Run) (s : State), s.powered = true → s.alarm.records.length = 40 → s.gen.run = some r →
    let cranked := fun t : State =>
      (if s.meas.genPresent = true then t.gen = { s.gen with machine := .warmup, stateCount := 0 }
        else t.gen = { s.gen with
          machine := .cranking, stateCount := 0, run := some { r with attempts := r.attempts + 1 }
          log := s.gen.log.modifyHead fun x => { x with attempts := r.attempts + 1 } }) ∧
        t = { s with gen := t.gen, alarm := t.alarm }
    (s.gen.machine = .priming → s.inForce 3 11 ≤ s.gen.stateCount + 1 → Leads .primeTimeExpiry s cranked) ∧
      (s.gen.machine ≠ .priming → exec .primeTimeExpiry s = .next s) ∧
      (s.gen.machine = .crankRest → s.inForce 3 13 ≤ s.gen.stateCount + 1 → Leads .crankRestExpiry s cranked) ∧
      (s.gen.machine ≠ .crankRest → exec .crankRestExpiry s = .next s) ∧
      (s.gen.machine = .cranking → s.inForce 3 12 ≤ s.gen.stateCount + 1 → s.meas.genPresent = false →
        Leads .crankMaximumExpiry s fun t =>
          (if r.attempts < s.inForce 3 14 then t.gen = { s.gen with machine := .crankRest, stateCount := 0 }
            else t.gen.machine = .failed ∧ t.gen.failReason = some .startFail ∧ t.gen.run = none ∧
              t.gen.restCount = 0 ∧ (t.record 21).cond = true ∧ (t.record 27).cond = true ∧
              t.gen.log = s.gen.log.modifyHead (fun x =>
                { x with stopTime := some s.stamp, stopReason := some .startFail, fuelStop := some s.meas.fuel }) ∧
              (r.warmupEnd = none → r.exMark = true →
                if s.cal.exState = .waiting ∧ s.cal.exWindow = 0 then
                  t.cal = { s.cal with
                    exState := .none, exDuration := 0, runMark := false, missed := true
                    last := some { date := s.cal.exDue, outcome := .missed } } ∧
                    t.gen.exercise = none ∧ (t.record 28).cond = true
                else t.cal = { s.cal with runMark := false } ∧ t.gen.exercise = s.gen.exercise) ∧
              (r.warmupEnd ≠ none ∨ r.exMark = false → t.cal = s.cal ∧ t.gen.exercise = s.gen.exercise)) ∧
            t = { s with gen := t.gen, cal := t.cal, alarm := t.alarm }) ∧
      (s.gen.machine ≠ .cranking ∨ s.meas.genPresent = true → exec .crankMaximumExpiry s = .next s)

/-- With the supply present, WARMUP and a run in flight: WARMUP_FAULT_ARM at the tenth event, and WARMUP_END at
the warmup time with the tenth event passed, take an active engine-fault input: stop and failure reason
ENGINE_FAULT and STOPPING. With none active the former stands at the tenth event and the latter writes the
WARMUP-end time in run and record and enters ONLINE for MAINS_FAIL, ACCOUNT_LOW, BUS_LOW and REMOTE, OFFLOAD for
EXERCISE, and for MANUAL by its load flag and mains; on ONLINE AC is available, the mode is derived, n_run of a
placed roster is at most n_gen, and n_up and n_down are at once the counts last formed capped at n_gen (also
where AC was not available before: the model's choice, log 45). At WARMUP end a run with the exercise mark
clears the run mark and serves an exercise owed: none is owed any more, the missed flag and EXERCISE_MISSED are
clear, the EXERCISE cause is false, the last exercise SERVED with the date of the moment (DEDUCED, log 14); a
run without it leaves the calendar and the cause. In other states both leave all unchanged. Rules: R94, R128,
R134, R135, R141, R148, R158, R160. -/
def Obligations.WarmupEndsByTheBasis : Prop :=
  ∀ (r : Run) (s : State), s.powered = true → s.gen.run = some r →
    (s.gen.machine = .warmup → 10 ≤ s.gen.stateCount + 1 →
      (s.engineFaultInput = true →
        Leads .warmupFaultArm s (StoppingEntered (some .engineFault) (some .engineFault) s)) ∧
        (s.engineFaultInput = false → exec .warmupFaultArm s =
          .next { s with gen := { s.gen with stateCount := max 10 s.gen.stateCount } })) ∧
      (s.gen.machine ≠ .warmup → exec .warmupFaultArm s = .next s ∧ exec .warmupEnd s = .next s) ∧
      (s.gen.machine = .warmup → s.inForce 3 15 ≤ s.gen.stateCount + 1 →
        (s.engineFaultInput = true → 10 ≤ max (s.inForce 3 15) s.gen.stateCount →
          Leads .warmupEnd s (StoppingEntered (some .engineFault) (some .engineFault) s)) ∧
          (s.engineFaultInput = false ∨ max (s.inForce 3 15) s.gen.stateCount < 10 → Leads .warmupEnd s fun t =>
            t.gen.machine =
                (match r.basis with
                | .exercise => .offload
                | .manual =>
                  if r.load = true then .online else if s.meas.mainsQualified = true then .offload else .online
                | .mainsFail => .online
                | .accountLow => .online
                | .busLow => .online
                | .remote => .online) ∧
              t.gen.stateCount = 0 ∧
              t.gen.run.map Run.warmupEnd = some (some s.stamp) ∧
              t.gen.log.map RunRec.warmupEnd =
                (s.gen.log.modifyHead fun x => { x with warmupEnd := some s.stamp }).map RunRec.warmupEnd ∧
              (t.gen.machine = .online → t.sup.mode = deriveMode t ∧ t.sup.ac = true) ∧
              (t.gen.machine = .online → s.RosterPlaced → t.nRun ≤ t.nGen) ∧
              (t.gen.machine = .online → t.nUp = min s.rect.upFormed (t.now 3 25 / t.now 0 14) ∧
                t.nDown = min s.rect.downFormed (t.now 3 25 / t.now 0 14)) ∧
              (let owed := r.exMark = true ∧ s.cal.exState ≠ ExState.none;
                t.cal =
                  (if owed then
                    { s.cal with
                      exState := .none, exDuration := 0, exWindow := 0, runMark := false, missed := false
                      last := some
                        { date := { year := s.cal.year, month := s.cal.month, day := s.cal.day }, outcome := .served } }
                  else if r.exMark = true then { s.cal with runMark := false }
                  else s.cal) ∧
                t.gen.exercise = (if owed then none else s.gen.exercise) ∧
                (s.alarm.records.length = 40 → (t.record 28).cond = if owed then false else (s.record 28).cond)) ∧
              t = { s with
                sup := t.sup, acct := t.acct, charge := t.charge, prot := t.prot, rect := t.rect, gen := t.gen
                cal := t.cal, alarm := t.alarm }))

/-- With the supply present: MAX_RUN with the run time due, and DURATION with an EXERCISE or MANUAL run's
minutes due (then MAX_RUN if the run time is due too), in ONLINE or OFFLOAD enter COOLDOWN with that stop
reason, or STOPPING with a cooldown time of 0; in another state, or with no run, they change nothing. GEN_STOP,
the receiver LISTENING or COLLECTING, of a generator not fitted is REFUSED_STATE, run or none; else it starts
the manual-stop hold, with a setting of 0 none and an evaluation of the start gates (DEDUCED, log 35), answers
OK, and ends a run before ONLINE through STOPPING and one in ONLINE or OFFLOAD as above with MANUAL_STOP; IDLE,
COOLDOWN, STOPPING and FAILED keep their state. On COOLDOWN n_up and n_down are the counts last formed (also
without AC: the model's choice, log 45). A measurement event at the generator first adds one to its counts (the
run time after WARMUP end only, the bus count 0 above the bus-start voltage, the re-arm count in FAILED only),
then sets the fuel flags at their levels, cleared 3 above, with FUEL_LOW also true by a float and FUEL_EMPTY.
Then a newly empty tank, or else the event that takes a write of group 3 after which the generator is not fitted
(log 32), ends a run with FUEL_EMPTY or NOT_FITTED as above, with no engine-fault input active in ONLINE and
OFFLOAD; the latter takes FAILED to IDLE. Else a count that is due does what its expiry command does, an engine
fault in ONLINE, OFFLOAD, COOLDOWN or WARMUP from its tenth event is ENGINE_FAULT, and a run in ONLINE or
OFFLOAD ends as above with the reason the table of R137 gives its basis, MAX_RUN first, CHARGED setting the
spent mark of MAINS_FAIL; with none of these the machine stands, and IDLE has the causes evaluated. This order
is the model's choice (log 18), so is FUEL_LOW before FUEL_EMPTY before the end of a run (log 6). Measurements,
settings and module bus stand. Rules: R130, R131, R134, R137, R138, R139, R140, R141, R142, R144, R146, R149. -/
def Obligations.RunsAreStopped : Prop :=
  ∀ (s : State), s.powered = true →
    let held : State :=
      { s with gen := { s.gen with stopHold := if s.inForce 3 21 = 0 then none else some (s.inForce 3 21 * 60) } }
    let carries := s.gen.machine = .online ∨ s.gen.machine = .offload
    let early := s.gen.machine = .priming ∨ s.gen.machine = .cranking ∨ s.gen.machine = .crankRest ∨
      s.gen.machine = .warmup
    let endsFrom := fun (v : State) (r : Run) (why : StopReason) (t : State) =>
      (0 < s.inForce 3 18 → t.gen.machine = .cooldown ∧ t.gen.stateCount = 0 ∧
          t.gen.run = some { r with stopReason := some why } ∧ t.gen.failReason = s.gen.failReason ∧
          t.nUp = s.rect.upFormed ∧ t.nDown = s.rect.downFormed ∧
          t = { v with
            sup := t.sup, acct := t.acct, charge := t.charge, prot := t.prot, rect := t.rect, gen := t.gen
            alarm := t.alarm, link := t.link }) ∧
        (s.inForce 3 18 = 0 → StoppingEntered (some why) s.gen.failReason v t)
    let ends := endsFrom s
    let maximum := s.inForce 3 17 * 3600
    let flag := fun (old : Bool) (i : Nat) =>
      if s.meas.fuel ≤ s.inForce 3 i then true else if s.inForce 3 i + 3 ≤ s.meas.fuel then false else old
    (∀ r, s.gen.run = some r → carries →
      let why : StopReason := if maximum ≤ r.runTime + 1 then .maxRun else .duration
      (maximum ≤ r.runTime + 1 → Leads .maxRun s (ends r .maxRun)) ∧
        (r.basis = .exercise → (r.duration.any fun d => decide (d * 60 ≤ r.runTime + 1)) = true →
          Leads .duration s (ends r why)) ∧
        (r.basis = .manual →
          (r.duration.any fun d => r.durCount.any fun n => decide (d * 60 ≤ n + 1)) = true →
            Leads .duration s (ends r why))) ∧
      (¬ carries ∨ s.gen.run = none → exec .maxRun s = .next s ∧ exec .duration s = .next s) ∧
      (s.hears = true → s.inForce 3 0 ≠ 1 →
        exec .genStop s = .next (holdAnswer 0x27#8 (Answer.refuse .refusedState) s)) ∧
      (∀ r, s.gen.run = some r → s.hears = true → s.inForce 3 0 = 1 →
        (carries → Leads .genStop s fun t =>
          ends r .manualStop { t with gen := { t.gen with stopHold := s.gen.stopHold } } ∧
            t.gen.stopHold = held.gen.stopHold ∧ t.link = (holdAnswer 0x27#8 Answer.ok s).link) ∧
          (early → Leads .genStop s fun t =>
            StoppingEntered (some .manualStop) s.gen.failReason held t ∧
              t.link = (holdAnswer 0x27#8 Answer.ok s).link)) ∧
      (s.hears = true → s.inForce 3 0 = 1 → ¬ carries → ¬ early →
        exec .genStop s = .next (holdAnswer 0x27#8 Answer.ok (if s.inForce 3 21 = 0 then evaluateStart held else held))) ∧
      (s.alarm.records.length = 40 →
        let w := genEvent s
        let low := flag s.gen.fuelLow 23
        let empty := flag s.gen.fuelEmpty 24
        let minute := s.gen.machine = .failed ∧ 59 ≤ s.gen.rearmSeconds
        let older := fun r : Run =>
          { r with
            runTime := if r.warmupEnd = none then r.runTime else r.runTime + 1
            durCount := r.durCount.map fun n => n + 1 }
        let v : State := report 26 empty (report 25 (low || s.functionActive 7) { s with gen := { s.gen with
          stateCount := s.gen.stateCount + 1, restCount := min (s.inForce 3 20 * 60) (s.gen.restCount + 1)
          stopHold := s.gen.stopHold.bind fun n => if n ≤ 1 then none else some (n - 1)
          mainsFailTimer := s.gen.mainsFailTimer.map fun n => n + 1
          busCount := if s.meas.bus ≤ s.cells * s.inForce 3 7 / 10 then min (s.inForce 3 8) (s.gen.busCount + 1) else 0
          rearmSeconds := if minute then 0 else if s.gen.machine = .failed then s.gen.rearmSeconds + 1
            else s.gen.rearmSeconds
          rearmMinutes := if minute then s.gen.rearmMinutes + 1 else s.gen.rearmMinutes
          fuelLow := low, fuelEmpty := empty, run := s.gen.run.map older } })
        let unfitted := 3 ∈ s.store.fresh ∧ s.inForce 3 0 = 0
        let cut : Option StopReason :=
          if ¬ carries ∧ ¬ early then none
          else if empty = true ∧ s.gen.fuelEmpty = false then some .fuelEmpty
          else if unfitted then some .notFitted
          else none
        let faulty := s.engineFaultInput = true ∧
          (carries ∨ s.gen.machine = .cooldown ∨ s.gen.machine = .warmup ∧ 10 ≤ s.gen.stateCount + 1)
        let expires := fun (m : GenState) (limit : Nat) (i : Instr) => s.gen.machine = m →
          if limit ≤ s.gen.stateCount + 1 then exec i v = .next w else w = v
        (w.record 25).cond = (low || s.functionActive 7) ∧ (w.record 26).cond = empty ∧
          (w.gen.fuelLow, w.gen.fuelEmpty, w.gen.mainsFailTimer, w.gen.busCount, w.gen.stopHold) =
            (low, empty, v.gen.mainsFailTimer, v.gen.busCount, v.gen.stopHold) ∧
          (∀ why, cut = some why →
            ∀ r, s.gen.run = some r → s.gen.failReason = none → 0 < s.inForce 3 19 →
              (carries → s.engineFaultInput = false → endsFrom v (older r) why w) ∧
                (early → StoppingEntered (some why) s.gen.failReason v w)) ∧
          (s.gen.machine = .failed → unfitted → w.gen.machine = .idle ∧ w.gen.failReason = none) ∧
          (s.gen.machine = .failed → ¬ unfitted →
            if s.inForce 3 22 ≠ 0 ∧ s.inForce 3 22 ≤ v.gen.rearmMinutes then exec .rearmExpiry v = .next w else w = v) ∧
          (s.gen.machine = .idle → Evaluated v w) ∧
          (cut = none → faulty → s.gen.run ≠ none → StoppingEntered (some .engineFault) (some .engineFault) v w) ∧
          (cut = none → ¬ faulty → s.gen.run ≠ none →
            expires .priming (s.inForce 3 11) .primeTimeExpiry ∧
              expires .cranking (s.inForce 3 12) .crankMaximumExpiry ∧
              expires .crankRest (s.inForce 3 13) .crankRestExpiry ∧ expires .warmup (s.inForce 3 15) .warmupEnd ∧
              expires .cooldown (s.inForce 3 18) .cooldownExpiry ∧
              expires .stopping (s.inForce 3 19) .stopConfirmExpiry) ∧
          (cut = none → ¬ faulty → carries → ∀ r, s.gen.run.map older = some r →
            let ripe := s.inForce 3 16 * 60 ≤ r.runTime
            let full := r.tailMark = true ∨ (s.fittedStrings.any fun x => x.sync == .sync) = true ∧
              (s.fittedStrings.all fun x =>
                x.sync == .unsync || decide (s.inForce 3 5 ≤ x.account * 100 / (100 * x.capacity))) = true
            let why : Option StopReason :=
              if maximum ≤ r.runTime then some .maxRun
              else match r.basis with
                | .mainsFail =>
                  if s.meas.mainsQualified = true ∧ ripe then some .mainsReturn
                  else if s.inForce 3 10 = 1 ∧ full ∧ ripe then some .charged else none
                | .accountLow => if full ∧ ripe then some .charged else none
                | .busLow => if full ∧ ripe then some .charged else none
                | .remote => if s.functionActive 4 = false ∧ ripe then some .remoteOff else none
                | .exercise =>
                  if (r.duration.any fun d => decide (d * 60 ≤ r.runTime)) = true then some .duration else none
                | .manual =>
                  if (r.duration.any fun d => r.durCount.any fun n => decide (d * 60 ≤ n)) = true then some .duration
                  else none
            (why = none → w = v) ∧
              (∀ x, why = some x → endsFrom v r x w ∧
                (0 < s.inForce 3 18 →
                  w.gen.spent = (s.gen.spent || decide (x = .charged ∧ r.basis = .mainsFail))))))

/-- With the supply present and forty alarm records: COOLDOWN_EXPIRY in COOLDOWN with a run in flight and its
count due enters STOPPING with stop and failure reason as they were. STOP_CONFIRM_EXPIRY in STOPPING with its
count due and generator AC PRESENT enters FAILED with both reasons STOP_FAIL and the record closed; with it
ABSENT it changes nothing. REARM_EXPIRY in FAILED with an interval that is on and its count due clears the
failure reason and GEN_LOCKOUT and leaves FAILED, for IDLE while the start gates are shut. In another state each
leaves the state unchanged. Measurements, settings, module bus and link stand. Rules: R139, R140, R144, R148. -/
def Obligations.CooldownStoppingAndFailedEnd : Prop :=
  ∀ (r : Run) (s : State), s.powered = true → s.alarm.records.length = 40 →
    (s.gen.machine = .cooldown → s.gen.run = some r → s.inForce 3 18 ≤ s.gen.stateCount + 1 →
      Leads .cooldownExpiry s fun t => StoppingEntered r.stopReason s.gen.failReason s t ∧ t.link = s.link) ∧
      (s.gen.machine ≠ .cooldown → exec .cooldownExpiry s = .next s) ∧
      (s.gen.machine = .stopping → s.gen.run = some r → s.inForce 3 19 ≤ s.gen.stateCount + 1 →
        s.meas.genPresent = true → Leads .stopConfirmExpiry s fun t =>
          t.gen.machine = .failed ∧ t.gen.failReason = some .stopFail ∧ t.gen.run = none ∧ t.gen.restCount = 0 ∧
            t.gen.log = (s.gen.log.modifyHead fun x =>
              { x with stopTime := some s.stamp, stopReason := some .stopFail, fuelStop := some s.meas.fuel }) ∧
            (t.record 22).cond = true ∧ (t.record 24).cond = false ∧ (t.record 27).cond = true ∧
            t = { s with gen := t.gen, cal := t.cal, alarm := t.alarm }) ∧
      (s.gen.machine ≠ .stopping ∨ s.meas.genPresent = false → exec .stopConfirmExpiry s = .next s) ∧
      (s.gen.machine = .failed → s.inForce 3 22 ≠ 0 →
        s.inForce 3 22 * 60 ≤ s.gen.rearmMinutes * 60 + s.gen.rearmSeconds + 1 → Leads .rearmExpiry s fun t =>
          t.gen.failReason = none ∧ t.gen.machine ≠ .failed ∧ (t.record 21).cond = false ∧
            (t.record 22).cond = false ∧ (t.record 23).cond = false ∧ (t.record 27).cond = false ∧
            (s.gen.restCount < s.inForce 3 20 * 60 ∨ s.gen.stopHold ≠ none ∨ s.sup.hold ≠ none →
              t.gen.machine = .idle ∧ t.gen.log = s.gen.log) ∧
            t = { s with gen := t.gen, cal := t.cal, alarm := t.alarm }) ∧
      (s.gen.machine ≠ .failed ∨ s.inForce 3 22 = 0 → exec .rearmExpiry s = .next s)

/-- With the supply present and the receiver LISTENING or COLLECTING: GEN_START with 0 minutes or a load flag
above 1 is BAD_FIELD; of a generator not fitted, inhibited, with its tank empty, in COOLDOWN or in STOPPING it
is REFUSED_STATE. Otherwise the manual-stop hold ends and the answer is OK, or CLAMPED above 600 minutes, which
are then 600. From IDLE or FAILED a MANUAL run begins, the failure reason clear, GEN_RUN_START ahead of the
moment's other notices (the model's choice, log 6); a run in flight is converted to MANUAL with its first basis
as the opening one, in run and record, with the load flag and duration given and the duration counted from now,
the state being taken again from the load flag in ONLINE and OFFLOAD; that this holds at once of a run already
MANUAL is DEDUCED (log 23). Rules: R145. -/
def Obligations.GenStartBeginsOrConverts : Prop :=
  ∀ (minutes : Half) (flag : Byte) (s : State), s.powered = true → s.hears = true →
    let m := minutes.toNat
    let load := flag.toNat == 1
    let a : Answer := { result := if 600 < m then .clamped else .ok, data := [] }
    let wrong := m = 0 ∨ 1 < flag.toNat
    let barred := s.inForce 3 0 ≠ 1 ∨ s.functionActive 3 = true ∨ s.gen.fuelEmpty = true ∨ s.gen.machine = .cooldown ∨
      s.gen.machine = .stopping
    (wrong → exec (.genStart minutes flag) s = .next (holdAnswer 0x26#8 (Answer.refuse .badField) s)) ∧
      (¬ wrong → barred → exec (.genStart minutes flag) s = .next (holdAnswer 0x26#8 (Answer.refuse .refusedState) s)) ∧
      (¬ wrong → ¬ barred → s.gen.machine = .idle → Leads (.genStart minutes flag) s fun t =>
        RunBegun .manual none load (some (min m 600)) { s with gen := { s.gen with stopHold := none } }
            { t with link := s.link } ∧
          t.link = (holdAnswer 0x26#8 a s).link) ∧
      (¬ wrong → ¬ barred → s.gen.machine = .failed → Leads (.genStart minutes flag) s fun t =>
        RunBegun .manual none load (some (min m 600))
            { s with gen := { s.gen with stopHold := none, failReason := none, rearmMinutes := 0, rearmSeconds := 0 } }
            { t with link := s.link } ∧
          t.link = (holdAnswer 0x26#8 a s).link) ∧
      (∀ r, s.gen.run = some r → ¬ wrong → ¬ barred → s.gen.machine ≠ .idle → s.gen.machine ≠ .failed →
        Leads (.genStart minutes flag) s fun t =>
          t.gen.run.map (fun x => { x with reachedOnline := r.reachedOnline }) = some
              { r with
                basis := .manual, load := load, duration := some (min m 600), durCount := some 0
                opening := if r.basis = .manual then r.opening else some (r.opening.getD r.basis) } ∧
            t.gen.log.map (fun x => (x.basis, x.opening)) =
              (s.gen.log.modifyHead fun x =>
                { x with
                  basis := .manual
                  opening := if x.basis = .manual then x.opening else some (x.opening.getD x.basis) }).map
                (fun x => (x.basis, x.opening)) ∧
            t.gen.machine =
              (if s.gen.machine = .online ∨ s.gen.machine = .offload then
                (if load = true ∨ s.meas.mainsQualified = false then .online else .offload)
              else s.gen.machine) ∧
            t.gen.stopHold = none ∧ t.link = (holdAnswer 0x26#8 a s).link ∧
            t = { s with
              sup := t.sup, acct := t.acct, charge := t.charge, prot := t.prot, rect := t.rect, gen := t.gen
              alarm := t.alarm, link := t.link })

/-- For every year from 2000 to 2099: February has 29 days if the year is divisible by 4 and 28 otherwise,
April, June, September and November have 30, and the other months 31. Rules: R152. -/
def Obligations.MonthsHaveTheirDays : Prop :=
  ∀ (year month : Nat), 2000 ≤ year → year ≤ 2099 → 1 ≤ month → month ≤ 12 →
    (month = 2 → 4 ∣ year → daysInMonth year month = 29) ∧ (month = 2 → ¬ 4 ∣ year → daysInMonth year month = 28) ∧
      (month ∈ [4, 6, 9, 11] → daysInMonth year month = 30) ∧
      (month ∈ [1, 3, 5, 7, 8, 10, 12] → daysInMonth year month = 31)

/-- From a legal calendar, powered or with the supply gone and the backup domain kept, CALENDAR_TICK answers a
next state whose time is one second later, with the same valid flag and the weekday moved on only at midnight;
out of the last second of 2099 it is 2000-01-01 00:00:00, SATURDAY, not valid. A window with more than a second
left loses one. At midnight a powered tick adds one to the equalize day count and, PENDING or SUSPENDED, to the
days waiting, up to 65535; an equalize NONE whose interval is on and reached becomes PENDING with 0 days
waiting; EQUALIZE_OVERDUE is true exactly for a PENDING or SUSPENDED one above 14 days; an unpowered tick does
none of this. With forty records, a powered tick that closes the window with no run of the mark makes the
exercise missed. At the due moment, the exercise enable on and the generator fitted (from the completion of the
write: log 54), the time valid and no exercise owed (one the same tick closes is not: log 15), the exercise is
handed with its duration and its window: in a run it is COUNTED, and else WAITING with the generator's EXERCISE
cause true and the causes evaluated (DEDUCED, log 35). At no other tick does the generator change but for a
cause withdrawn. An exercise owed across a start is handed in the same way at the calendar's first measurement
event, its window and duration kept; COUNTED has the date of the moment (DEDUCED, log 14). Only the calendar,
equalize record, generator and alarms of a powered part change, and the calendar alone of an unpowered one; with
a broken marker and no supply nothing does. Rules: R60, R65, R147, R152, R153, R154, R157, R158, R159, R160,
R161, R163. -/
def Obligations.TicksAdvanceTheTime : Prop :=
  ∀ (s : State), s.CalendarLegal →
    let last := s.cal.year = 2099 ∧ s.cal.month = 12 ∧ s.cal.day = 31 ∧ s.cal.hour = 23 ∧ s.cal.minute = 59 ∧
      s.cal.second = 59
    let midnight := s.cal.hour = 23 ∧ s.cal.minute = 59 ∧ s.cal.second = 59
    let advanced := fun t : State =>
      (¬ last → t.stamp = s.stamp + 1 ∧ t.cal.valid = s.cal.valid ∧
          t.cal.weekday = if midnight then (s.cal.weekday + 1) % 7 else s.cal.weekday) ∧
        (last → t.stamp = 0 ∧ t.cal.valid = false ∧ t.cal.weekday = 5) ∧
        (s.cal.exState ≠ .none → 1 < s.cal.exWindow →
          t.cal.exState = s.cal.exState ∧ t.cal.exWindow = s.cal.exWindow - 1)
    let runs := s.gen.machine ≠ .idle ∧ s.gen.machine ≠ .failed
    let closes := s.cal.exState ≠ .none ∧ s.cal.exWindow ≤ 1 ∧ s.cal.runMark = false
    let falls := fun t : State =>
      t.cal.second = 0 ∧ t.cal.hour = s.now 3 29 ∧ t.cal.minute = s.now 3 30 ∧
        (s.now 3 28 = 7 ∨ t.cal.weekday = s.now 3 28) ∧ s.now 3 27 = 1 ∧ s.now 3 0 = 1 ∧ t.cal.valid = true ∧
        (s.cal.exState = .none ∨ closes)
    let today := fun c : Cal => ({ year := c.year, month := c.month, day := c.day } : Date)
    let owed := fun t : State => (t.cal.exState, t.cal.exDuration, t.cal.exWindow)
    let lapsed : Option LastExercise :=
      if closes then some { date := s.cal.exDue, outcome := .missed } else s.cal.last
    let days := min 65535 (s.charge.eq.dayCount + 1)
    let waits := fun x : EqRec => x.state = .pending ∨ x.state = .suspended
    let reached := s.charge.eq.state = .none ∧ s.inForce 1 15 ≠ 0 ∧ s.inForce 1 15 ≤ days
    (s.powered = true → Leads .calendarTick s fun t =>
      advanced t ∧
        t.charge.eq.dayCount = (if midnight then min 65535 (s.charge.eq.dayCount + 1) else s.charge.eq.dayCount) ∧
        t.charge.eq =
          (if ¬ midnight then s.charge.eq
          else if reached then { s.charge.eq with dayCount := days, state := .pending, daysWaiting := 0 }
          else if waits s.charge.eq then
            { s.charge.eq with dayCount := days, daysWaiting := min 65535 (s.charge.eq.daysWaiting + 1) }
          else { s.charge.eq with dayCount := days }) ∧
        (s.alarm.records.length = 40 →
          ((t.record 14).cond = true ↔
            if midnight then waits t.charge.eq ∧ 14 < t.charge.eq.daysWaiting else (s.record 14).cond = true) ∧
            (closes → (t.record 28).cond = true) ∧ (last → s.cal.valid = true → (t.record 30).cond = true)) ∧
        t.cal.missed = (s.cal.missed || decide closes) ∧
        (¬ (falls t ∧ ¬ runs) → t.gen = { s.gen with exercise := if closes then none else s.gen.exercise }) ∧
        (falls t → runs →
          owed t = (.none, 0, 0) ∧ t.cal.last = some { date := today t.cal, outcome := .counted }) ∧
        (falls t → ¬ runs →
          owed t = (.waiting, s.now 3 31, 3600 * s.now 3 32) ∧ t.cal.last = lapsed ∧ t.cal.exDue = today t.cal ∧
            t.gen.exercise = some (s.now 3 31) ∧
            (¬ midnight → ¬ closes → Evaluated
              { s with
                cal := { t.cal with runMark := s.cal.runMark }, gen := { s.gen with exercise := some (s.now 3 31) } } t)) ∧
        (¬ falls t → t.cal.last = lapsed ∧ owed t =
          if closes then (.none, 0, 0)
          else (s.cal.exState, s.cal.exDuration, if s.cal.exState = .none then s.cal.exWindow else s.cal.exWindow - 1)) ∧
        t = { s with
          charge := { s.charge with eq := t.charge.eq }, gen := t.gen, cal := t.cal, alarm := t.alarm }) ∧
      (s.powered = false → s.markerGood = true →
        Leads .calendarTick s fun t => advanced t ∧
          t = { s with cal := { t.cal with
            exState := s.cal.exState, exDuration := s.cal.exDuration, exDue := s.cal.exDue, runMark := s.cal.runMark
            missed := s.cal.missed, last := s.cal.last } }) ∧
      (s.powered = false → s.markerGood = false → exec .calendarTick s = .next s) ∧
      (let w := calendarEvent s
        let u : State := { s with cal := { s.cal with handAgain := false } }
        (s.cal.handAgain = false → w = s) ∧ (s.cal.handAgain = true → s.cal.exState = .none → w = u) ∧
          (s.cal.handAgain = true → s.cal.exState ≠ .none → runs → w = { u with cal := { u.cal with
            exState := .none, exDuration := 0, exWindow := 0
            last := some { date := today s.cal, outcome := .counted } } }) ∧
          (s.cal.handAgain = true → s.cal.exState ≠ .none → ¬ runs → Evaluated
            { u with
              cal := { u.cal with exState := .waiting }, gen := { s.gen with exercise := some s.cal.exDuration } } w))

/-- With the supply present and forty alarm records, WINDOW_CLOSE of an exercise owed with at most one second of
window left sets the window to 0; with no run carrying the mark the exercise is then withdrawn, EXERCISE_MISSED
true, the last exercise MISSED with the date of its due moment and the generator's EXERCISE cause false; with
such a run nothing else changes. With no exercise owed the state is unchanged. Rules: R158, R161. -/
def Obligations.TheWindowCloses : Prop :=
  ∀ (s : State), s.powered = true → s.alarm.records.length = 40 →
    (s.cal.exState ≠ .none → s.cal.exWindow ≤ 1 → s.cal.runMark = true →
      exec .windowClose s = .next { s with cal := { s.cal with exWindow := 0 } }) ∧
      (s.cal.exState ≠ .none → s.cal.exWindow ≤ 1 → s.cal.runMark = false → Leads .windowClose s fun t =>
        t.cal = { s.cal with
          exState := .none, exDuration := 0, exWindow := 0, missed := true
          last := some { date := s.cal.exDue, outcome := .missed } } ∧
          Reported 28 true s t ∧
          t = { s with cal := t.cal, gen := { s.gen with exercise := none }, alarm := t.alarm }) ∧
      (s.cal.exState = .none → exec .windowClose s = .next s)

/-- With the supply present and the receiver LISTENING or COLLECTING: SET_CLOCK with any field outside its range
or a day its month does not have is BAD_FIELD; else the six fields are written, the weekday is that of the date,
valid is yes, CLOCK_LOST is false if it was not valid before, and nothing else changes. ALIGN_CLOCK of a time
not valid is REFUSED_STATE; a second to 29 becomes 0; from 30 a legal time is carried to the start of the next
minute, or out of 2099 to 2000-01-01, not valid, and only the calendar, the equalize record, the generator and
alarms change: with no exercise owed all that a tick out of the minute's last second brings, a day boundary and
a due moment among it; one owed keeps its window, and the generator stands. Both answer OK. Rules: R154, R155,
R156, R157, R159. -/
def Obligations.ClockIsSetAndAligned : Prop :=
  ∀ (y : Half) (mo d h mi sec : Byte) (s : State), s.powered = true → s.hears = true → s.alarm.records.length = 40 →
    let ok := 2000 ≤ y.toNat ∧ y.toNat ≤ 2099 ∧ 1 ≤ mo.toNat ∧ mo.toNat ≤ 12 ∧ 1 ≤ d.toNat ∧
      d.toNat ≤ daysInMonth y.toNat mo.toNat ∧ h.toNat ≤ 23 ∧ mi.toNat ≤ 59 ∧ sec.toNat ≤ 59
    (¬ ok → exec (.setClock y mo d h mi sec) s = .next (holdAnswer 0x20#8 (Answer.refuse .badField) s)) ∧
      (ok → Leads (.setClock y mo d h mi sec) s fun t =>
        t.cal = { s.cal with
          year := y.toNat, month := mo.toNat, day := d.toNat, hour := h.toNat, minute := mi.toNat, second := sec.toNat
          weekday := weekdayOf y.toNat mo.toNat d.toNat, valid := true } ∧
          (s.cal.valid = true → t.alarm = s.alarm) ∧ (s.cal.valid = false → Reported 30 false s t) ∧
          t = { s with cal := t.cal, alarm := t.alarm, link := (holdAnswer 0x20#8 Answer.ok s).link }) ∧
      (s.cal.valid = false → exec .alignClock s = .next (holdAnswer 0x21#8 (Answer.refuse .refusedState) s)) ∧
      (s.cal.valid = true → s.cal.second ≤ 29 → exec .alignClock s = .next
        (holdAnswer 0x21#8 Answer.ok { s with cal := { s.cal with second := 0 } })) ∧
      (s.cal.valid = true → s.CalendarLegal → 30 ≤ s.cal.second → Leads .alignClock s fun t =>
        (¬ (s.cal.year = 2099 ∧ s.cal.month = 12 ∧ s.cal.day = 31 ∧ s.cal.hour = 23 ∧ s.cal.minute = 59) →
          t.stamp + s.cal.second = s.stamp + 60 ∧ t.cal.valid = true) ∧
          (s.cal.year = 2099 → s.cal.month = 12 → s.cal.day = 31 → s.cal.hour = 23 → s.cal.minute = 59 →
            t.stamp = 0 ∧ t.cal.valid = false) ∧
          t.cal.second = 0 ∧
          (s.cal.exState = .none →
            exec .calendarTick { s with cal := { s.cal with second := 59 } } = .next { t with link := s.link }) ∧
          (s.cal.exState ≠ .none → t.gen = s.gen ∧ t.cal =
            { t.cal with
              exState := s.cal.exState, exDuration := s.cal.exDuration, exWindow := s.cal.exWindow
              exDue := s.cal.exDue, runMark := s.cal.runMark, missed := s.cal.missed, last := s.cal.last }) ∧
          t = { s with
            charge := { s.charge with eq := t.charge.eq }, gen := t.gen, cal := t.cal, alarm := t.alarm
            link := (holdAnswer 0x21#8 Answer.ok s).link })

/-- With the supply present, the table evaluated and forty records, QUALIFICATION_COUNT_EXPIRY of a code with
its count due: an IDLE or GONE_UNSEEN record with its condition true becomes ACTIVE_NEW, its occurrences one
more up to 255, first raised now if it was IDLE; an active record with its condition false becomes IDLE, or
GONE_UNSEEN from ACTIVE_NEW with latching on; the count is 0, the last change is now, ALARM_CHANGE is posted and
no other record changes; a change with which the lamp begins to flash, no record having been unseen before,
begins it with a lit half, and any other leaves its phase. A record whose condition agrees with its state, or a
table not evaluated, is left unchanged. All else stands. At a measurement event the alarm unit does this of
every record whose count, one more than before, reaches its delay, writes the count of every other record whose
condition disagrees with its state, and 0 where it agrees; the first event after a start begins the evaluation,
a GONE_UNSEEN record with its latching off first becoming IDLE and then being qualified, in a new episode, each
code taken whole with its notices before the next (R179 gives no order: the model's choice, log 55). The notices
join the queue in ascending code up to 32, the resync flag set by one that finds it full; a lamp that this event
sets flashing is in its lit half, and while a record stays unseen through the event, or none is unseen before or
after it, the phase stands. Rules: R166, R167, R172, R173, R178, R179. -/
def Obligations.RecordsAreRaisedAndCleared : Prop :=
  ∀ (c : Fin 40) (s : State), s.powered = true → s.alarm.records.length = 40 →
    let r := s.record c
    let active := r.state = .activeNew ∨ r.state = .activeSeen
    let unseen := fun t : State => (t.alarm.records.any fun x => x.state == .activeNew || x.state == .goneUnseen) = true
    let changed := fun (x : AlarmRec) (t : State) =>
      t.record c = x ∧ (∀ d, d < 40 → d ≠ c → t.record d = s.record d) ∧
        (t.alarm.notices, t.alarm.resync) =
          (if s.alarm.notices.length < 32 then
            (s.alarm.notices ++ [{ kind := .alarmChange, subject := c, value := x.state.code, time := s.stamp }],
              s.alarm.resync)
          else (s.alarm.notices, true)) ∧
        t = { s with alarm := { s.alarm with
          records := t.alarm.records, notices := t.alarm.notices, resync := t.alarm.resync
          lampLit := if unseen t ∧ ¬ unseen s then true else s.alarm.lampLit } }
    (s.alarm.evaluated = false → exec (.qualificationCountExpiry c) s = .next s) ∧
      (s.alarm.evaluated = true → ¬ active → r.cond = true → s.inForce 5 (4 * c + 2) ≤ r.qual + 1 →
        Leads (.qualificationCountExpiry c) s (changed
          { state := .activeNew, occurrences := min 255 (r.occurrences + 1)
            firstRaised := if r.state = .idle then some s.stamp else r.firstRaised, lastChange := some s.stamp
            cond := true, qual := 0 })) ∧
      (s.alarm.evaluated = true → active → r.cond = false → s.inForce 5 (4 * c + 3) ≤ r.qual + 1 →
        Leads (.qualificationCountExpiry c) s (changed
          (if r.state = .activeNew ∧ s.now 5 (4 * c + 1) = 1 then
            { r with state := .goneUnseen, lastChange := some s.stamp, qual := 0 }
          else { r with state := .idle, firstRaised := none, lastChange := some s.stamp, qual := 0 }))) ∧
      (active ∧ r.cond = true ∨ ¬ active ∧ r.cond = false → exec (.qualificationCountExpiry c) s = .next s) ∧
      (s.alarm.notices.length ≤ 32 →
        let w := alarmEvent s
        let stamped := fun (x : AlarmRec) (st : AlarmState) => { x with state := st, lastChange := some s.stamp }
        let drops := fun d : Nat => s.alarm.evaluated = false ∧ (s.record d).state = .goneUnseen ∧ s.now 5 (4 * d + 1) ≠ 1
        let first := fun d : Nat =>
          if drops d then { stamped (s.record d) .idle with firstRaised := none } else s.record d
        let isActive := fun d : Nat => (first d).state = .activeNew ∨ (first d).state = .activeSeen
        let n := fun d : Nat => min 255 ((first d).qual + 1)
        let rises := fun d : Nat => ¬ isActive d ∧ (first d).cond = true ∧ s.inForce 5 (4 * d + 2) ≤ n d
        let falls := fun d : Nat => isActive d ∧ (first d).cond = false ∧ s.inForce 5 (4 * d + 3) ≤ n d
        let gone := fun d : Nat => (first d).state = .activeNew ∧ s.now 5 (4 * d + 1) = 1
        let told := fun (d value : Nat) =>
          ({ kind := .alarmChange, subject := d, value := value, time := s.stamp } : Notice)
        let posts := (List.range 40).flatMap fun d =>
          (if drops d then [told d 0] else []) ++
            if rises d then [told d 1] else if falls d then [told d (if gone d then 3 else 0)] else []
        (∀ d, d < 40 → w.record d =
          if rises d then
            { stamped (first d) .activeNew with
              occurrences := min 255 ((first d).occurrences + 1), qual := 0
              firstRaised := if (first d).state = .idle then some s.stamp else (first d).firstRaised }
          else if falls d then
            if gone d then { stamped (first d) .goneUnseen with qual := 0 }
            else { stamped (first d) .idle with firstRaised := none, qual := 0 }
          else { first d with
            qual := if (isActive d ∧ (first d).cond = false) ∨ (¬ isActive d ∧ (first d).cond = true) then n d
              else 0 }) ∧
          w.alarm.evaluated = true ∧ w.alarm.notices = (s.alarm.notices ++ posts).take 32 ∧
          w.alarm.resync = (s.alarm.resync || decide (32 < (s.alarm.notices ++ posts).length)) ∧
          (unseen w → s.alarm.evaluated = false ∨ ¬ unseen s → w.alarm.lampLit = true) ∧
          (s.alarm.evaluated = true → ¬ unseen w ∧ ¬ unseen s ∨ (∃ d, d < 40 ∧ ¬ rises d ∧ ¬ falls d ∧
            ((s.record d).state = .activeNew ∨ (s.record d).state = .goneUnseen)) →
              w.alarm.lampLit = s.alarm.lampLit) ∧
          w = { s with alarm := w.alarm })

/-- With the supply present, the receiver LISTENING or COLLECTING, forty records, at most 32 notices, and no
active record due to clear nor inactive record due to raise at once: ACK_ALARM of a code to 39 or a severity to
3 acknowledges the code, or every code of at least that severity, ACTIVE_NEW becoming ACTIVE_SEEN and
GONE_UNSEEN IDLE, stamped, with counts and conditions as they were; any other selector is BAD_FIELD and changes
nothing. RESET_LATCH makes every GONE_UNSEEN record IDLE in the same way. Other records stand. Each changed
record posts ALARM_CHANGE with its code and new state, in ascending code after the notices in the queue and up
to 32 of them, the resync flag set by one that finds the queue full. Only the alarm unit and the link change.
That a table not yet evaluated is served in the same way is DEDUCED (log 20). Rules: R166, R168, R170, R172. -/
def Obligations.AcknowledgementAndReset : Prop :=
  ∀ (form selector : Byte) (s : State), s.powered = true → s.hears = true → s.alarm.records.length = 40 →
    s.alarm.notices.length ≤ 32 →
    (∀ c, c < 40 →
      ((s.record c).state = .activeNew → (s.record c).cond = true ∨ 0 < s.inForce 5 (4 * c + 3)) ∧
        ((s.record c).state = .goneUnseen → (s.record c).cond = false ∨ 0 < s.inForce 5 (4 * c + 2))) →
    let seen := fun r : AlarmRec => { r with state := .activeSeen, lastChange := some s.stamp }
    let idle := fun r : AlarmRec => { r with state := .idle, firstRaised := none, lastChange := some s.stamp }
    let named := fun c : Nat =>
      form.toNat = 0 ∧ c = selector.toNat ∨ form.toNat ≠ 0 ∧ selector.toNat ≤ s.now 5 (4 * c)
    let posts := fun codes : List Nat => codes.map fun c =>
      ({ kind := .alarmChange, subject := c, value := if (s.record c).state = .activeNew then 2 else 0
         time := s.stamp } : Notice)
    let frame := fun (kind : Byte) (q : List Notice) (t : State) =>
      t = { s with
        alarm := { s.alarm with
          records := t.alarm.records, notices := (s.alarm.notices ++ q).take 32
          resync := s.alarm.resync || decide (32 < (s.alarm.notices ++ q).length), lampLit := t.alarm.lampLit }
        link := (holdAnswer kind Answer.ok s).link }
    (form.toNat = 0 ∧ selector.toNat ≤ 39 ∨ form.toNat = 1 ∧ selector.toNat ≤ 3 →
      Leads (.ackAlarm form selector) s fun t =>
        (∀ c, c < 40 → t.record c =
          if named c ∧ (s.record c).state = .activeNew then seen (s.record c)
          else if named c ∧ (s.record c).state = .goneUnseen then idle (s.record c)
          else s.record c) ∧
          frame 0x22#8 (posts ((List.range 40).filter fun c => decide (named c ∧
            ((s.record c).state = .activeNew ∨ (s.record c).state = .goneUnseen)))) t) ∧
      (¬ (form.toNat = 0 ∧ selector.toNat ≤ 39 ∨ form.toNat = 1 ∧ selector.toNat ≤ 3) →
        exec (.ackAlarm form selector) s = .next (holdAnswer 0x22#8 (Answer.refuse .badField) s)) ∧
      Leads .resetLatch s fun t =>
        (∀ c, c < 40 → t.record c =
          if (s.record c).state = .goneUnseen then idle (s.record c) else s.record c) ∧
          frame 0x23#8 (posts ((List.range 40).filter fun c => (s.record c).state == .goneUnseen)) t

/-- With the supply absent no output is driven: prime, crank, run, changeover to the generator, NEL, BPD, relay,
lamp (but for the relays the model's choice, log 30). With it present and forty records: prime is driven exactly
in PRIMING, crank in CRANKING, run in every state but IDLE, STOPPING and FAILED, the changeover selects the
generator exactly in ONLINE, and each contactor is driven exactly while CLOSED; a relay is energised exactly if
the table is evaluated and no code whose map names the relay has a record that is not IDLE. LAMP_HALF_PERIOD
turns the lamp over if the table is evaluated and some record is ACTIVE_NEW or GONE_UNSEEN, and otherwise leaves
the state unchanged, the lamp then lit exactly if the table is not evaluated or some record is ACTIVE_SEEN.
Rules: R72, R127, R128, R176, R178, R179. -/
def Obligations.RelaysAndLampShowTheTable : Prop :=
  ∀ (k : Fin 6) (s : State),
    let unseen := (s.alarm.records.any fun r => r.state == .activeNew || r.state == .goneUnseen) = true
    (s.powered = false →
      s.primeDriven = false ∧ s.crankDriven = false ∧ s.runDriven = false ∧ s.changeoverGenerator = false ∧
        s.nelDriven = false ∧ s.bpdDriven = false ∧ s.relayEnergised k = false ∧ s.lampLit = false) ∧
      (s.powered = true →
        (s.primeDriven = true ↔ s.gen.machine = .priming) ∧ (s.crankDriven = true ↔ s.gen.machine = .cranking) ∧
          (s.runDriven = true ↔ s.gen.machine ≠ .idle ∧ s.gen.machine ≠ .stopping ∧ s.gen.machine ≠ .failed) ∧
          (s.changeoverGenerator = true ↔ s.gen.machine = .online) ∧ (s.nelDriven = true ↔ s.prot.nel = .closed) ∧
          (s.bpdDriven = true ↔ s.prot.bpd = .closed)) ∧
      (s.powered = true → s.alarm.records.length = 40 →
        (s.relayEnergised k = true ↔ s.alarm.evaluated = true ∧
          ∀ c, c < 40 → (s.now 6 c).testBit k = true → (s.record c).state = .idle) ∧
          (s.alarm.evaluated = true → unseen →
            exec .lampHalfPeriod s = .next { s with alarm := { s.alarm with lampLit := !s.alarm.lampLit } } ∧
              s.lampLit = s.alarm.lampLit) ∧
          (s.alarm.evaluated = false ∨ ¬ unseen → exec .lampHalfPeriod s = .next s ∧
            (s.lampLit = true ↔
              s.alarm.evaluated = false ∨ (s.alarm.records.any fun r => r.state == .activeSeen) = true)))

/-- With the supply present and the receiver LISTENING or COLLECTING: NEXT_NOTICE read live removes and returns
the oldest notice; of an empty queue with the resync flag set it says empty with the resync mark and clears the
flag, and with the flag clear it says empty; marked SNAPSHOT it is BAD_FIELD. Nothing else changes. A posting
after it joins the queue; a posting before it to a queue of 32 is discarded with the flag set and the oldest is
returned, and to an empty queue is itself returned, the flag standing. Rules: R174. -/
def Obligations.NoticesQueueAndAreTaken : Prop :=
  ∀ (n : Notice) (s : State), s.powered = true → s.hears = true → n.time = s.stamp → s.alarm.notices.length ≤ 32 →
    let queue := fun (q : List Notice) (resync : Bool) =>
      ({ s with alarm := { s.alarm with notices := q, resync := resync } } : State)
    let give := fun (code : Nat) (bytes : List Byte) => holdAnswer 0x06#8 (Answer.give (field 1 code ++ bytes))
    let posted := post n.kind n.subject n.value
    (∀ x rest, s.alarm.notices = x :: rest →
      exec (.nextNotice 0#8) s = .next (give 0 (noticeRecord x) (queue rest s.alarm.resync)) ∧
        posted (queue rest s.alarm.resync) = queue (rest ++ [n]) s.alarm.resync ∧
        (rest.length = 31 →
          exec (.nextNotice 0#8) (posted s) = .next (give 0 (noticeRecord x) (queue rest true)))) ∧
      (s.alarm.notices = [] → s.alarm.resync = true →
        exec (.nextNotice 0#8) s = .next (give 2 [] (queue [] false)) ∧ posted (queue [] false) = queue [n] false ∧
          exec (.nextNotice 0#8) (posted s) = .next (give 0 (noticeRecord n) (queue [] true))) ∧
      (s.alarm.notices = [] → s.alarm.resync = false →
        exec (.nextNotice 0#8) s = .next (give 1 [] s) ∧ posted s = queue [n] false ∧
          exec (.nextNotice 0#8) (posted s) = .next (give 0 (noticeRecord n) (queue [] false))) ∧
      exec (.nextNotice 1#8) s = .next (holdAnswer 0x06#8 (Answer.refuse .badField) s)

/-- With the supply present and, for the requests, the receiver LISTENING or COLLECTING: UNLOCK and the three
LOCK GROUP requests with a group above 7 are BAD_FIELD and during a store write STORE_BUSY. Else UNLOCK relocks,
then is LOCKED if the group is sealed, PERMANENT, or KEYED with the key inactive, STALE if its signature differs
from the check of the values, and else unlocks with idle count 0. RELOCK relocks the group if it is unlocked,
SEAL also seals it; a mode for the unlocked group relocks it and, if it differs, begins the mode write with the
table's first copy no longer good (DEDUCED, log 19), else LOCKED. IDLE_COUNT_EXPIRY relocks when due. Nothing
else changes but the answer. A measurement event at the store adds one to the idle count of an unlocked group
and relocks it at 600, and with none unlocked changes nothing. Rules: R186, R187, R188, R189, R190. -/
def Obligations.LocksOpenAndClose : Prop :=
  ∀ (b : Byte) (signature : Half) (mode : ProtectMode) (s : State), s.powered = true →
    let g := b.toNat
    let put := fun x : Store => ({ s with store := x } : State)
    let off := put { s.store with unlocked := none }
    let relocked := if s.store.unlocked = some g then off else s
    let barred := s.store.sealed.getD g false = true ∨ s.store.modes.getD g .keyed = .permanent ∨
      s.store.modes.getD g .keyed = .keyed ∧ s.functionActive 2 = false
    let wrong := 7 < g ∨ s.store.write ≠ none
    let no := Answer.refuse (if 7 < g then .badField else .storeBusy)
    (s.hears = true →
      (wrong → exec (.unlock b signature) s = .next (holdAnswer 0x30#8 no s) ∧
        exec (.lockGroupRelock b) s = .next (holdAnswer 0x31#8 no s) ∧
        exec (.lockGroupSeal b) s = .next (holdAnswer 0x31#8 no s) ∧
        exec (.lockGroupMode b mode) s = .next (holdAnswer 0x31#8 no s)) ∧
      (¬ wrong → barred → exec (.unlock b signature) s = .next (holdAnswer 0x30#8 (Answer.refuse .locked) off)) ∧
      (¬ wrong → ¬ barred → signature ≠ check ((s.store.work.getD g []).flatMap (bytesBE 2)) →
        exec (.unlock b signature) s = .next (holdAnswer 0x30#8 (Answer.refuse .stale) off)) ∧
      (¬ wrong → ¬ barred → signature = check ((s.store.work.getD g []).flatMap (bytesBE 2)) →
        exec (.unlock b signature) s =
          .next (holdAnswer 0x30#8 Answer.ok (put { s.store with unlocked := some g, idle := 0 }))) ∧
      (¬ wrong → exec (.lockGroupRelock b) s = .next (holdAnswer 0x31#8 Answer.ok relocked)) ∧
      (¬ wrong → exec (.lockGroupSeal b) s = .next (holdAnswer 0x31#8 Answer.ok
        { s with store := { relocked.store with sealed := s.store.sealed.set g true } })) ∧
      (¬ wrong → s.store.unlocked ≠ some g →
        exec (.lockGroupMode b mode) s = .next (holdAnswer 0x31#8 (Answer.refuse .locked) s)) ∧
      (¬ wrong → s.store.unlocked = some g → exec (.lockGroupMode b mode) s = .next (holdAnswer 0x31#8 Answer.ok
        (if s.store.modes.getD g .keyed = mode then off
        else put { s.store with
          unlocked := none, write := some (.modeTable g mode), copyA := { s.store.copyA with good := false } })))) ∧
      (s.store.unlocked ≠ none → 600 ≤ s.store.idle + 1 → exec .idleCountExpiry s = .next off) ∧
      (s.store.unlocked = none → exec .idleCountExpiry s = .next s) ∧
      (s.store.unlocked = none → storeEvent s = s) ∧
      (s.store.unlocked ≠ none → s.store.idle + 1 < 600 → storeEvent s = put { s.store with idle := s.store.idle + 1 }) ∧
      (s.store.unlocked ≠ none → 600 ≤ s.store.idle + 1 →
        storeEvent s = put { s.store with unlocked := none, idle := (storeEvent s).store.idle })

/-- With the supply present, the receiver LISTENING or COLLECTING and eight working groups: WRITE_SETTINGS of 0
values, more than 40 or not as many as it names is BAD_LENGTH; a group above 7 or a run past the group's end is
BAD_FIELD; during a store write it is STORE_BUSY; of a group that is not unlocked LOCKED; with a value out of
its range, or settings that would break the order of the thresholds or the budget, it is BAD_FIELD with one byte
more. That byte is the first index for a bad group; for a run past the end the first index beyond the group, or
the run's first index where that lies beyond (DEDUCED, log 24); the first index of the run with a value out of
its range; or else the first index of the run that is one of the two settings of a broken pair of neighbours
(the chain taken pair by pair: DEDUCED, log 24). Otherwise OK: the idle count is 0, the group with the run
applied is being written and its stored image is not good. The working copy stands in every case, and nothing
else changes but the answer. Rules: R191, R192, R193. -/
def Obligations.WritesAreJudged : Prop :=
  ∀ (b first count : Byte) (values : List Half) (s : State), s.powered = true → s.hears = true → s.store.work.length = 8 →
    let g := b.toNat
    let f := first.toNat
    let n := count.toNat
    let v := values.map BitVec.toNat
    let new := (s.store.work.getD g []).take f ++ v ++ (s.store.work.getD g []).drop (f + n)
    let wrongLength := n = 0 ∨ 40 < n ∨ values.length ≠ n
    let wrongPlace := 7 < g ∨ groupSize g < f + n
    let inRange := (List.range n).all (fun j => settingInRange (s.now 0 14) g (f + j) (v.getD j 0)) = true
    let refused := fun (r : Result) => exec (.writeSettings b first count values) s =
      .next (holdAnswer 0x32#8 (Answer.refuse r) s)
    let named := Leads (.writeSettings b first count values) s fun t =>
      t.link.inHand.map (fun h => (h.kind, h.result, h.data.length)) = some (0x32#8, Result.badField, 1) ∧
        t = { s with link := t.link }
    let index := fun k : Nat => exec (.writeSettings b first count values) s =
      .next (holdAnswer 0x32#8 { result := .badField, data := [BitVec.ofNat 8 k] } s)
    let fits := fun j : Nat => settingInRange (s.now 0 14) g (f + j) (v.getD j 0) = true
    let value := fun x : Nat × Nat => ((s.store.work.set g new).getD x.1 []).getD x.2 0
    let below : List ((Nat × Nat) × Nat × Nat) :=
      [((2, 0), 2, 4), ((2, 4), 2, 9), ((2, 9), 1, 0), ((1, 0), 1, 1), ((1, 2), 2, 10), ((1, 3), 1, 4), ((2, 4), 1, 4),
        ((1, 4), 2, 9)]
    let atMost : List ((Nat × Nat) × Nat × Nat) := [((1, 1), 1, 2), ((0, 14), 3, 25)]
    let broken := below.filter (fun x => decide (value x.2 ≤ value x.1)) ++
      atMost.filter fun x => decide (value x.2 < value x.1)
    let partOf := fun j : Nat => (broken.any fun x => x.1 == (g, f + j) || x.2 == (g, f + j)) = true
    (wrongLength → refused .badLength) ∧ (¬ wrongLength → wrongPlace → named) ∧
      (¬ wrongLength → 7 < g → index f) ∧
      (¬ wrongLength → g ≤ 7 → groupSize g < f + n → index (max f (groupSize g))) ∧
      (¬ wrongLength → ¬ wrongPlace → s.store.write ≠ none → refused .storeBusy) ∧
      (¬ wrongLength → ¬ wrongPlace → s.store.write = none → s.store.unlocked ≠ some g → refused .locked) ∧
      (¬ wrongLength → ¬ wrongPlace → s.store.write = none → s.store.unlocked = some g →
        (¬ inRange ∨ ¬ SettingsInOrder (s.store.work.set g new) → named) ∧
          (∀ j, j < n → ¬ fits j → (∀ k, k < j → fits k) → index (f + j)) ∧
          (inRange → ∀ j, j < n → partOf j → (∀ k, k < j → ¬ partOf k) → index (f + j)) ∧
          (inRange → SettingsInOrder (s.store.work.set g new) →
            exec (.writeSettings b first count values) s = .next (holdAnswer 0x32#8 Answer.ok
              { s with store := { s.store with
                idle := 0, write := some (.group g new)
                images := s.store.images.set g { values := new, good := false } } })))

/-- With the supply present and forty records: STORE_WRITE_COMPLETE of a group puts its values in the working
copy and a good image, clears its damaged flag, leaves the latched settings, modes and seals, ends the write,
and its SETTING_WRITTEN with the new signature is last in a queue that has lost none (DESIGN CHOICE, log 29). No
other group than Inputs moves the unlocked group. At that moment Plant and Generator bring n_run of a placed
roster down to n_gen in ONLINE, ending a swap (that it ends here is read from "in the same way": DEDUCED, log
60), and leave the roster with n_run within n_gen, Generator withdraws an exercise owed with its enable off or
no generator (the latter at this moment: the model's choice, log 54), Voltage qualifies mains where a running
timer has reached a changed delay, Alarm makes GONE_UNSEEN IDLE where latching goes off (of a table not yet
evaluated too: DEDUCED, log 20), and Site puts each input's timer to the new polarity, qualifies one that has
reached a changed persistence, and reports SITE_INPUT where the function or the state changed; a function state
so changed, where no persistence is completed or one is and no function written, is handed on as by
PERSISTENCE_EXPIRY: the key begins or ends a KEY hold and relocks a KEYED group, GEN_INHIBIT and the end of a
KEY hold act on runs and gates, an engine fault in an armed state, FUEL_FLOAT on FUEL_LOW, and with none of
these the generator stands; for Charge, Rectifier and Relay map only SETTINGS_LOST and the notice follow.
MODE_TABLE_WRITE_COMPLETE of a mode write puts the mode in the table and both good copies, clears the table's
damage and posts the group's signature. Neither acts on the other's write. The link and module bus stand; with
no such write in flight the state is unchanged. Rules: R9, R13, R14, R94, R111, R162, R171, R185, R189, R190,
R194. -/
def Obligations.StoreWritesComplete : Prop :=
  ∀ (s : State), s.powered = true → s.alarm.records.length = 40 →
    let told := fun (g : Nat) (values : List Nat) (t : State) =>
      t.alarm.resync = false → t.alarm.notices.getLast? = some
        { kind := .settingWritten, subject := g, value := (check (values.flatMap (bytesBE 2))).toNat, time := s.stamp }
    (∀ g values, s.store.write = some (.group g values) → g < s.store.work.length → Leads .storeWriteComplete s fun t =>
      let v := fun i : Nat => values.getD i 0
      t.store = { s.store with
        work := s.store.work.set g values, images := s.store.images.set g { values := values, good := true }
        damaged := s.store.damaged.set g false, write := none, fresh := t.store.fresh, unlocked := t.store.unlocked } ∧
        told g values t ∧
        t = { s with
          meas := t.meas, sup := t.sup, acct := t.acct, charge := t.charge, prot := t.prot, rect := t.rect, gen := t.gen
          cal := t.cal, alarm := t.alarm, store := t.store } ∧
        g ∈ t.store.fresh ∧ exec .modeTableWriteComplete s = .next s ∧
        (g ≠ 7 → t.store.unlocked = s.store.unlocked) ∧
        (g = 0 ∨ g = 3 → s.gen.machine = .online → s.RosterPlaced → t.nRun = min s.nRun t.nGen ∧
          t.rect.swap = (if t.nGen < s.nRun then none else s.rect.swap) ∧ (s.nRun ≤ t.nGen → t.rect = s.rect)) ∧
        (g = 0 ∨ g = 3 → s.gen.machine ≠ .online → t.rect = s.rect) ∧
        (g ≠ 3 → g ≠ 7 → t.cal = s.cal) ∧
        (g = 3 → t.cal = (if v 27 = 1 ∧ v 0 = 1 ∨ s.cal.exState = .none then s.cal
            else { s.cal with exState := .none, exDuration := 0, exWindow := 0 }) ∧
          t.gen.exercise = (if v 27 = 1 ∧ v 0 = 1 ∨ s.cal.exState = .none then s.gen.exercise else none)) ∧
        (g = 2 → t.meas =
          let reached := fun i : Nat => v i ≠ s.now 2 i ∧ (s.meas.mainsTimer.any fun n => decide (v i ≤ n)) = true
          if s.meas.mainsQualified = false ∧ reached 12 then
            { s.meas with mainsQualified := true, mainsTimer := none }
          else if s.meas.mainsQualified = true ∧ reached 13 then
            { s.meas with mainsQualified := false, mainsTimer := none }
          else s.meas) ∧
        (g ≠ 2 → g ≠ 7 → t.meas = s.meas) ∧
        (g = 5 → ∀ c, c < 40 → c ≠ 29 → (s.record c).cond = false ∨ 0 < s.inForce 5 (4 * c + 2) →
          t.record c =
            if s.now 5 (4 * c + 1) = 1 ∧ v (4 * c + 1) ≠ 1 ∧ (s.record c).state = .goneUnseen then
              { s.record c with state := .idle, firstRaised := none, lastChange := some s.stamp }
            else s.record c) ∧
        (g = 7 → s.meas.inputs.length = 8 → ∀ i, i < 8 →
          let x := s.input i
          let sense := x.level != (v (8 + i) == 1)
          let n := x.timer.getD 0
          let full := v (16 + i) ≠ s.now 7 (16 + i) ∧ v (16 + i) ≤ n
          t.input i =
              (if x.active = sense then { x with timer := none }
              else if full then { x with active := sense, timer := none }
              else { x with timer := some n }) ∧
            (v i ≠ s.now 7 i ∨ (t.input i).active ≠ x.active →
              (t.record (32 + i)).cond = (v i == 1 && (t.input i).active))) ∧
        (g = 7 → s.meas.inputs.length = 8 →
          let full := fun i : Nat =>
            (s.input i).active ≠ ((s.input i).level != (v (8 + i) == 1)) ∧ v (16 + i) ≠ s.now 7 (16 + i) ∧
              v (16 + i) ≤ (s.input i).timer.getD 0
          let once := (∀ i, i < 8 → ¬ full i) ∨ (∀ i, i < 8 → v i = s.now 7 i) ∧ ∃ n, n < 8 ∧ ∀ i, i < 8 → full i → i = n
          let turnsOn := fun f : Nat => s.functionActive f = false ∧ t.functionActive f = true
          let turnsOff := fun f : Nat => s.functionActive f = true ∧ t.functionActive f = false
          let faults := turnsOn 5 ∨ turnsOn 6
          let keyEnds := turnsOff 2 ∧ (s.sup.hold.any fun h => h.cause == .key) = true
          let early := s.gen.machine = .priming ∨ s.gen.machine = .cranking ∨ s.gen.machine = .crankRest ∨
            s.gen.machine = .warmup
          let carries := s.gen.machine = .online ∨ s.gen.machine = .offload
          let armed := carries ∨ s.gen.machine = .cooldown ∨ s.gen.machine = .warmup ∧ 10 ≤ s.gen.stateCount
          let u : State := { s with meas := t.meas, sup := t.sup, store := t.store }
          once →
            t.sup.hold =
                (if turnsOn 2 then s.sup.hold.or (some { cause := .key, left := s.now 5 161 * 60 })
                else if turnsOff 2 then s.sup.hold.filter fun h => h.cause != .key
                else s.sup.hold) ∧
              t.store.unlocked =
                (if turnsOff 2 then s.store.unlocked.filter fun x => s.store.modes.getD x .keyed != .keyed
                else s.store.unlocked) ∧
              (turnsOn 7 ∨ turnsOff 7 → (t.record 25).cond = (s.gen.fuelLow || t.functionActive 7)) ∧
              (¬ turnsOn 3 → ¬ turnsOff 3 → ¬ keyEnds → ¬ (faults ∧ armed) → t.gen = s.gen) ∧
              (turnsOn 3 → ¬ faults → early → s.meas.genPresent = true →
                t.gen.machine = .stopping ∧ t.gen.run = s.gen.run.map fun r => { r with stopReason := some .inhibit }) ∧
              (turnsOn 3 → ¬ faults → early → s.meas.genPresent = false →
                t.gen.machine = .failed ∨ t.gen.machine = .idle) ∧
              (turnsOn 3 → ¬ faults → carries → 0 < s.inForce 3 18 →
                t.gen.machine = .cooldown ∧ t.gen.run = s.gen.run.map fun r => { r with stopReason := some .inhibit }) ∧
              (turnsOn 3 → ¬ faults → ¬ early → ¬ carries → t.gen = s.gen) ∧
              (¬ turnsOn 3 → ¬ faults → gatesOpen u = false ∨ firstCause u = none → t.gen = s.gen) ∧
              (turnsOff 3 ∨ keyEnds ∧ ¬ turnsOn 3 → ¬ faults → gatesOpen u = true → ∀ b, firstCause u = some b →
                b ≠ .exercise → t.gen.run.map Run.basis = some b) ∧
              (faults → armed → ¬ turnsOn 3 →
                t.gen.machine = (if s.meas.genPresent = true then .stopping else .failed) ∧
                  t.gen.failReason = some .engineFault)) ∧
        (g = 1 ∨ g = 4 ∨ g = 6 →
          (t.record 29).cond = ((s.store.damaged.set g false).any id || s.store.tableDamaged) ∧
          (∀ d, d < 40 → d ≠ 29 → t.record d = s.record d) ∧ t = { s with alarm := t.alarm, store := t.store })) ∧
      (∀ g mode, s.store.write = some (.modeTable g mode) → Leads .modeTableWriteComplete s fun t =>
        let modes := s.store.modes.set g mode
        t.store = { s.store with
          modes := modes, copyA := { modes := modes, good := true }, copyB := { modes := modes, good := true }
          tableDamaged := false, write := none } ∧
          told g (s.store.work.getD g []) t ∧ Reported 29 (s.store.damaged.any id) s t ∧
          t = { s with alarm := t.alarm, store := t.store } ∧ exec .storeWriteComplete s = .next s) ∧
      (s.store.write = none →
        exec .storeWriteComplete s = .next s ∧ exec .modeTableWriteComplete s = .next s)

/-- With the supply present and the receiver LISTENING or COLLECTING, each answers live only and changes nothing
but the answer: READ_SETTINGS of a run within a group, of 1 to 40 values, gives group, first, count and the
values; READ_SIGNATURE of a group gives group, the check of its values, mode, sealed and unlocked flags, the
idle count (absent, all bits set, of a group not unlocked: DEDUCED, log 26), its damaged flag, the mode table's,
and the write in flight. A run past the end, a count of 0 or above 40, a group above 7 or a source other than
LIVE is BAD_FIELD. Rules: R183, R188, R195, R201, R208, R211. -/
def Obligations.SettingsAndSignaturesAreRead : Prop :=
  ∀ (source b first count : Byte) (s : State), s.powered = true → s.hears = true →
    let g := b.toNat
    let f := first.toNat
    let n := count.toNat
    let wrong := n = 0 ∨ 40 < n ∨ 7 < g ∨ groupSize g < f + n
    (source ≠ 0#8 ∨ wrong →
      exec (.readSettings source b first count) s = .next (holdAnswer 0x09#8 (Answer.refuse .badField) s)) ∧
      (¬ wrong → exec (.readSettings 0#8 b first count) s = .next (holdAnswer 0x09#8 (Answer.give
        ([b, first, count] ++ (List.range n).flatMap fun j =>
          field 2 ((s.store.work.getD g []).getD (f + j) 0))) s)) ∧
      (source ≠ 0#8 ∨ 7 < g →
        exec (.readSignature source b) s = .next (holdAnswer 0x0A#8 (Answer.refuse .badField) s)) ∧
      (g ≤ 7 → exec (.readSignature 0#8 b) s = .next (holdAnswer 0x0A#8 (Answer.give
        ([b] ++ bytesBE 2 (check ((s.store.work.getD g []).flatMap (bytesBE 2))).toNat ++
          field 1 (modeCode (s.store.modes.getD g .keyed)) ++ flagField (s.store.sealed.getD g false) ++
          flagField (s.store.unlocked == some g) ++
          (if s.store.unlocked = some g then field 2 s.store.idle
            else [0xFF#8, 0xFF#8]) ++
          flagField (s.store.damaged.getD g false) ++ flagField s.store.tableDamaged ++
          (match s.store.write with
            | some (.group w _) => field 1 w
            | some (.modeTable _ _) => [8#8]
            | none => [0xFF#8]))) s))

/-- With the supply present: LINK_BYTE_BEGINS starts a run in LISTENING, adds to it in COLLECTING, and with a
request in hand or DEAF does what LINK_BYTE_DISCARD does: sets the overrun mark with a request in hand, and
nothing in the other states. DEAF_IDLE_EXPIRY takes DEAF to LISTENING with the mark clear. Any request given
with a request in hand does what LINK_BYTE_DISCARD does, and given in DEAF nothing. REPLY_BEGIN with a request
in hand builds the reply of station address, kind, result, digest and data with its check. Its digest is five
bytes: plant mode and charge stage; generator state and highest unseen severity plus 1, or 0; the notice count;
OVERRUN, RESYNC, CLAMPED, HOLD and SNAPSHOT_HELD from bit 0; the snapshot age, that of the copy read (DEDUCED,
log 41) or else of the snapshot held, 255 with neither. REPLY_END of a reply begun ends it in DEAF if the mark
is set, else LISTENING; the end of the reply to a RESTART is the start itself, RESTART_WARM_START, and REPLY_END
leaves the state unchanged (DEDUCED, log 27). RESTART taken in LISTENING or COLLECTING answers OK and arranges
the start. Nothing else changes. Rules: R196, R200, R202, R205, R206, R209. -/
def Obligations.ReceiverTakesBytesAndReplies : Prop :=
  ∀ (b : LineByte) (i : Instr) (s : State), s.powered = true →
    let put := fun x : Link => ({ s with link := x } : State)
    (s.link.receiver = .listening →
      exec (.linkByteBegins b) s = .next (put { s.link with receiver := .collecting, run := [b] })) ∧
      (s.link.receiver = .collecting →
        exec (.linkByteBegins b) s = .next (put { s.link with run := s.link.run ++ [b] })) ∧
      (s.link.receiver = .inHand →
        exec (.linkByteBegins b) s = .next (put { s.link with overrun := true }) ∧
          exec .linkByteDiscard s = .next (put { s.link with overrun := true })) ∧
      (s.link.receiver = .deaf → exec (.linkByteBegins b) s = .next s ∧
        exec .deafIdleExpiry s = .next (put { s.link with receiver := .listening, overrun := false })) ∧
      (s.link.receiver ≠ .inHand → exec .linkByteDiscard s = .next s) ∧
      (s.link.receiver ≠ .deaf → exec .deafIdleExpiry s = .next s) ∧
      (∀ h, s.link.inHand = some h → s.link.reply = none → exec .replyBegin s = .next (put { s.link with
        reply := some
          (let payload := field 1 h.result.code ++ digest s h ++ h.data
           let body := field 1 s.link.address ++ [h.kind] ++ field 1 payload.length ++ payload
           [0x5A#8] ++ body ++ bytesBE 2 (check body).toNat) })) ∧
      (∀ h, s.link.inHand = some h →
        let byte := fun p : Nat => ((digest s h).getD p 0#8).toNat
        let unseen := fun c : Nat => (s.record c).state = .activeNew ∨ (s.record c).state = .goneUnseen
        let top := byte 1 % 16
        (digest s h).length = 5 ∧ byte 0 = 16 * s.sup.mode.code + s.charge.stage.code ∧
          ((∀ c, c < 40 → s.now 5 (4 * c) ≤ 3) →
            byte 1 / 16 = s.gen.machine.code ∧ (∀ c, c < 40 → unseen c → s.now 5 (4 * c) + 1 ≤ top) ∧
              (top ≠ 0 → ∃ c, c < 40 ∧ unseen c ∧ top = s.now 5 (4 * c) + 1)) ∧
          (s.alarm.notices.length ≤ 32 → byte 2 = s.alarm.notices.length) ∧
          byte 3 = (if s.link.overrun = true then 1 else 0) + (if s.alarm.resync = true then 2 else 0) +
            (if h.result = .clamped then 4 else 0) + (if s.sup.hold = none then 0 else 8) +
            (if s.link.snapshot = none then 0 else 16) ∧
          (∀ k, h.age = some k → k < 60 → byte 4 = k) ∧
          (h.age = none → ∀ k, s.link.snapshot = some k → k.age < 60 → byte 4 = k.age) ∧
          (h.age = none → s.link.snapshot = none → byte 4 = 255)) ∧
      (s.link.inHand = none ∨ s.link.reply ≠ none → exec .replyBegin s = .next s) ∧
      (s.link.reply ≠ none → s.link.restartDue = false → exec .replyEnd s = .next (put { s.link with
        inHand := none, reply := none, receiver := if s.link.overrun = true then .deaf else .listening })) ∧
      (s.link.reply = none ∨ s.link.restartDue = true → exec .replyEnd s = .next s) ∧
      (s.link.receiver = .listening ∨ s.link.receiver = .collecting →
        exec .restart s = .next (holdAnswer 0x3F#8 Answer.ok (put { s.link with restartDue := true }))) ∧
      ((requestSpelling i).isSome = true →
        (s.link.receiver = .inHand → exec i s = .next (put { s.link with overrun := true })) ∧
          (s.link.receiver = .deaf → exec i s = .next s))

/-- With the supply present and a run being collected: RUN_CLOSE takes it as a request, which is then in hand,
if every byte has a good stop bit, the first is 0xA5, the LENGTH byte is at most 96, the run holds exactly
LENGTH + 6 bytes, the check of R119 over ADDRESS through the payload is the last two bytes and ADDRESS is the
station address. A run that fails any test is discarded: the receiver listens and nothing else changes. A run of
three bytes or fewer fails. Rules: R197. -/
def Obligations.ClosedRunsAreTakenOrDiscarded : Prop :=
  ∀ (s : State), s.powered = true → s.link.receiver = .collecting →
    let run := s.link.run
    let v := run.map LineByte.value
    let n := (v.getD 3 0#8).toNat
    let taken := (∀ b ∈ run, b.goodStop = true) ∧ v.head? = some 0xA5#8 ∧ n ≤ 96 ∧ run.length = n + 6 ∧
      bytesBE 2 (check ((v.drop 1).take (n + 3))).toNat = v.drop (n + 4) ∧ (v.getD 1 0#8).toNat = s.link.address
    (taken → Leads .runClose s fun t =>
      t.link.receiver = .inHand ∧ t.link.inHand.map InHand.kind = some (v.getD 2 0#8) ∧ t.link.run = [] ∧
        t.link.overrun = false) ∧
      (¬ taken → exec .runClose s = .next { s with link := { s.link with receiver := .listening, run := [] } }) ∧
      (run.length ≤ 3 → ¬ taken)

/-- For every request, at every operand, and every state with the supply present in which the receiver is
collecting and the run held is the request frame of its kind and payload to the station address (below 256):
RUN_CLOSE answers exactly what exec answers for the request itself. Held in the same way, a frame of a kind that
names no request is answered UNKNOWN_KIND, one whose payload is not of the length that R210 gives its kind
BAD_LENGTH, a WRITE SETTINGS of 0 values, of more than 40 or of a length other than its count gives BAD_LENGTH,
and a LOCK GROUP of an action above 4 BAD_FIELD; each changes nothing but the answer. Rules: R197, R199, R209,
R210, R119. -/
def Obligations.RunsSpellTheirRequests : Prop :=
  ∀ (i : Instr) (kind : Byte) (payload : List Byte) (s : State),
    s.powered = true → s.link.receiver = .collecting → s.link.address < 256 →
      s.link.run = requestFrame s.link.address kind payload →
        let k := kind.toNat
        let n := payload.length
        let count := (payload.getD 2 0#8).toNat
        let lengths : List (Nat × Nat) :=
          [(0x01, 2), (0x02, 1), (0x03, 2), (0x04, 3), (0x05, 3), (0x06, 1), (0x07, 2), (0x08, 1), (0x09, 4), (0x0A, 2),
            (0x0B, 0), (0x20, 7), (0x21, 0), (0x22, 2), (0x23, 0), (0x24, 2), (0x25, 0), (0x26, 3), (0x27, 0), (0x28, 0),
            (0x29, 0), (0x2A, 1), (0x2B, 0), (0x2C, 1), (0x2D, 1), (0x2E, 0), (0x30, 3), (0x31, 2), (0x3F, 0)]
        let refused := fun r : Result => n ≤ 96 → exec .runClose s = .next (holdAnswer kind (Answer.refuse r) s)
        (i.wellFormed = true → requestSpelling i = some (kind, payload) → exec .runClose s = exec i s) ∧
          (k ∉ lengths.map Prod.fst → k ≠ 0x32 → refused .unknownKind) ∧
          (∀ m, (k, m) ∈ lengths → n ≠ m → refused .badLength) ∧
          (k = 0x32 → count = 0 ∨ 40 < count ∨ n ≠ 3 + 2 * count → refused .badLength) ∧
          (k = 0x31 → n = 2 → 4 < (payload.getD 1 0#8).toNat → refused .badField)

/-- With the supply present and the receiver LISTENING or COLLECTING, each read changes nothing but its answer.
Read live: READ_MEASURE 35 bytes, READ_STRING of string 1 to 4 its 41, READ_ROSTER of 1 to 6 slots within twelve
14 each, READ_ALARMS of 1 to 10 codes within forty 9 each, READ_RUNLOG to age 23 its 19, READ_CLOCK its 20, and
each of the five sections of STATUS its fields, one after another in the order in which R203, R70, R85, R112 and
R150 list them, absent where they do not apply (widths and places DEDUCED, log 11; minutes left truncated and
the strap code the model's choice, log 53). A string, run, age or section outside these is BAD_FIELD, and so is
any source but LIVE where no snapshot is kept, or but LIVE and SNAPSHOT otherwise; a snapshot read with none
held is NO_SNAPSHOT. Every field of the measurement, string, slot, alarm, notice, run and clock records stands
at its bytes, most significant first, signed ones in two's complement, an absent one with every bit set, a field
whose value does not fit it excepted (log 12); the string record of no string reads 0 in bytes 2 to 16, and a
slot without status 0 in its status fields. READ_CLOCK has no field for the duration of an exercise owed
(DEDUCED, log 51). Every enumerated value has the number of its place in R214. Rules: R44, R70, R85, R112, R150,
R181, R201, R203, R208, R211, R212, R214. -/
def Obligations.ReadsAnswerFromTheTables : Prop :=
  ∀ (source a b : Byte) (s : State), s.powered = true → s.hears = true →
    let gives := fun (i : Instr) (kind : Byte) (bytes : List Byte) (size : Nat) =>
      exec i s = .next (holdAnswer kind (Answer.give bytes) s) ∧ bytes.length = size
    let refuses := fun (i : Instr) (kind : Byte) (r : Result) =>
      exec i s = .next (holdAnswer kind (Answer.refuse r) s)
    let slots := 1 ≤ b.toNat ∧ b.toNat ≤ 6 ∧ a.toNat + b.toNat ≤ 12
    let codes := 1 ≤ b.toNat ∧ b.toNat ≤ 10 ∧ a.toNat + b.toNat ≤ 40
    gives (.readMeasure 0#8) 0x02#8 (measureRecord s) 35 ∧
      (1 ≤ a.toNat → a.toNat ≤ 4 → gives (.readString 0#8 a) 0x03#8 (stringRecord s (a.toNat - 1)) 41) ∧
      (a.toNat = 0 ∨ 4 < a.toNat → refuses (.readString 0#8 a) 0x03#8 .badField) ∧
      (slots → gives (.readRoster 0#8 a b) 0x04#8
        ((List.range b.toNat).flatMap fun j => slotRecord s (a.toNat + j)) (14 * b.toNat)) ∧
      (¬ slots → refuses (.readRoster 0#8 a b) 0x04#8 .badField) ∧
      (codes → gives (.readAlarms 0#8 a b) 0x05#8
        ((List.range b.toNat).flatMap fun j => alarmRecord s (a.toNat + j)) (9 * b.toNat)) ∧
      (¬ codes → refuses (.readAlarms 0#8 a b) 0x05#8 .badField) ∧
      (a.toNat ≤ 23 → gives (.readRunlog 0#8 a) 0x07#8 (runLogRecord s a.toNat) 19) ∧
      (23 < a.toNat → refuses (.readRunlog 0#8 a) 0x07#8 .badField) ∧
      gives (.readClock 0#8) 0x08#8 (clockRecord s.cal) 20 ∧
      exec (.status 0#8 0#8) s = .next (holdAnswer 0x01#8 (Answer.give (plantSection s)) s) ∧
      exec (.status 0#8 1#8) s = .next (holdAnswer 0x01#8 (Answer.give (chargeSection s)) s) ∧
      exec (.status 0#8 2#8) s = .next (holdAnswer 0x01#8 (Answer.give (protectionSection s)) s) ∧
      exec (.status 0#8 3#8) s = .next (holdAnswer 0x01#8 (Answer.give (rosterSection s)) s) ∧
      exec (.status 0#8 4#8) s = .next (holdAnswer 0x01#8 (Answer.give (generatorSection s)) s) ∧
      (4 < a.toNat → refuses (.status source a) 0x01#8 .badField) ∧
      (source ≠ 0#8 → refuses (.readRunlog source a) 0x07#8 .badField ∧ refuses (.readClock source) 0x08#8 .badField ∧
        (a ≠ 4#8 → refuses (.status source a) 0x01#8 .badField)) ∧
      (source ≠ 0#8 → source ≠ 1#8 ∨ s.link.snapshot = none →
        let r : Result := if source = 1#8 then .noSnapshot else .badField
        refuses (.readMeasure source) 0x02#8 r ∧ refuses (.readString source a) 0x03#8 r ∧
          refuses (.readRoster source a b) 0x04#8 r ∧ refuses (.readAlarms source a b) 0x05#8 r ∧
          refuses (.status source 4#8) 0x01#8 r) ∧
      (let num := fun (x : List Byte) (p n : Nat) => ((x.drop p).take n).foldl (fun v y => 256 * v + y.toNat) 0
        let holds := fun (x : List Byte) (p n v : Nat) => v < 256 ^ n → num x p n = v
        let signed := fun (x : List Byte) (p n : Nat) (v : Int) =>
          -((256 ^ n : Nat) : Int) ≤ 2 * v → 2 * v < ((256 ^ n : Nat) : Int) →
            num x p n = (if v < 0 then v + ((256 ^ n : Nat) : Int) else v).toNat
        let gone := fun (x : List Byte) (p n : Nat) => num x p n = 256 ^ n - 1
        let may := fun (x : List Byte) (p n : Nat) (v : Option Nat) => holds x p n (v.getD (256 ^ n - 1))
        let bit := fun (x : List Byte) (p i : Nat) => (num x p 1).testBit i
        (let x := measureRecord s;
          holds x 0 2 s.meas.bus ∧ holds x 2 2 s.meas.load ∧
            (∀ i, i < 4 → signed x (4 + 2 * i) 2 (s.stringChannel i).reading ∧
              signed x (12 + 2 * i) 2 (s.therm i).reading ∧ holds x (23 + i) 1 (s.stringChannel i).validity.code ∧
              holds x (27 + i) 1 (s.therm i).validity.code) ∧
            holds x 20 1 s.meas.fuel ∧ holds x 21 1 s.meas.busValidity.code ∧ holds x 22 1 s.meas.loadValidity.code ∧
            holds x 31 1 s.meas.fuelValidity.code ∧
            (∀ i, i < 8 → bit x 32 i = (s.input i).active ∧ bit x 33 i = (decide (i < 7) && s.functionActive (i + 1))) ∧
            num x 34 1 = (if s.meas.mainsQualified = true then 1 else 0) + if s.meas.genPresent = true then 2 else 0) ∧
          (∀ i, i < 4 →
            let x := stringRecord s i
            holds x 0 1 (i + 1) ∧ holds x 17 1 (s.stringChannel i).validity.code ∧
              signed x 18 2 (s.stringChannel i).reading ∧
              (s.stringRec i = none → num x 1 1 = 2 ∧ num x 2 15 = 0 ∧ gone x 20 21) ∧
              ∀ r, s.stringRec i = some r →
                holds x 1 1 r.sync.code ∧ holds x 2 2 r.capacity ∧ holds x 4 4 r.account ∧ signed x 8 4 r.residue ∧
                  holds x 12 1 (r.account * 100 / (100 * r.capacity)) ∧ holds x 13 4 (100 * r.capacity - r.account) ∧
                  may x 20 4 r.delivered ∧
                  may x 24 1 (r.lastTest.map fun y => y.outcome.code) ∧ may x 25 4 (r.lastTest.map TestResult.endTime) ∧
                  may x 29 4 (r.lastTest.map TestResult.delivered) ∧ may x 33 2 (r.lastTest.map TestResult.minutes) ∧
                  may x 35 1 (r.lastTest.bind TestResult.health) ∧ may x 36 1 (r.lastHealth.map HealthResult.health) ∧
                  may x 37 4 (r.lastHealth.map HealthResult.endTime)) ∧
          (∀ i, i < 12 →
            let x := slotRecord s i
            let y := s.slot i
            let place := fun l : List Nat => if i ∈ l then l.idxOf i + 1 else 0
            (i ∉ s.rect.queue → holds x 0 1 (16 * i + place s.rect.running)) ∧
              (i ∉ s.rect.running → holds x 0 1 (16 * i + place s.rect.queue)) ∧
              num x 1 1 = 16 * y.answering.code + y.state.code ∧ holds x 2 3 y.hours ∧ holds x 5 1 y.faults ∧
              bit x 9 6 = (y.state == .starting || y.state == .running) ∧ bit x 9 7 = y.data.isSome ∧
              holds x 10 4 y.lastChange ∧
              (y.data = none → num x 6 3 = 0 ∧ num x 9 1 % 64 = 0) ∧
              ∀ d, y.data = some d → holds x 6 2 d.current ∧ signed x 8 1 d.temp ∧ bit x 9 0 = d.running ∧
                bit x 9 1 = d.limiting ∧ bit x 9 2 = d.faultTemp ∧ bit x 9 3 = d.faultOutput ∧
                bit x 9 4 = d.faultFan ∧ bit x 9 5 = d.acFail) ∧
          (∀ c, c < 40 →
            let x := alarmRecord s c
            let y := s.record c
            let age := fun t : Option Nat => t.map fun n => min 16777214 (s.stamp - n)
            (s.now 5 (4 * c) < 4 → num x 0 1 = y.state.code + 4 * s.now 5 (4 * c) +
              (if s.now 5 (4 * c + 1) = 1 then 16 else 0) + if y.cond = true then 32 else 0) ∧
              holds x 1 1 y.occurrences ∧ holds x 2 1 y.qual ∧ may x 3 3 (age y.firstRaised) ∧
              may x 6 3 (age y.lastChange)) ∧
          (∀ n, n ∈ s.alarm.notices →
            let x := noticeRecord n
            holds x 0 1 n.kind.code ∧ holds x 1 1 n.subject ∧ holds x 2 2 n.value ∧ holds x 4 4 n.time) ∧
          (let x := runLogRecord s a.toNat;
            (s.gen.log[a.toNat]? = none → gone x 0 19) ∧
              ∀ r, s.gen.log[a.toNat]? = some r →
                holds x 0 1 r.basis.code ∧ may x 1 1 (r.opening.map Basis.code) ∧ holds x 2 4 r.startTime ∧
                  may x 6 4 r.warmupEnd ∧ may x 10 4 r.stopTime ∧ may x 14 1 (r.stopReason.map StopReason.code) ∧
                  holds x 15 1 r.attempts ∧ holds x 16 1 r.fuelStart ∧ may x 17 1 r.fuelStop ∧
                  num x 18 1 = if r.reachedOnline = true then 1 else 0) ∧
          (let x := clockRecord s.cal
            let date := s.cal.last.map LastExercise.date
            holds x 0 2 s.cal.year ∧ holds x 2 1 s.cal.month ∧ holds x 3 1 s.cal.day ∧ holds x 4 1 s.cal.hour ∧
              holds x 5 1 s.cal.minute ∧ holds x 6 1 s.cal.second ∧ holds x 7 1 s.cal.weekday ∧
              num x 8 1 = (if s.cal.valid = true then 1 else 0) ∧ holds x 9 1 s.cal.exState.code ∧
              may x 10 4 (if s.cal.exState = .none then none else some s.cal.exWindow) ∧
              num x 14 1 = (if s.cal.missed = true then 1 else 0) ∧ may x 15 2 (date.map Date.year) ∧
              may x 17 1 (date.map Date.month) ∧ may x 18 1 (date.map Date.day) ∧
              may x 19 1 (s.cal.last.map fun y => y.outcome.code)) ∧
          (let laid := fun (x : List Byte) (fields : List (Nat × Option Nat)) =>
              x.length = (fields.map Prod.fst).sum ∧ ∀ k, k < fields.length →
                may x ((fields.take k).map Prod.fst).sum (fields.getD k (0, none)).1 (fields.getD k (0, none)).2
            let flag := fun b : Bool => ((1, some (if b = true then 1 else 0)) : Nat × Option Nat)
            let two := fun v : Int => ((2, some (if -32768 ≤ v ∧ v < 32768 then (v % 65536).toNat else 65536)) :
              Nat × Option Nat)
            let held := fun (st : Stage) (v : Nat) => if s.charge.stage = st then some v else none
            let p := s.prot
            let g := s.gen
            let w := s.rect.swap
            let e := s.charge.eq
            laid (plantSection s)
                [(1, some s.sup.mode.code), flag s.sup.ac, flag s.meas.mainsQualified, flag s.meas.genPresent,
                  flag s.sup.hold.isSome, (1, s.sup.hold.map fun h => h.cause.code),
                  (2, s.sup.hold.map fun h => h.left / 60), (1, some s.link.address), flag s.link.strapFault,
                  (1, some s.sup.startKind.code), (1, some s.sup.startCause.code), (1, some s.link.rate)] ∧
              laid (chargeSection s)
                [(1, some s.charge.stage.code), (2, some s.charge.setpoint), (2, some s.charge.ibl), two s.charge.tb,
                  two s.charge.tc, flag s.charge.latch, (1, held .bulk s.charge.absorbCount),
                  (2, held .absorb s.charge.tailCount), (4, held .absorb s.charge.absorbTimer), flag s.charge.armed,
                  (1, some e.state.code),
                  (2, if e.state = .running ∨ e.state = .suspended then some (e.remaining / 60) else none),
                  (2, some e.dayCount), (2, some e.daysWaiting), (1, s.charge.test.map TestRec.target),
                  (2, s.charge.test.map fun y => y.elapsed / 60)] ∧
              laid (protectionSection s)
                [(1, some p.nel.code), (1, p.shedCause.map ShedCause.code), (1, some p.bpd.code), (2, some p.shedCount),
                  (2, some p.nelCount), (2, some p.disconnectCount), (2, some p.bpdCount), (1, some p.dischargeCount)] ∧
              laid (rosterSection s)
                [(1, some s.nUp), (1, some s.nDown), (1, some s.rect.running.length), (2, some s.rect.im),
                  (1, some (s.fittedSlots.filter fun i => (s.slot i).state == .standby || (s.slot i).state == .starting ||
                    (s.slot i).state == .running).length),
                  (1, if g.machine = .online then some s.nGen else none), (1, w.map Swap.incoming),
                  (1, w.map Swap.outgoing), (1, w.map fun y => y.phase.code),
                  (2, w.bind fun y => if y.phase = .overlap then some y.overlap else none),
                  (1, s.rect.lastSwap.map LastSwap.incoming), (1, s.rect.lastSwap.map LastSwap.outgoing),
                  (1, s.rect.lastSwap.map fun y => y.outcome.code), (4, s.rect.lastSwap.map LastSwap.endTime),
                  (2, some (s.rect.rotation / 3600)),
                  flag (decide (s.inForce 4 6 ≠ 0 ∧ s.inForce 4 6 * 3600 ≤ s.rect.rotation)),
                  flag s.rect.rotationRequest] ∧
              laid (generatorSection s)
                [(1, some g.machine.code), (4, some g.stateCount), (1, g.run.map fun y => y.basis.code),
                  (1, g.run.bind fun y => y.opening.map Basis.code), (1, g.run.map fun y => if y.exMark = true then 1 else 0),
                  (1, g.run.bind fun y =>
                    if y.basis = .manual then some (if y.load = true then 1 else 0) else none),
                  (1, g.run.map Run.attempts), (4, g.run.bind fun y => y.warmupEnd.map fun _ => y.runTime),
                  (2, g.run.bind fun y => y.duration.map fun d => (60 * d - y.durCount.getD 0) / 60),
                  (1, g.failReason.map FailReason.code),
                  (4, if g.machine = .failed then some g.rearmMinutes else none), (2, some g.restCount),
                  flag g.stopHold.isSome, (1, g.stopHold.map fun n => n / 60), flag (causeMainsFail s),
                  flag (causeAccountLow s), flag (causeBusLow s), flag (causeRemote s), flag (causeExercise s),
                  (4, g.mainsFailTimer.map fun n => n / 60), flag g.spent, flag g.fuelLow, flag g.fuelEmpty,
                  flag (decide (g.machine = .online))])) ∧
      NumberedInOrder

/-- With the supply present, and for the requests the receiver LISTENING or COLLECTING: SNAPSHOT answers OK with
a snapshot of age 0 and changes nothing else. For every state that holds the snapshot made in s, at any age, a
read of it answers the kind, the result and the data that the live read answered in s, and with OK carries the
copy's age: READ_MEASURE, READ_STRING, READ_ROSTER, READ_ALARMS and the GENERATOR section; the digest of its
reply ends in that age though the snapshot be dropped before the reply begins (DEDUCED, log 41). A measurement
event at the link unit makes the snapshot one older and drops it at 60, and changes nothing else. SNAPSHOT_DROP
of a snapshot whose age has reached or is one short of 60 leaves none, and of a younger or absent one leaves the
state unchanged. Rules: R199, R200, R201, R205. -/
def Obligations.SnapshotsKeepTheirMoment : Prop :=
  ∀ (a b : Byte) (age : Nat) (s u : State), s.powered = true → u.powered = true →
    u.link.snapshot = some { makeSnapshot s with age := age } →
      let answer := fun (i : Instr) (v : State) =>
        match exec i v with
        | .next t => t.link.inHand
        | .fault _ => none
        | .refused _ => none
      let aged := fun h : InHand => if h.result = .ok then { h with age := some age } else h
      (s.hears = true → exec .snapshot s = .next (holdAnswer 0x0B#8 Answer.ok
          { s with link := { s.link with snapshot := some { makeSnapshot s with age := 0 } } })) ∧
        (s.hears = true → u.hears = true →
          answer (.readMeasure 1#8) u = (answer (.readMeasure 0#8) s).map aged ∧
            answer (.readString 1#8 a) u = (answer (.readString 0#8 a) s).map aged ∧
            answer (.readRoster 1#8 a b) u = (answer (.readRoster 0#8 a b) s).map aged ∧
            answer (.readAlarms 1#8 a b) u = (answer (.readAlarms 0#8 a b) s).map aged ∧
            answer (.status 1#8 4#8) u = (answer (.status 0#8 4#8) s).map aged) ∧
        (∀ h, s.link.inHand = some h → h.age = some age → (digest s h).drop 4 = field 1 age) ∧
        (60 ≤ age + 1 → exec .snapshotDrop u = .next { u with link := { u.link with snapshot := none } }) ∧
        (age + 1 < 60 → exec .snapshotDrop u = .next u) ∧
        (s.link.snapshot = none → exec .snapshotDrop s = .next s) ∧
        linkEvent u = { u with link := { u.link with
          snapshot := if 60 ≤ age + 1 then none else some { makeSnapshot s with age := age + 1 } } } ∧
        (s.link.snapshot = none → linkEvent s = s)

/-- For every state and command that is not a start, a next state has the station address, strap status and link
rate it had. At each of the three starts (POWER_RETURN_START in every state, with the supply standing log 9;
RESET_PIN_START with the supply present; RESTART_WARM_START with the supply present while the reply to a RESTART
is sent, log 27) the address is 12 x band A + band B with both straps from 3000 to 470000 ohms, a boundary
belonging to the higher band, and else 240 with the strap status FAULT. Rules: R196, R198. -/
def Obligations.StationAddressHoldsBetweenStarts : Prop :=
  ∀ (i : Instr) (p : Pins) (a b : Nat) (s : State),
    let from_ := fun n : Nat =>
      [3000, 5600, 8200, 12000, 18000, 27000, 39000, 56000, 82000, 120000, 180000, 270000].getD n 0
    let to_ := fun n : Nat => if n = 11 then 470001 else from_ (n + 1)
    let inBands := a < 12 ∧ b < 12 ∧ from_ a ≤ p.strapA ∧ p.strapA < to_ a ∧ from_ b ≤ p.strapB ∧ p.strapB < to_ b
    let outside := p.strapA < 3000 ∨ 470000 < p.strapA ∨ p.strapB < 3000 ∨ 470000 < p.strapB
    let addressed := fun t : State =>
      (inBands → t.link.address = 12 * a + b ∧ t.link.strapFault = false) ∧
        (outside → t.link.address = 240 ∧ t.link.strapFault = true)
    ((match i with
      | .powerReturnStart _ => False
      | .resetPinStart _ => False
      | .restartWarmStart _ => False
      | _ => True) →
      Leads i s fun t => t.link.address = s.link.address ∧ t.link.strapFault = s.link.strapFault ∧
        t.link.rate = s.link.rate) ∧
      Leads (.powerReturnStart p) s addressed ∧ (s.powered = true → Leads (.resetPinStart p) s addressed) ∧
      (s.powered = true → s.link.restartDue = true → s.link.reply ≠ none → Leads (.restartWarmStart p) s addressed)

/-- With forty alarm records, a placed roster and swap, the queue in order and the fitted count in force, an
event at the scheduler: adds a second to the hours of each fitted slot not ABSENT that reports RUNNING; puts a
STARTING slot at its timeout in FAULT and out of its swap, its recovery begun at that event (log 31), and counts
for the others; returns to service a FAULT slot without counting fault at its recovery time; forms Im. With AC
available it forms n_up and n_down from the demand, the capacities, the spare and minimum counts, the slots then
available and, in ONLINE, n_gen, RECT_SHORTFALL true exactly when the raised count exceeds n_up; an overlap at
its end ends the swap COMPLETED if n_run without the outgoing slot reaches n_up, else ABSORBED, one before it
counts. With no slot STARTING or in FAULT and no swap: with AC not available it starts and stops nothing and
leaves the counts (n_up and n_down the model's choice, log 45); else spacing, dwell, settle and rotation
advance, and, n_run below n_up, the spacing full and a slot STANDBY, it starts the STANDBY slot of fewest hours
and nothing else; else, n_run above both, the dwell full and a hold active (so that no swap follows), it stops a
running slot of most hours; with neither, no hold, the rotation due or requested, the spacing full and a pair,
it begins the swap of the least run STANDBY for the most run RUNNING slot, which uses up a request (log 34).
Slots are taken in ascending number (log 44). In every state n_up and n_down are the counts formed, capped at
n_gen in ONLINE only, and Im as it is formed is Rm in TEST and with n_run at 0, and else the smaller of Rm and
(load + Ibl) / n_run rounded up. Rules: R89, R90, R91, R92, R93, R95, R99, R100, R105, R107, R108, R128. -/
def Obligations.EventsSetTheModuleCount : Prop :=
  ∀ (s : State),
    let least (a b : Nat) := if s.gen.machine = .online then min a b else a
    s.nUp = least s.rect.upFormed (s.now 3 25 / s.now 0 14) ∧
      s.nDown = least s.rect.downFormed (s.now 3 25 / s.now 0 14) ∧
      (s.charge.stage = .test ∨ s.rect.running = [] → s.moduleLimit = s.inForce 0 14) ∧
      (s.charge.stage ≠ .test → s.rect.running ≠ [] → ∀ q,
        s.meas.load + s.charge.ibl ≤ s.rect.running.length * q →
          s.rect.running.length * q < s.meas.load + s.charge.ibl + s.rect.running.length →
            s.moduleLimit = min (s.inForce 0 14) q) ∧
      (s.alarm.records.length = 40 → s.RosterPlaced → s.QueueOrdered → s.SwapPlaced →
        s.rect.fitted = s.inForce 0 15 → s.inForce 0 15 ≤ 12 →
        let w := rectEvent s
        let load := s.meas.load + match s.charge.stage with
          | .bulk => s.charge.ibl
          | .absorb => s.batteryCurrent.toNat
          | .float => s.batteryCurrent.toNat
          | .equalize => s.batteryCurrent.toNat
          | .test => 0
          | .discharge => 0
        let raised := fun percent : Nat =>
          let c := s.inForce 0 14 * percent / 100
          max ((load + c - 1) / c + s.inForce 4 2) (s.inForce 4 3)
        let ready := ((List.range s.rect.fitted).filter fun i =>
          (w.slot i).state == .standby || (w.slot i).state == .starting || (w.slot i).state == .running).length
        let lowered := fun n : Nat => least (min n ready) (s.now 3 25 / s.now 0 14)
        let late := fun i : Nat =>
          i < s.rect.fitted ∧ (s.slot i).state = .starting ∧ s.inForce 4 9 ≤ (s.slot i).startCount + 1
        let clear := fun i : Nat => ((s.slot i).data.any fun d => !countingFault s d) = true
        let spaced := s.inForce 4 4 ≤ s.rect.spacing + 1
        let starts := s.nRun < w.nUp ∧ spaced ∧ s.rect.queue ≠ []
        let stops := max w.nDown w.nUp < s.nRun ∧ s.inForce 4 5 ≤ s.rect.dwell + 1
        let wanted := (s.inForce 4 6 ≠ 0 ∧ s.inForce 4 6 * 3600 ≤ min 2592000 (s.rect.rotation + 1)) ∨
          s.rect.rotationRequest = true
        let fewest := fun i : Nat => ∀ j, j < 12 → (s.slot j).state = .standby → j ≠ i →
          (w.slot i).hours < (w.slot j).hours ∨ (w.slot i).hours = (w.slot j).hours ∧ i < j
        let most := fun o : Nat =>
          ∀ j, j < 12 → (s.slot j).state = .running → (w.slot j).hours ≤ (w.slot o).hours
        let others := fun l : List Nat => ∀ j, j < 12 → j ∉ l → (w.slot j).state = (s.slot j).state
        (∀ i, i < 12 →
          let x := s.slot i
          let runs := i < s.rect.fitted ∧ x.state ≠ .absent ∧ (x.data.any fun d => d.running) = true
          ((w.slot i).hours, (w.slot i).residue) =
            if ¬ runs then (x.hours, x.residue)
            else if 9999999 ≤ x.hours then (x.hours, 0)
            else if 360 ≤ x.residue + 1 then (x.hours + 1, 0)
            else (x.hours, x.residue + 1)) ∧
          w.rect.im = w.moduleLimit ∧ w = { s with rect := w.rect, alarm := w.alarm } ∧
          (∀ i, i < s.rect.fitted → (s.slot i).state = .starting →
            (late i → 1 < s.inForce 4 10 →
              (w.slot i).state = .fault ∧ (w.slot i).faults = min 255 ((s.slot i).faults + 1) ∧
                (clear i → (w.slot i).recovery = 1) ∧ (¬ clear i → (w.slot i).recovery = 0) ∧
                i ∉ w.rect.running ∧ ∀ x, w.rect.swap = some x → x.incoming ≠ i ∧ x.outgoing ≠ i) ∧
              (¬ late i → (w.slot i).state = .starting ∧ (w.slot i).startCount = (s.slot i).startCount + 1 ∨
                (w.slot i).state = .standby ∧ w.nUp < s.nRun)) ∧
          (∀ i, i < s.rect.fitted → (s.slot i).state = .fault →
            let n := (s.slot i).recovery + 1
            (clear i → s.inForce 4 10 ≤ n → (w.slot i).state = .standby ∨ (w.slot i).state = .starting) ∧
              (clear i → n < s.inForce 4 10 → w.slot i = { s.slot i with
                recovery := n, hours := (w.slot i).hours, residue := (w.slot i).residue }) ∧
              (¬ clear i → w.slot i = { s.slot i with hours := (w.slot i).hours, residue := (w.slot i).residue })) ∧
          (s.sup.ac = true →
            w.nUp = lowered (raised (s.inForce 4 0)) ∧ w.nDown = lowered (raised (s.inForce 4 0 - s.inForce 4 1)) ∧
              ((w.record 19).cond = true ↔ w.nUp < raised (s.inForce 4 0)) ∧
              w.rect.settle = min 10 (s.rect.settle + 1) ∧
              ∀ x, s.rect.swap = some x → x.phase = .overlap →
                (s.slot x.outgoing).state = .running →
                  let n := (s.rect.running.filter fun j => decide ¬ late j).length
                  (x.overlap + 1 < s.inForce 4 8 → w.rect.swap = some { x with overlap := x.overlap + 1 }) ∧
                    (s.inForce 4 8 ≤ x.overlap + 1 →
                      w.rect.swap = none ∧ w.rect.rotation = 0 ∧ w.rect.rotationRequest = false ∧
                        w.rect.lastSwap = some
                          { incoming := x.incoming, outgoing := x.outgoing
                            outcome := if w.nUp + 1 ≤ n then .completed else .absorbed, endTime := s.stamp } ∧
                        (w.slot x.outgoing).state = if w.nUp + 1 ≤ n then .standby else .running)) ∧
          ((∀ i, i < 12 → (s.slot i).state ≠ .starting ∧ (s.slot i).state ≠ .fault) → s.rect.swap = none →
            (s.sup.ac = false → others [] ∧ w.rect.running = s.rect.running ∧ (w.record 19).cond = false ∧
              (w.nUp, w.nDown, w.rect.spacing, w.rect.dwell, w.rect.settle, w.rect.rotation) =
                (s.nUp, s.nDown, s.rect.spacing, s.rect.dwell, s.rect.settle, s.rect.rotation)) ∧
              (s.sup.ac = true →
                w.rect.rotation = min 2592000 (s.rect.rotation + 1) ∧
                  (starts → ∃ i, i < 12 ∧ (s.slot i).state = .standby ∧ (w.slot i).state = .starting ∧ fewest i ∧
                    others [i] ∧ w.rect.running = s.rect.running ++ [i] ∧ w.rect.spacing = 0 ∧ w.rect.dwell = 0 ∧
                    w.rect.swap = none) ∧
                  (¬ starts → stops → s.sup.hold ≠ none → ∃ o, o < 12 ∧ o ∈ s.rect.running ∧
                    (w.slot o).state = .standby ∧ most o ∧ others [o] ∧ w.rect.running = s.rect.running.erase o ∧
                    w.rect.dwell = 0 ∧ w.rect.swap = none) ∧
                  (¬ starts → ¬ stops → s.sup.hold = none → wanted → spaced →
                    ∀ i, i < 12 → (s.slot i).state = .standby → fewest i → ∀ o, o < 12 → (s.slot o).state = .running →
                      (∀ j, j < 12 → j ≠ o → (s.slot j).state = .running → (w.slot j).hours < (w.slot o).hours) →
                      (w.slot i).hours + s.inForce 4 7 < (w.slot o).hours →
                      (s.gen.machine = .online → s.nRun < s.now 3 25 / s.now 0 14) →
                        w.rect.swap = some { incoming := i, outgoing := o, phase := .starting, overlap := 0 } ∧
                          (w.slot i).state = .starting ∧ others [i] ∧ w.rect.rotationRequest = false) ∧
                  (¬ starts → ¬ stops → s.sup.hold ≠ none ∨ ¬ wanted ∨ ¬ spaced →
                    others [] ∧ w.rect.running = s.rect.running ∧ w.rect.swap = none))))

end Obligations
end

