-- ==== Sys2Proof/Laws/State.lean ====
section
/-! SUPPORT. What updating one block of the state does to each field, so that no later proof unfolds an update. -/

namespace Sys2Proof.Machine.State

variable (s : State)

/-! ### `onMeas` -/

@[simp] theorem onMeas_pending (f : Meas → Meas) : (s.onMeas f).pending = s.pending := rfl
@[simp] theorem onMeas_powered (f : Meas → Meas) : (s.onMeas f).powered = s.powered := rfl
@[simp] theorem onMeas_markerGood (f : Meas → Meas) : (s.onMeas f).markerGood = s.markerGood := rfl
@[simp] theorem onMeas_meas (f : Meas → Meas) : (s.onMeas f).meas = f s.meas := rfl
@[simp] theorem onMeas_sup (f : Meas → Meas) : (s.onMeas f).sup = s.sup := rfl
@[simp] theorem onMeas_acct (f : Meas → Meas) : (s.onMeas f).acct = s.acct := rfl
@[simp] theorem onMeas_charge (f : Meas → Meas) : (s.onMeas f).charge = s.charge := rfl
@[simp] theorem onMeas_prot (f : Meas → Meas) : (s.onMeas f).prot = s.prot := rfl
@[simp] theorem onMeas_rect (f : Meas → Meas) : (s.onMeas f).rect = s.rect := rfl
@[simp] theorem onMeas_bus (f : Meas → Meas) : (s.onMeas f).bus = s.bus := rfl
@[simp] theorem onMeas_gen (f : Meas → Meas) : (s.onMeas f).gen = s.gen := rfl
@[simp] theorem onMeas_cal (f : Meas → Meas) : (s.onMeas f).cal = s.cal := rfl
@[simp] theorem onMeas_alarm (f : Meas → Meas) : (s.onMeas f).alarm = s.alarm := rfl
@[simp] theorem onMeas_store (f : Meas → Meas) : (s.onMeas f).store = s.store := rfl
@[simp] theorem onMeas_link (f : Meas → Meas) : (s.onMeas f).link = s.link := rfl

/-! ### `onSup` -/

@[simp] theorem onSup_pending (f : Sup → Sup) : (s.onSup f).pending = s.pending := rfl
@[simp] theorem onSup_powered (f : Sup → Sup) : (s.onSup f).powered = s.powered := rfl
@[simp] theorem onSup_markerGood (f : Sup → Sup) : (s.onSup f).markerGood = s.markerGood := rfl
@[simp] theorem onSup_meas (f : Sup → Sup) : (s.onSup f).meas = s.meas := rfl
@[simp] theorem onSup_sup (f : Sup → Sup) : (s.onSup f).sup = f s.sup := rfl
@[simp] theorem onSup_acct (f : Sup → Sup) : (s.onSup f).acct = s.acct := rfl
@[simp] theorem onSup_charge (f : Sup → Sup) : (s.onSup f).charge = s.charge := rfl
@[simp] theorem onSup_prot (f : Sup → Sup) : (s.onSup f).prot = s.prot := rfl
@[simp] theorem onSup_rect (f : Sup → Sup) : (s.onSup f).rect = s.rect := rfl
@[simp] theorem onSup_bus (f : Sup → Sup) : (s.onSup f).bus = s.bus := rfl
@[simp] theorem onSup_gen (f : Sup → Sup) : (s.onSup f).gen = s.gen := rfl
@[simp] theorem onSup_cal (f : Sup → Sup) : (s.onSup f).cal = s.cal := rfl
@[simp] theorem onSup_alarm (f : Sup → Sup) : (s.onSup f).alarm = s.alarm := rfl
@[simp] theorem onSup_store (f : Sup → Sup) : (s.onSup f).store = s.store := rfl
@[simp] theorem onSup_link (f : Sup → Sup) : (s.onSup f).link = s.link := rfl

/-! ### `onAcct` -/

@[simp] theorem onAcct_pending (f : Acct → Acct) : (s.onAcct f).pending = s.pending := rfl
@[simp] theorem onAcct_powered (f : Acct → Acct) : (s.onAcct f).powered = s.powered := rfl
@[simp] theorem onAcct_markerGood (f : Acct → Acct) : (s.onAcct f).markerGood = s.markerGood := rfl
@[simp] theorem onAcct_meas (f : Acct → Acct) : (s.onAcct f).meas = s.meas := rfl
@[simp] theorem onAcct_sup (f : Acct → Acct) : (s.onAcct f).sup = s.sup := rfl
@[simp] theorem onAcct_acct (f : Acct → Acct) : (s.onAcct f).acct = f s.acct := rfl
@[simp] theorem onAcct_charge (f : Acct → Acct) : (s.onAcct f).charge = s.charge := rfl
@[simp] theorem onAcct_prot (f : Acct → Acct) : (s.onAcct f).prot = s.prot := rfl
@[simp] theorem onAcct_rect (f : Acct → Acct) : (s.onAcct f).rect = s.rect := rfl
@[simp] theorem onAcct_bus (f : Acct → Acct) : (s.onAcct f).bus = s.bus := rfl
@[simp] theorem onAcct_gen (f : Acct → Acct) : (s.onAcct f).gen = s.gen := rfl
@[simp] theorem onAcct_cal (f : Acct → Acct) : (s.onAcct f).cal = s.cal := rfl
@[simp] theorem onAcct_alarm (f : Acct → Acct) : (s.onAcct f).alarm = s.alarm := rfl
@[simp] theorem onAcct_store (f : Acct → Acct) : (s.onAcct f).store = s.store := rfl
@[simp] theorem onAcct_link (f : Acct → Acct) : (s.onAcct f).link = s.link := rfl

/-! ### `onCharge` -/

@[simp] theorem onCharge_pending (f : Charge → Charge) : (s.onCharge f).pending = s.pending := rfl
@[simp] theorem onCharge_powered (f : Charge → Charge) : (s.onCharge f).powered = s.powered := rfl
@[simp] theorem onCharge_markerGood (f : Charge → Charge) : (s.onCharge f).markerGood = s.markerGood := rfl
@[simp] theorem onCharge_meas (f : Charge → Charge) : (s.onCharge f).meas = s.meas := rfl
@[simp] theorem onCharge_sup (f : Charge → Charge) : (s.onCharge f).sup = s.sup := rfl
@[simp] theorem onCharge_acct (f : Charge → Charge) : (s.onCharge f).acct = s.acct := rfl
@[simp] theorem onCharge_charge (f : Charge → Charge) : (s.onCharge f).charge = f s.charge := rfl
@[simp] theorem onCharge_prot (f : Charge → Charge) : (s.onCharge f).prot = s.prot := rfl
@[simp] theorem onCharge_rect (f : Charge → Charge) : (s.onCharge f).rect = s.rect := rfl
@[simp] theorem onCharge_bus (f : Charge → Charge) : (s.onCharge f).bus = s.bus := rfl
@[simp] theorem onCharge_gen (f : Charge → Charge) : (s.onCharge f).gen = s.gen := rfl
@[simp] theorem onCharge_cal (f : Charge → Charge) : (s.onCharge f).cal = s.cal := rfl
@[simp] theorem onCharge_alarm (f : Charge → Charge) : (s.onCharge f).alarm = s.alarm := rfl
@[simp] theorem onCharge_store (f : Charge → Charge) : (s.onCharge f).store = s.store := rfl
@[simp] theorem onCharge_link (f : Charge → Charge) : (s.onCharge f).link = s.link := rfl

/-! ### `onProt` -/

@[simp] theorem onProt_pending (f : Prot → Prot) : (s.onProt f).pending = s.pending := rfl
@[simp] theorem onProt_powered (f : Prot → Prot) : (s.onProt f).powered = s.powered := rfl
@[simp] theorem onProt_markerGood (f : Prot → Prot) : (s.onProt f).markerGood = s.markerGood := rfl
@[simp] theorem onProt_meas (f : Prot → Prot) : (s.onProt f).meas = s.meas := rfl
@[simp] theorem onProt_sup (f : Prot → Prot) : (s.onProt f).sup = s.sup := rfl
@[simp] theorem onProt_acct (f : Prot → Prot) : (s.onProt f).acct = s.acct := rfl
@[simp] theorem onProt_charge (f : Prot → Prot) : (s.onProt f).charge = s.charge := rfl
@[simp] theorem onProt_prot (f : Prot → Prot) : (s.onProt f).prot = f s.prot := rfl
@[simp] theorem onProt_rect (f : Prot → Prot) : (s.onProt f).rect = s.rect := rfl
@[simp] theorem onProt_bus (f : Prot → Prot) : (s.onProt f).bus = s.bus := rfl
@[simp] theorem onProt_gen (f : Prot → Prot) : (s.onProt f).gen = s.gen := rfl
@[simp] theorem onProt_cal (f : Prot → Prot) : (s.onProt f).cal = s.cal := rfl
@[simp] theorem onProt_alarm (f : Prot → Prot) : (s.onProt f).alarm = s.alarm := rfl
@[simp] theorem onProt_store (f : Prot → Prot) : (s.onProt f).store = s.store := rfl
@[simp] theorem onProt_link (f : Prot → Prot) : (s.onProt f).link = s.link := rfl

/-! ### `onRect` -/

@[simp] theorem onRect_pending (f : Rect → Rect) : (s.onRect f).pending = s.pending := rfl
@[simp] theorem onRect_powered (f : Rect → Rect) : (s.onRect f).powered = s.powered := rfl
@[simp] theorem onRect_markerGood (f : Rect → Rect) : (s.onRect f).markerGood = s.markerGood := rfl
@[simp] theorem onRect_meas (f : Rect → Rect) : (s.onRect f).meas = s.meas := rfl
@[simp] theorem onRect_sup (f : Rect → Rect) : (s.onRect f).sup = s.sup := rfl
@[simp] theorem onRect_acct (f : Rect → Rect) : (s.onRect f).acct = s.acct := rfl
@[simp] theorem onRect_charge (f : Rect → Rect) : (s.onRect f).charge = s.charge := rfl
@[simp] theorem onRect_prot (f : Rect → Rect) : (s.onRect f).prot = s.prot := rfl
@[simp] theorem onRect_rect (f : Rect → Rect) : (s.onRect f).rect = f s.rect := rfl
@[simp] theorem onRect_bus (f : Rect → Rect) : (s.onRect f).bus = s.bus := rfl
@[simp] theorem onRect_gen (f : Rect → Rect) : (s.onRect f).gen = s.gen := rfl
@[simp] theorem onRect_cal (f : Rect → Rect) : (s.onRect f).cal = s.cal := rfl
@[simp] theorem onRect_alarm (f : Rect → Rect) : (s.onRect f).alarm = s.alarm := rfl
@[simp] theorem onRect_store (f : Rect → Rect) : (s.onRect f).store = s.store := rfl
@[simp] theorem onRect_link (f : Rect → Rect) : (s.onRect f).link = s.link := rfl

/-! ### `onBus` -/

@[simp] theorem onBus_pending (f : Bus → Bus) : (s.onBus f).pending = s.pending := rfl
@[simp] theorem onBus_powered (f : Bus → Bus) : (s.onBus f).powered = s.powered := rfl
@[simp] theorem onBus_markerGood (f : Bus → Bus) : (s.onBus f).markerGood = s.markerGood := rfl
@[simp] theorem onBus_meas (f : Bus → Bus) : (s.onBus f).meas = s.meas := rfl
@[simp] theorem onBus_sup (f : Bus → Bus) : (s.onBus f).sup = s.sup := rfl
@[simp] theorem onBus_acct (f : Bus → Bus) : (s.onBus f).acct = s.acct := rfl
@[simp] theorem onBus_charge (f : Bus → Bus) : (s.onBus f).charge = s.charge := rfl
@[simp] theorem onBus_prot (f : Bus → Bus) : (s.onBus f).prot = s.prot := rfl
@[simp] theorem onBus_rect (f : Bus → Bus) : (s.onBus f).rect = s.rect := rfl
@[simp] theorem onBus_bus (f : Bus → Bus) : (s.onBus f).bus = f s.bus := rfl
@[simp] theorem onBus_gen (f : Bus → Bus) : (s.onBus f).gen = s.gen := rfl
@[simp] theorem onBus_cal (f : Bus → Bus) : (s.onBus f).cal = s.cal := rfl
@[simp] theorem onBus_alarm (f : Bus → Bus) : (s.onBus f).alarm = s.alarm := rfl
@[simp] theorem onBus_store (f : Bus → Bus) : (s.onBus f).store = s.store := rfl
@[simp] theorem onBus_link (f : Bus → Bus) : (s.onBus f).link = s.link := rfl

/-! ### `onGen` -/

@[simp] theorem onGen_pending (f : Gen → Gen) : (s.onGen f).pending = s.pending := rfl
@[simp] theorem onGen_powered (f : Gen → Gen) : (s.onGen f).powered = s.powered := rfl
@[simp] theorem onGen_markerGood (f : Gen → Gen) : (s.onGen f).markerGood = s.markerGood := rfl
@[simp] theorem onGen_meas (f : Gen → Gen) : (s.onGen f).meas = s.meas := rfl
@[simp] theorem onGen_sup (f : Gen → Gen) : (s.onGen f).sup = s.sup := rfl
@[simp] theorem onGen_acct (f : Gen → Gen) : (s.onGen f).acct = s.acct := rfl
@[simp] theorem onGen_charge (f : Gen → Gen) : (s.onGen f).charge = s.charge := rfl
@[simp] theorem onGen_prot (f : Gen → Gen) : (s.onGen f).prot = s.prot := rfl
@[simp] theorem onGen_rect (f : Gen → Gen) : (s.onGen f).rect = s.rect := rfl
@[simp] theorem onGen_bus (f : Gen → Gen) : (s.onGen f).bus = s.bus := rfl
@[simp] theorem onGen_gen (f : Gen → Gen) : (s.onGen f).gen = f s.gen := rfl
@[simp] theorem onGen_cal (f : Gen → Gen) : (s.onGen f).cal = s.cal := rfl
@[simp] theorem onGen_alarm (f : Gen → Gen) : (s.onGen f).alarm = s.alarm := rfl
@[simp] theorem onGen_store (f : Gen → Gen) : (s.onGen f).store = s.store := rfl
@[simp] theorem onGen_link (f : Gen → Gen) : (s.onGen f).link = s.link := rfl

/-! ### `onCal` -/

@[simp] theorem onCal_pending (f : Cal → Cal) : (s.onCal f).pending = s.pending := rfl
@[simp] theorem onCal_powered (f : Cal → Cal) : (s.onCal f).powered = s.powered := rfl
@[simp] theorem onCal_markerGood (f : Cal → Cal) : (s.onCal f).markerGood = s.markerGood := rfl
@[simp] theorem onCal_meas (f : Cal → Cal) : (s.onCal f).meas = s.meas := rfl
@[simp] theorem onCal_sup (f : Cal → Cal) : (s.onCal f).sup = s.sup := rfl
@[simp] theorem onCal_acct (f : Cal → Cal) : (s.onCal f).acct = s.acct := rfl
@[simp] theorem onCal_charge (f : Cal → Cal) : (s.onCal f).charge = s.charge := rfl
@[simp] theorem onCal_prot (f : Cal → Cal) : (s.onCal f).prot = s.prot := rfl
@[simp] theorem onCal_rect (f : Cal → Cal) : (s.onCal f).rect = s.rect := rfl
@[simp] theorem onCal_bus (f : Cal → Cal) : (s.onCal f).bus = s.bus := rfl
@[simp] theorem onCal_gen (f : Cal → Cal) : (s.onCal f).gen = s.gen := rfl
@[simp] theorem onCal_cal (f : Cal → Cal) : (s.onCal f).cal = f s.cal := rfl
@[simp] theorem onCal_alarm (f : Cal → Cal) : (s.onCal f).alarm = s.alarm := rfl
@[simp] theorem onCal_store (f : Cal → Cal) : (s.onCal f).store = s.store := rfl
@[simp] theorem onCal_link (f : Cal → Cal) : (s.onCal f).link = s.link := rfl

/-! ### `onAlarm` -/

@[simp] theorem onAlarm_pending (f : Alarm → Alarm) : (s.onAlarm f).pending = s.pending := rfl
@[simp] theorem onAlarm_powered (f : Alarm → Alarm) : (s.onAlarm f).powered = s.powered := rfl
@[simp] theorem onAlarm_markerGood (f : Alarm → Alarm) : (s.onAlarm f).markerGood = s.markerGood := rfl
@[simp] theorem onAlarm_meas (f : Alarm → Alarm) : (s.onAlarm f).meas = s.meas := rfl
@[simp] theorem onAlarm_sup (f : Alarm → Alarm) : (s.onAlarm f).sup = s.sup := rfl
@[simp] theorem onAlarm_acct (f : Alarm → Alarm) : (s.onAlarm f).acct = s.acct := rfl
@[simp] theorem onAlarm_charge (f : Alarm → Alarm) : (s.onAlarm f).charge = s.charge := rfl
@[simp] theorem onAlarm_prot (f : Alarm → Alarm) : (s.onAlarm f).prot = s.prot := rfl
@[simp] theorem onAlarm_rect (f : Alarm → Alarm) : (s.onAlarm f).rect = s.rect := rfl
@[simp] theorem onAlarm_bus (f : Alarm → Alarm) : (s.onAlarm f).bus = s.bus := rfl
@[simp] theorem onAlarm_gen (f : Alarm → Alarm) : (s.onAlarm f).gen = s.gen := rfl
@[simp] theorem onAlarm_cal (f : Alarm → Alarm) : (s.onAlarm f).cal = s.cal := rfl
@[simp] theorem onAlarm_alarm (f : Alarm → Alarm) : (s.onAlarm f).alarm = f s.alarm := rfl
@[simp] theorem onAlarm_store (f : Alarm → Alarm) : (s.onAlarm f).store = s.store := rfl
@[simp] theorem onAlarm_link (f : Alarm → Alarm) : (s.onAlarm f).link = s.link := rfl

/-! ### `onStore` -/

@[simp] theorem onStore_pending (f : Store → Store) : (s.onStore f).pending = s.pending := rfl
@[simp] theorem onStore_powered (f : Store → Store) : (s.onStore f).powered = s.powered := rfl
@[simp] theorem onStore_markerGood (f : Store → Store) : (s.onStore f).markerGood = s.markerGood := rfl
@[simp] theorem onStore_meas (f : Store → Store) : (s.onStore f).meas = s.meas := rfl
@[simp] theorem onStore_sup (f : Store → Store) : (s.onStore f).sup = s.sup := rfl
@[simp] theorem onStore_acct (f : Store → Store) : (s.onStore f).acct = s.acct := rfl
@[simp] theorem onStore_charge (f : Store → Store) : (s.onStore f).charge = s.charge := rfl
@[simp] theorem onStore_prot (f : Store → Store) : (s.onStore f).prot = s.prot := rfl
@[simp] theorem onStore_rect (f : Store → Store) : (s.onStore f).rect = s.rect := rfl
@[simp] theorem onStore_bus (f : Store → Store) : (s.onStore f).bus = s.bus := rfl
@[simp] theorem onStore_gen (f : Store → Store) : (s.onStore f).gen = s.gen := rfl
@[simp] theorem onStore_cal (f : Store → Store) : (s.onStore f).cal = s.cal := rfl
@[simp] theorem onStore_alarm (f : Store → Store) : (s.onStore f).alarm = s.alarm := rfl
@[simp] theorem onStore_store (f : Store → Store) : (s.onStore f).store = f s.store := rfl
@[simp] theorem onStore_link (f : Store → Store) : (s.onStore f).link = s.link := rfl

/-! ### `onLink` -/

@[simp] theorem onLink_pending (f : Link → Link) : (s.onLink f).pending = s.pending := rfl
@[simp] theorem onLink_powered (f : Link → Link) : (s.onLink f).powered = s.powered := rfl
@[simp] theorem onLink_markerGood (f : Link → Link) : (s.onLink f).markerGood = s.markerGood := rfl
@[simp] theorem onLink_meas (f : Link → Link) : (s.onLink f).meas = s.meas := rfl
@[simp] theorem onLink_sup (f : Link → Link) : (s.onLink f).sup = s.sup := rfl
@[simp] theorem onLink_acct (f : Link → Link) : (s.onLink f).acct = s.acct := rfl
@[simp] theorem onLink_charge (f : Link → Link) : (s.onLink f).charge = s.charge := rfl
@[simp] theorem onLink_prot (f : Link → Link) : (s.onLink f).prot = s.prot := rfl
@[simp] theorem onLink_rect (f : Link → Link) : (s.onLink f).rect = s.rect := rfl
@[simp] theorem onLink_bus (f : Link → Link) : (s.onLink f).bus = s.bus := rfl
@[simp] theorem onLink_gen (f : Link → Link) : (s.onLink f).gen = s.gen := rfl
@[simp] theorem onLink_cal (f : Link → Link) : (s.onLink f).cal = s.cal := rfl
@[simp] theorem onLink_alarm (f : Link → Link) : (s.onLink f).alarm = s.alarm := rfl
@[simp] theorem onLink_store (f : Link → Link) : (s.onLink f).store = s.store := rfl
@[simp] theorem onLink_link (f : Link → Link) : (s.onLink f).link = f s.link := rfl

end Sys2Proof.Machine.State
end

