-- ==== Sys2Proof/Laws/Frames.lean ====
section
/-! SUPPORT. Which blocks of the state each shared operation leaves as they were: one lemma per operation, so that a
proof about a command need not unfold the operations it does not speak of. -/

namespace Sys2Proof.Machine

@[simp] theorem foldl_pending {α : Type} (f : State → α → State) (l : List α) (s : State)
    (h : ∀ s a, (f s a).pending = s.pending) : (l.foldl f s).pending = s.pending := by
  induction l generalizing s with
  | nil => rfl
  | cons a l ih => simp [ih, h]

@[simp] theorem ite_pending (c : Prop) [Decidable c] (a b : State) :
    (if c then a else b).pending = if c then a.pending else b.pending := by split <;> rfl

@[simp] theorem foldl_powered {α : Type} (f : State → α → State) (l : List α) (s : State)
    (h : ∀ s a, (f s a).powered = s.powered) : (l.foldl f s).powered = s.powered := by
  induction l generalizing s with
  | nil => rfl
  | cons a l ih => simp [ih, h]

@[simp] theorem ite_powered (c : Prop) [Decidable c] (a b : State) :
    (if c then a else b).powered = if c then a.powered else b.powered := by split <;> rfl

@[simp] theorem foldl_markerGood {α : Type} (f : State → α → State) (l : List α) (s : State)
    (h : ∀ s a, (f s a).markerGood = s.markerGood) : (l.foldl f s).markerGood = s.markerGood := by
  induction l generalizing s with
  | nil => rfl
  | cons a l ih => simp [ih, h]

@[simp] theorem ite_markerGood (c : Prop) [Decidable c] (a b : State) :
    (if c then a else b).markerGood = if c then a.markerGood else b.markerGood := by split <;> rfl

@[simp] theorem foldl_meas {α : Type} (f : State → α → State) (l : List α) (s : State)
    (h : ∀ s a, (f s a).meas = s.meas) : (l.foldl f s).meas = s.meas := by
  induction l generalizing s with
  | nil => rfl
  | cons a l ih => simp [ih, h]

@[simp] theorem ite_meas (c : Prop) [Decidable c] (a b : State) :
    (if c then a else b).meas = if c then a.meas else b.meas := by split <;> rfl

@[simp] theorem foldl_sup {α : Type} (f : State → α → State) (l : List α) (s : State)
    (h : ∀ s a, (f s a).sup = s.sup) : (l.foldl f s).sup = s.sup := by
  induction l generalizing s with
  | nil => rfl
  | cons a l ih => simp [ih, h]

@[simp] theorem ite_sup (c : Prop) [Decidable c] (a b : State) :
    (if c then a else b).sup = if c then a.sup else b.sup := by split <;> rfl

@[simp] theorem foldl_acct {α : Type} (f : State → α → State) (l : List α) (s : State)
    (h : ∀ s a, (f s a).acct = s.acct) : (l.foldl f s).acct = s.acct := by
  induction l generalizing s with
  | nil => rfl
  | cons a l ih => simp [ih, h]

@[simp] theorem ite_acct (c : Prop) [Decidable c] (a b : State) :
    (if c then a else b).acct = if c then a.acct else b.acct := by split <;> rfl

@[simp] theorem foldl_charge {α : Type} (f : State → α → State) (l : List α) (s : State)
    (h : ∀ s a, (f s a).charge = s.charge) : (l.foldl f s).charge = s.charge := by
  induction l generalizing s with
  | nil => rfl
  | cons a l ih => simp [ih, h]

@[simp] theorem ite_charge (c : Prop) [Decidable c] (a b : State) :
    (if c then a else b).charge = if c then a.charge else b.charge := by split <;> rfl

@[simp] theorem foldl_prot {α : Type} (f : State → α → State) (l : List α) (s : State)
    (h : ∀ s a, (f s a).prot = s.prot) : (l.foldl f s).prot = s.prot := by
  induction l generalizing s with
  | nil => rfl
  | cons a l ih => simp [ih, h]

@[simp] theorem ite_prot (c : Prop) [Decidable c] (a b : State) :
    (if c then a else b).prot = if c then a.prot else b.prot := by split <;> rfl

@[simp] theorem foldl_rect {α : Type} (f : State → α → State) (l : List α) (s : State)
    (h : ∀ s a, (f s a).rect = s.rect) : (l.foldl f s).rect = s.rect := by
  induction l generalizing s with
  | nil => rfl
  | cons a l ih => simp [ih, h]

@[simp] theorem ite_rect (c : Prop) [Decidable c] (a b : State) :
    (if c then a else b).rect = if c then a.rect else b.rect := by split <;> rfl

@[simp] theorem foldl_bus {α : Type} (f : State → α → State) (l : List α) (s : State)
    (h : ∀ s a, (f s a).bus = s.bus) : (l.foldl f s).bus = s.bus := by
  induction l generalizing s with
  | nil => rfl
  | cons a l ih => simp [ih, h]

@[simp] theorem ite_bus (c : Prop) [Decidable c] (a b : State) :
    (if c then a else b).bus = if c then a.bus else b.bus := by split <;> rfl

@[simp] theorem foldl_gen {α : Type} (f : State → α → State) (l : List α) (s : State)
    (h : ∀ s a, (f s a).gen = s.gen) : (l.foldl f s).gen = s.gen := by
  induction l generalizing s with
  | nil => rfl
  | cons a l ih => simp [ih, h]

@[simp] theorem ite_gen (c : Prop) [Decidable c] (a b : State) :
    (if c then a else b).gen = if c then a.gen else b.gen := by split <;> rfl

@[simp] theorem foldl_cal {α : Type} (f : State → α → State) (l : List α) (s : State)
    (h : ∀ s a, (f s a).cal = s.cal) : (l.foldl f s).cal = s.cal := by
  induction l generalizing s with
  | nil => rfl
  | cons a l ih => simp [ih, h]

@[simp] theorem ite_cal (c : Prop) [Decidable c] (a b : State) :
    (if c then a else b).cal = if c then a.cal else b.cal := by split <;> rfl

@[simp] theorem foldl_alarm {α : Type} (f : State → α → State) (l : List α) (s : State)
    (h : ∀ s a, (f s a).alarm = s.alarm) : (l.foldl f s).alarm = s.alarm := by
  induction l generalizing s with
  | nil => rfl
  | cons a l ih => simp [ih, h]

@[simp] theorem ite_alarm (c : Prop) [Decidable c] (a b : State) :
    (if c then a else b).alarm = if c then a.alarm else b.alarm := by split <;> rfl

@[simp] theorem foldl_store {α : Type} (f : State → α → State) (l : List α) (s : State)
    (h : ∀ s a, (f s a).store = s.store) : (l.foldl f s).store = s.store := by
  induction l generalizing s with
  | nil => rfl
  | cons a l ih => simp [ih, h]

@[simp] theorem ite_store (c : Prop) [Decidable c] (a b : State) :
    (if c then a else b).store = if c then a.store else b.store := by split <;> rfl

@[simp] theorem foldl_link {α : Type} (f : State → α → State) (l : List α) (s : State)
    (h : ∀ s a, (f s a).link = s.link) : (l.foldl f s).link = s.link := by
  induction l generalizing s with
  | nil => rfl
  | cons a l ih => simp [ih, h]

@[simp] theorem ite_link (c : Prop) [Decidable c] (a b : State) :
    (if c then a else b).link = if c then a.link else b.link := by split <;> rfl

@[simp] theorem post_frame (kind : NoticeKind) (subject value : Nat) (s : State) :
    (post kind subject value s).pending = s.pending ∧ (post kind subject value s).powered = s.powered ∧
    (post kind subject value s).markerGood = s.markerGood ∧ (post kind subject value s).meas = s.meas ∧
    (post kind subject value s).sup = s.sup ∧ (post kind subject value s).acct = s.acct ∧
    (post kind subject value s).charge = s.charge ∧ (post kind subject value s).prot = s.prot ∧
    (post kind subject value s).rect = s.rect ∧ (post kind subject value s).bus = s.bus ∧
    (post kind subject value s).gen = s.gen ∧ (post kind subject value s).cal = s.cal ∧
    (post kind subject value s).store = s.store ∧ (post kind subject value s).link = s.link := by
  simp [post]

@[simp] theorem changeRecord_frame (c : Nat) (r : AlarmRec) (s : State) :
    (changeRecord c r s).pending = s.pending ∧ (changeRecord c r s).powered = s.powered ∧
    (changeRecord c r s).markerGood = s.markerGood ∧ (changeRecord c r s).meas = s.meas ∧
    (changeRecord c r s).sup = s.sup ∧ (changeRecord c r s).acct = s.acct ∧
    (changeRecord c r s).charge = s.charge ∧ (changeRecord c r s).prot = s.prot ∧
    (changeRecord c r s).rect = s.rect ∧ (changeRecord c r s).bus = s.bus ∧ (changeRecord c r s).gen = s.gen ∧
    (changeRecord c r s).cal = s.cal ∧ (changeRecord c r s).store = s.store ∧ (changeRecord c r s).link = s.link := by
  simp [changeRecord]

@[simp] theorem raiseAlarm_frame (c : Nat) (s : State) :
    (raiseAlarm c s).pending = s.pending ∧ (raiseAlarm c s).powered = s.powered ∧
    (raiseAlarm c s).markerGood = s.markerGood ∧ (raiseAlarm c s).meas = s.meas ∧ (raiseAlarm c s).sup = s.sup ∧
    (raiseAlarm c s).acct = s.acct ∧ (raiseAlarm c s).charge = s.charge ∧ (raiseAlarm c s).prot = s.prot ∧
    (raiseAlarm c s).rect = s.rect ∧ (raiseAlarm c s).bus = s.bus ∧ (raiseAlarm c s).gen = s.gen ∧
    (raiseAlarm c s).cal = s.cal ∧ (raiseAlarm c s).store = s.store ∧ (raiseAlarm c s).link = s.link := by
  simp [raiseAlarm]

@[simp] theorem clearAlarm_frame (c : Nat) (s : State) :
    (clearAlarm c s).pending = s.pending ∧ (clearAlarm c s).powered = s.powered ∧
    (clearAlarm c s).markerGood = s.markerGood ∧ (clearAlarm c s).meas = s.meas ∧ (clearAlarm c s).sup = s.sup ∧
    (clearAlarm c s).acct = s.acct ∧ (clearAlarm c s).charge = s.charge ∧ (clearAlarm c s).prot = s.prot ∧
    (clearAlarm c s).rect = s.rect ∧ (clearAlarm c s).bus = s.bus ∧ (clearAlarm c s).gen = s.gen ∧
    (clearAlarm c s).cal = s.cal ∧ (clearAlarm c s).store = s.store ∧ (clearAlarm c s).link = s.link := by
  simp [clearAlarm]

@[simp] theorem settle_frame (c : Nat) (s : State) :
    (settle c s).pending = s.pending ∧ (settle c s).powered = s.powered ∧
    (settle c s).markerGood = s.markerGood ∧ (settle c s).meas = s.meas ∧ (settle c s).sup = s.sup ∧
    (settle c s).acct = s.acct ∧ (settle c s).charge = s.charge ∧ (settle c s).prot = s.prot ∧
    (settle c s).rect = s.rect ∧ (settle c s).bus = s.bus ∧ (settle c s).gen = s.gen ∧
    (settle c s).cal = s.cal ∧ (settle c s).store = s.store ∧ (settle c s).link = s.link := by
  simp [settle]

@[simp] theorem report_frame (c : Nat) (v : Bool) (s : State) :
    (report c v s).pending = s.pending ∧ (report c v s).powered = s.powered ∧
    (report c v s).markerGood = s.markerGood ∧ (report c v s).meas = s.meas ∧ (report c v s).sup = s.sup ∧
    (report c v s).acct = s.acct ∧ (report c v s).charge = s.charge ∧ (report c v s).prot = s.prot ∧
    (report c v s).rect = s.rect ∧ (report c v s).bus = s.bus ∧ (report c v s).gen = s.gen ∧
    (report c v s).cal = s.cal ∧ (report c v s).store = s.store ∧ (report c v s).link = s.link := by
  simp [report]

@[simp] theorem ackRecord_frame (c : Nat) (s : State) :
    (ackRecord c s).pending = s.pending ∧ (ackRecord c s).powered = s.powered ∧
    (ackRecord c s).markerGood = s.markerGood ∧ (ackRecord c s).meas = s.meas ∧ (ackRecord c s).sup = s.sup ∧
    (ackRecord c s).acct = s.acct ∧ (ackRecord c s).charge = s.charge ∧ (ackRecord c s).prot = s.prot ∧
    (ackRecord c s).rect = s.rect ∧ (ackRecord c s).bus = s.bus ∧ (ackRecord c s).gen = s.gen ∧
    (ackRecord c s).cal = s.cal ∧ (ackRecord c s).store = s.store ∧ (ackRecord c s).link = s.link := by
  refine ⟨?_, ?_, ?_, ?_, ?_, ?_, ?_, ?_, ?_, ?_, ?_, ?_, ?_, ?_⟩ <;> (unfold ackRecord; dsimp only; (repeat' split) <;> simp)

@[simp] theorem unlatchRecord_frame (c : Nat) (s : State) :
    (unlatchRecord c s).pending = s.pending ∧ (unlatchRecord c s).powered = s.powered ∧
    (unlatchRecord c s).markerGood = s.markerGood ∧ (unlatchRecord c s).meas = s.meas ∧
    (unlatchRecord c s).sup = s.sup ∧ (unlatchRecord c s).acct = s.acct ∧
    (unlatchRecord c s).charge = s.charge ∧ (unlatchRecord c s).prot = s.prot ∧
    (unlatchRecord c s).rect = s.rect ∧ (unlatchRecord c s).bus = s.bus ∧ (unlatchRecord c s).gen = s.gen ∧
    (unlatchRecord c s).cal = s.cal ∧ (unlatchRecord c s).store = s.store ∧ (unlatchRecord c s).link = s.link := by
  simp [unlatchRecord]

@[simp] theorem qualify_frame (c : Nat) (s : State) :
    (qualify c s).pending = s.pending ∧ (qualify c s).powered = s.powered ∧
    (qualify c s).markerGood = s.markerGood ∧ (qualify c s).meas = s.meas ∧ (qualify c s).sup = s.sup ∧
    (qualify c s).acct = s.acct ∧ (qualify c s).charge = s.charge ∧ (qualify c s).prot = s.prot ∧
    (qualify c s).rect = s.rect ∧ (qualify c s).bus = s.bus ∧ (qualify c s).gen = s.gen ∧
    (qualify c s).cal = s.cal ∧ (qualify c s).store = s.store ∧ (qualify c s).link = s.link := by
  simp [qualify]

@[simp] theorem firstUnlatch_frame (c : Nat) (s : State) :
    (firstUnlatch c s).pending = s.pending ∧ (firstUnlatch c s).powered = s.powered ∧
    (firstUnlatch c s).markerGood = s.markerGood ∧ (firstUnlatch c s).meas = s.meas ∧
    (firstUnlatch c s).sup = s.sup ∧ (firstUnlatch c s).acct = s.acct ∧
    (firstUnlatch c s).charge = s.charge ∧ (firstUnlatch c s).prot = s.prot ∧
    (firstUnlatch c s).rect = s.rect ∧ (firstUnlatch c s).bus = s.bus ∧ (firstUnlatch c s).gen = s.gen ∧
    (firstUnlatch c s).cal = s.cal ∧ (firstUnlatch c s).store = s.store ∧ (firstUnlatch c s).link = s.link := by
  unfold firstUnlatch; split <;> simp

@[simp] theorem beginEvaluation_frame (s : State) :
    (beginEvaluation s).pending = s.pending ∧ (beginEvaluation s).powered = s.powered ∧
    (beginEvaluation s).markerGood = s.markerGood ∧ (beginEvaluation s).meas = s.meas ∧
    (beginEvaluation s).sup = s.sup ∧ (beginEvaluation s).acct = s.acct ∧
    (beginEvaluation s).charge = s.charge ∧ (beginEvaluation s).prot = s.prot ∧
    (beginEvaluation s).rect = s.rect ∧ (beginEvaluation s).bus = s.bus ∧ (beginEvaluation s).gen = s.gen ∧
    (beginEvaluation s).cal = s.cal ∧ (beginEvaluation s).store = s.store ∧ (beginEvaluation s).link = s.link := by
  simp [beginEvaluation]

@[simp] theorem alarmEvent_frame (s : State) :
    (alarmEvent s).pending = s.pending ∧ (alarmEvent s).powered = s.powered ∧
    (alarmEvent s).markerGood = s.markerGood ∧ (alarmEvent s).meas = s.meas ∧ (alarmEvent s).sup = s.sup ∧
    (alarmEvent s).acct = s.acct ∧ (alarmEvent s).charge = s.charge ∧ (alarmEvent s).prot = s.prot ∧
    (alarmEvent s).rect = s.rect ∧ (alarmEvent s).bus = s.bus ∧ (alarmEvent s).gen = s.gen ∧
    (alarmEvent s).cal = s.cal ∧ (alarmEvent s).store = s.store ∧ (alarmEvent s).link = s.link := by
  unfold alarmEvent; split <;> simp

@[simp] theorem refitStrings_frame (s : State) :
    (refitStrings s).pending = s.pending ∧ (refitStrings s).powered = s.powered ∧
    (refitStrings s).markerGood = s.markerGood ∧ (refitStrings s).meas = s.meas ∧ (refitStrings s).sup = s.sup ∧
    (refitStrings s).charge = s.charge ∧ (refitStrings s).prot = s.prot ∧ (refitStrings s).rect = s.rect ∧
    (refitStrings s).bus = s.bus ∧ (refitStrings s).gen = s.gen ∧ (refitStrings s).cal = s.cal ∧
    (refitStrings s).alarm = s.alarm ∧ (refitStrings s).store = s.store ∧ (refitStrings s).link = s.link := by
  simp [refitStrings]

@[simp] theorem mapStrings_frame (f : Nat → StringRec → StringRec) (s : State) :
    (mapStrings f s).pending = s.pending ∧ (mapStrings f s).powered = s.powered ∧
    (mapStrings f s).markerGood = s.markerGood ∧ (mapStrings f s).meas = s.meas ∧ (mapStrings f s).sup = s.sup ∧
    (mapStrings f s).charge = s.charge ∧ (mapStrings f s).prot = s.prot ∧ (mapStrings f s).rect = s.rect ∧
    (mapStrings f s).bus = s.bus ∧ (mapStrings f s).gen = s.gen ∧ (mapStrings f s).cal = s.cal ∧
    (mapStrings f s).alarm = s.alarm ∧ (mapStrings f s).store = s.store ∧ (mapStrings f s).link = s.link := by
  simp [mapStrings]

@[simp] theorem accountIntegrate_frame (s : State) :
    (accountIntegrate s).pending = s.pending ∧ (accountIntegrate s).powered = s.powered ∧
    (accountIntegrate s).markerGood = s.markerGood ∧ (accountIntegrate s).meas = s.meas ∧
    (accountIntegrate s).sup = s.sup ∧ (accountIntegrate s).charge = s.charge ∧
    (accountIntegrate s).prot = s.prot ∧ (accountIntegrate s).rect = s.rect ∧ (accountIntegrate s).bus = s.bus ∧
    (accountIntegrate s).gen = s.gen ∧ (accountIntegrate s).cal = s.cal ∧ (accountIntegrate s).alarm = s.alarm ∧
    (accountIntegrate s).store = s.store ∧ (accountIntegrate s).link = s.link := by
  simp [accountIntegrate]

@[simp] theorem accountReport_frame (s : State) :
    (accountReport s).pending = s.pending ∧ (accountReport s).powered = s.powered ∧
    (accountReport s).markerGood = s.markerGood ∧ (accountReport s).meas = s.meas ∧
    (accountReport s).sup = s.sup ∧ (accountReport s).acct = s.acct ∧ (accountReport s).charge = s.charge ∧
    (accountReport s).prot = s.prot ∧ (accountReport s).rect = s.rect ∧ (accountReport s).bus = s.bus ∧
    (accountReport s).gen = s.gen ∧ (accountReport s).cal = s.cal ∧ (accountReport s).store = s.store ∧
    (accountReport s).link = s.link := by
  simp [accountReport]

@[simp] theorem fullCharge_frame (s : State) :
    (fullCharge s).pending = s.pending ∧ (fullCharge s).powered = s.powered ∧
    (fullCharge s).markerGood = s.markerGood ∧ (fullCharge s).meas = s.meas ∧ (fullCharge s).sup = s.sup ∧
    (fullCharge s).charge = s.charge ∧ (fullCharge s).prot = s.prot ∧ (fullCharge s).rect = s.rect ∧
    (fullCharge s).bus = s.bus ∧ (fullCharge s).gen = s.gen ∧ (fullCharge s).cal = s.cal ∧
    (fullCharge s).alarm = s.alarm ∧ (fullCharge s).store = s.store ∧ (fullCharge s).link = s.link := by
  simp [fullCharge]

@[simp] theorem beginCounts_frame (s : State) :
    (beginCounts s).pending = s.pending ∧ (beginCounts s).powered = s.powered ∧
    (beginCounts s).markerGood = s.markerGood ∧ (beginCounts s).meas = s.meas ∧ (beginCounts s).sup = s.sup ∧
    (beginCounts s).charge = s.charge ∧ (beginCounts s).prot = s.prot ∧ (beginCounts s).rect = s.rect ∧
    (beginCounts s).bus = s.bus ∧ (beginCounts s).gen = s.gen ∧ (beginCounts s).cal = s.cal ∧
    (beginCounts s).alarm = s.alarm ∧ (beginCounts s).store = s.store ∧ (beginCounts s).link = s.link := by
  simp [beginCounts]

@[simp] theorem writeResults_frame (outcome : TestOutcome) (target minutes : Nat) (s : State) :
    (writeResults outcome target minutes s).pending = s.pending ∧
    (writeResults outcome target minutes s).powered = s.powered ∧
    (writeResults outcome target minutes s).markerGood = s.markerGood ∧
    (writeResults outcome target minutes s).meas = s.meas ∧
    (writeResults outcome target minutes s).sup = s.sup ∧
    (writeResults outcome target minutes s).charge = s.charge ∧
    (writeResults outcome target minutes s).prot = s.prot ∧
    (writeResults outcome target minutes s).rect = s.rect ∧
    (writeResults outcome target minutes s).bus = s.bus ∧ (writeResults outcome target minutes s).gen = s.gen ∧
    (writeResults outcome target minutes s).cal = s.cal ∧
    (writeResults outcome target minutes s).alarm = s.alarm ∧
    (writeResults outcome target minutes s).store = s.store ∧
    (writeResults outcome target minutes s).link = s.link := by
  simp [writeResults]

@[simp] theorem clearCounts_frame (s : State) :
    (clearCounts s).pending = s.pending ∧ (clearCounts s).powered = s.powered ∧
    (clearCounts s).markerGood = s.markerGood ∧ (clearCounts s).meas = s.meas ∧ (clearCounts s).sup = s.sup ∧
    (clearCounts s).charge = s.charge ∧ (clearCounts s).prot = s.prot ∧ (clearCounts s).rect = s.rect ∧
    (clearCounts s).bus = s.bus ∧ (clearCounts s).gen = s.gen ∧ (clearCounts s).cal = s.cal ∧
    (clearCounts s).alarm = s.alarm ∧ (clearCounts s).store = s.store ∧ (clearCounts s).link = s.link := by
  simp [clearCounts]

@[simp] theorem makeUnsync_frame (n : Nat) (s : State) :
    (makeUnsync n s).pending = s.pending ∧ (makeUnsync n s).powered = s.powered ∧
    (makeUnsync n s).markerGood = s.markerGood ∧ (makeUnsync n s).meas = s.meas ∧ (makeUnsync n s).sup = s.sup ∧
    (makeUnsync n s).charge = s.charge ∧ (makeUnsync n s).prot = s.prot ∧ (makeUnsync n s).rect = s.rect ∧
    (makeUnsync n s).bus = s.bus ∧ (makeUnsync n s).gen = s.gen ∧ (makeUnsync n s).cal = s.cal ∧
    (makeUnsync n s).alarm = s.alarm ∧ (makeUnsync n s).store = s.store ∧ (makeUnsync n s).link = s.link := by
  simp [makeUnsync]

@[simp] theorem coldStrings_frame (s : State) :
    (coldStrings s).pending = s.pending ∧ (coldStrings s).powered = s.powered ∧
    (coldStrings s).markerGood = s.markerGood ∧ (coldStrings s).meas = s.meas ∧ (coldStrings s).sup = s.sup ∧
    (coldStrings s).charge = s.charge ∧ (coldStrings s).prot = s.prot ∧ (coldStrings s).rect = s.rect ∧
    (coldStrings s).bus = s.bus ∧ (coldStrings s).gen = s.gen ∧ (coldStrings s).cal = s.cal ∧
    (coldStrings s).alarm = s.alarm ∧ (coldStrings s).store = s.store ∧ (coldStrings s).link = s.link := by
  simp [coldStrings]

@[simp] theorem recomputeSetpoint_frame (s : State) :
    (recomputeSetpoint s).pending = s.pending ∧ (recomputeSetpoint s).powered = s.powered ∧
    (recomputeSetpoint s).markerGood = s.markerGood ∧ (recomputeSetpoint s).meas = s.meas ∧
    (recomputeSetpoint s).sup = s.sup ∧ (recomputeSetpoint s).acct = s.acct ∧
    (recomputeSetpoint s).prot = s.prot ∧ (recomputeSetpoint s).rect = s.rect ∧
    (recomputeSetpoint s).bus = s.bus ∧ (recomputeSetpoint s).gen = s.gen ∧ (recomputeSetpoint s).cal = s.cal ∧
    (recomputeSetpoint s).alarm = s.alarm ∧ (recomputeSetpoint s).store = s.store ∧
    (recomputeSetpoint s).link = s.link := by
  simp [recomputeSetpoint]

@[simp] theorem recomputeIbl_frame (s : State) :
    (recomputeIbl s).pending = s.pending ∧ (recomputeIbl s).powered = s.powered ∧
    (recomputeIbl s).markerGood = s.markerGood ∧ (recomputeIbl s).meas = s.meas ∧ (recomputeIbl s).sup = s.sup ∧
    (recomputeIbl s).acct = s.acct ∧ (recomputeIbl s).prot = s.prot ∧ (recomputeIbl s).rect = s.rect ∧
    (recomputeIbl s).bus = s.bus ∧ (recomputeIbl s).gen = s.gen ∧ (recomputeIbl s).cal = s.cal ∧
    (recomputeIbl s).alarm = s.alarm ∧ (recomputeIbl s).store = s.store ∧ (recomputeIbl s).link = s.link := by
  simp [recomputeIbl]

@[simp] theorem recomputeIm_frame (s : State) :
    (recomputeIm s).pending = s.pending ∧ (recomputeIm s).powered = s.powered ∧
    (recomputeIm s).markerGood = s.markerGood ∧ (recomputeIm s).meas = s.meas ∧ (recomputeIm s).sup = s.sup ∧
    (recomputeIm s).acct = s.acct ∧ (recomputeIm s).charge = s.charge ∧ (recomputeIm s).prot = s.prot ∧
    (recomputeIm s).bus = s.bus ∧ (recomputeIm s).gen = s.gen ∧ (recomputeIm s).cal = s.cal ∧
    (recomputeIm s).alarm = s.alarm ∧ (recomputeIm s).store = s.store ∧ (recomputeIm s).link = s.link := by
  simp [recomputeIm]

@[simp] theorem dropDischargeCount_frame (s : State) :
    (dropDischargeCount s).pending = s.pending ∧ (dropDischargeCount s).powered = s.powered ∧
    (dropDischargeCount s).markerGood = s.markerGood ∧ (dropDischargeCount s).meas = s.meas ∧
    (dropDischargeCount s).sup = s.sup ∧ (dropDischargeCount s).acct = s.acct ∧
    (dropDischargeCount s).charge = s.charge ∧ (dropDischargeCount s).rect = s.rect ∧
    (dropDischargeCount s).bus = s.bus ∧ (dropDischargeCount s).gen = s.gen ∧
    (dropDischargeCount s).cal = s.cal ∧ (dropDischargeCount s).store = s.store ∧
    (dropDischargeCount s).link = s.link := by
  simp [dropDischargeCount]

@[simp] theorem changeStage_frame (new : Stage) (s : State) :
    (changeStage new s).pending = s.pending ∧ (changeStage new s).powered = s.powered ∧
    (changeStage new s).markerGood = s.markerGood ∧ (changeStage new s).meas = s.meas ∧
    (changeStage new s).sup = s.sup ∧ (changeStage new s).acct = s.acct ∧ (changeStage new s).bus = s.bus ∧
    (changeStage new s).gen = s.gen ∧ (changeStage new s).cal = s.cal ∧ (changeStage new s).store = s.store ∧
    (changeStage new s).link = s.link := by
  simp [changeStage]

@[simp] theorem suspendEqualize_frame (s : State) :
    (suspendEqualize s).pending = s.pending ∧ (suspendEqualize s).powered = s.powered ∧
    (suspendEqualize s).markerGood = s.markerGood ∧ (suspendEqualize s).meas = s.meas ∧
    (suspendEqualize s).sup = s.sup ∧ (suspendEqualize s).acct = s.acct ∧ (suspendEqualize s).prot = s.prot ∧
    (suspendEqualize s).rect = s.rect ∧ (suspendEqualize s).bus = s.bus ∧ (suspendEqualize s).gen = s.gen ∧
    (suspendEqualize s).cal = s.cal ∧ (suspendEqualize s).alarm = s.alarm ∧
    (suspendEqualize s).store = s.store ∧ (suspendEqualize s).link = s.link := by
  simp [suspendEqualize]

@[simp] theorem intervalTest_frame (s : State) :
    (intervalTest s).pending = s.pending ∧ (intervalTest s).powered = s.powered ∧
    (intervalTest s).markerGood = s.markerGood ∧ (intervalTest s).meas = s.meas ∧ (intervalTest s).sup = s.sup ∧
    (intervalTest s).acct = s.acct ∧ (intervalTest s).prot = s.prot ∧ (intervalTest s).rect = s.rect ∧
    (intervalTest s).bus = s.bus ∧ (intervalTest s).gen = s.gen ∧ (intervalTest s).cal = s.cal ∧
    (intervalTest s).alarm = s.alarm ∧ (intervalTest s).store = s.store ∧ (intervalTest s).link = s.link := by
  simp [intervalTest]

@[simp] theorem reportOverdue_frame (s : State) :
    (reportOverdue s).pending = s.pending ∧ (reportOverdue s).powered = s.powered ∧
    (reportOverdue s).markerGood = s.markerGood ∧ (reportOverdue s).meas = s.meas ∧
    (reportOverdue s).sup = s.sup ∧ (reportOverdue s).acct = s.acct ∧ (reportOverdue s).charge = s.charge ∧
    (reportOverdue s).prot = s.prot ∧ (reportOverdue s).rect = s.rect ∧ (reportOverdue s).bus = s.bus ∧
    (reportOverdue s).gen = s.gen ∧ (reportOverdue s).cal = s.cal ∧ (reportOverdue s).store = s.store ∧
    (reportOverdue s).link = s.link := by
  simp [reportOverdue]

@[simp] theorem chargeDayBoundary_frame (s : State) :
    (chargeDayBoundary s).pending = s.pending ∧ (chargeDayBoundary s).powered = s.powered ∧
    (chargeDayBoundary s).markerGood = s.markerGood ∧ (chargeDayBoundary s).meas = s.meas ∧
    (chargeDayBoundary s).sup = s.sup ∧ (chargeDayBoundary s).acct = s.acct ∧
    (chargeDayBoundary s).prot = s.prot ∧ (chargeDayBoundary s).rect = s.rect ∧
    (chargeDayBoundary s).bus = s.bus ∧ (chargeDayBoundary s).gen = s.gen ∧ (chargeDayBoundary s).cal = s.cal ∧
    (chargeDayBoundary s).store = s.store ∧ (chargeDayBoundary s).link = s.link := by
  simp [chargeDayBoundary]

@[simp] theorem equalizeBegin_frame (s : State) :
    (equalizeBegin s).pending = s.pending ∧ (equalizeBegin s).powered = s.powered ∧
    (equalizeBegin s).markerGood = s.markerGood ∧ (equalizeBegin s).meas = s.meas ∧
    (equalizeBegin s).sup = s.sup ∧ (equalizeBegin s).acct = s.acct ∧ (equalizeBegin s).bus = s.bus ∧
    (equalizeBegin s).gen = s.gen ∧ (equalizeBegin s).cal = s.cal ∧ (equalizeBegin s).store = s.store ∧
    (equalizeBegin s).link = s.link := by
  refine ⟨?_, ?_, ?_, ?_, ?_, ?_, ?_, ?_, ?_, ?_, ?_⟩ <;> (unfold equalizeBegin; dsimp only; (repeat' split) <;> simp)

@[simp] theorem equalizeDone_frame (s : State) :
    (equalizeDone s).pending = s.pending ∧ (equalizeDone s).powered = s.powered ∧
    (equalizeDone s).markerGood = s.markerGood ∧ (equalizeDone s).meas = s.meas ∧ (equalizeDone s).sup = s.sup ∧
    (equalizeDone s).acct = s.acct ∧ (equalizeDone s).bus = s.bus ∧ (equalizeDone s).gen = s.gen ∧
    (equalizeDone s).cal = s.cal ∧ (equalizeDone s).store = s.store ∧ (equalizeDone s).link = s.link := by
  simp [equalizeDone]

@[simp] theorem serveEqualizeStart_frame (s : State) :
    (serveEqualizeStart s).1.pending = s.pending ∧ (serveEqualizeStart s).1.powered = s.powered ∧
    (serveEqualizeStart s).1.markerGood = s.markerGood ∧ (serveEqualizeStart s).1.meas = s.meas ∧
    (serveEqualizeStart s).1.sup = s.sup ∧ (serveEqualizeStart s).1.acct = s.acct ∧
    (serveEqualizeStart s).1.prot = s.prot ∧ (serveEqualizeStart s).1.rect = s.rect ∧
    (serveEqualizeStart s).1.bus = s.bus ∧ (serveEqualizeStart s).1.gen = s.gen ∧
    (serveEqualizeStart s).1.cal = s.cal ∧ (serveEqualizeStart s).1.alarm = s.alarm ∧
    (serveEqualizeStart s).1.store = s.store ∧ (serveEqualizeStart s).1.link = s.link := by
  refine ⟨?_, ?_, ?_, ?_, ?_, ?_, ?_, ?_, ?_, ?_, ?_, ?_, ?_, ?_⟩ <;> (unfold serveEqualizeStart; dsimp only; (repeat' split) <;> simp)

@[simp] theorem serveEqualizeStop_frame (s : State) :
    (serveEqualizeStop s).1.pending = s.pending ∧ (serveEqualizeStop s).1.powered = s.powered ∧
    (serveEqualizeStop s).1.markerGood = s.markerGood ∧ (serveEqualizeStop s).1.meas = s.meas ∧
    (serveEqualizeStop s).1.sup = s.sup ∧ (serveEqualizeStop s).1.acct = s.acct ∧
    (serveEqualizeStop s).1.bus = s.bus ∧ (serveEqualizeStop s).1.gen = s.gen ∧
    (serveEqualizeStop s).1.cal = s.cal ∧ (serveEqualizeStop s).1.store = s.store ∧
    (serveEqualizeStop s).1.link = s.link := by
  refine ⟨?_, ?_, ?_, ?_, ?_, ?_, ?_, ?_, ?_, ?_, ?_⟩ <;> (unfold serveEqualizeStop; dsimp only; (repeat' split) <;> simp)

@[simp] theorem endTest_frame (outcome : TestOutcome) (next : Stage) (s : State) :
    (endTest outcome next s).pending = s.pending ∧ (endTest outcome next s).powered = s.powered ∧
    (endTest outcome next s).markerGood = s.markerGood ∧ (endTest outcome next s).meas = s.meas ∧
    (endTest outcome next s).sup = s.sup ∧ (endTest outcome next s).bus = s.bus ∧
    (endTest outcome next s).gen = s.gen ∧ (endTest outcome next s).cal = s.cal ∧
    (endTest outcome next s).store = s.store ∧ (endTest outcome next s).link = s.link := by
  refine ⟨?_, ?_, ?_, ?_, ?_, ?_, ?_, ?_, ?_, ?_⟩ <;> (unfold endTest; dsimp only; (repeat' split) <;> simp)

@[simp] theorem judgeTest_frame (s : State) :
    (judgeTest s).pending = s.pending ∧ (judgeTest s).powered = s.powered ∧
    (judgeTest s).markerGood = s.markerGood ∧ (judgeTest s).meas = s.meas ∧ (judgeTest s).sup = s.sup ∧
    (judgeTest s).bus = s.bus ∧ (judgeTest s).gen = s.gen ∧ (judgeTest s).cal = s.cal ∧
    (judgeTest s).store = s.store ∧ (judgeTest s).link = s.link := by
  refine ⟨?_, ?_, ?_, ?_, ?_, ?_, ?_, ?_, ?_, ?_⟩ <;> (unfold judgeTest; dsimp only; (repeat' split) <;> simp)

@[simp] theorem abortIfUnsync_frame (s : State) :
    (abortIfUnsync s).pending = s.pending ∧ (abortIfUnsync s).powered = s.powered ∧
    (abortIfUnsync s).markerGood = s.markerGood ∧ (abortIfUnsync s).meas = s.meas ∧
    (abortIfUnsync s).sup = s.sup ∧ (abortIfUnsync s).bus = s.bus ∧ (abortIfUnsync s).gen = s.gen ∧
    (abortIfUnsync s).cal = s.cal ∧ (abortIfUnsync s).store = s.store ∧ (abortIfUnsync s).link = s.link := by
  simp [abortIfUnsync]

@[simp] theorem serveTestStart_frame (target : Nat) (s : State) :
    (serveTestStart target s).1.pending = s.pending ∧ (serveTestStart target s).1.powered = s.powered ∧
    (serveTestStart target s).1.markerGood = s.markerGood ∧ (serveTestStart target s).1.meas = s.meas ∧
    (serveTestStart target s).1.sup = s.sup ∧ (serveTestStart target s).1.bus = s.bus ∧
    (serveTestStart target s).1.gen = s.gen ∧ (serveTestStart target s).1.cal = s.cal ∧
    (serveTestStart target s).1.store = s.store ∧ (serveTestStart target s).1.link = s.link := by
  refine ⟨?_, ?_, ?_, ?_, ?_, ?_, ?_, ?_, ?_, ?_⟩ <;> (unfold serveTestStart; dsimp only; (repeat' split) <;> simp)

@[simp] theorem serveTestAbort_frame (s : State) :
    (serveTestAbort s).1.pending = s.pending ∧ (serveTestAbort s).1.powered = s.powered ∧
    (serveTestAbort s).1.markerGood = s.markerGood ∧ (serveTestAbort s).1.meas = s.meas ∧
    (serveTestAbort s).1.sup = s.sup ∧ (serveTestAbort s).1.bus = s.bus ∧ (serveTestAbort s).1.gen = s.gen ∧
    (serveTestAbort s).1.cal = s.cal ∧ (serveTestAbort s).1.store = s.store ∧ (serveTestAbort s).1.link = s.link := by
  refine ⟨?_, ?_, ?_, ?_, ?_, ?_, ?_, ?_, ?_, ?_⟩ <;> (unfold serveTestAbort; (repeat' split) <;> simp)

@[simp] theorem chargeModeChange_frame (old : Mode) (s : State) :
    (chargeModeChange old s).pending = s.pending ∧ (chargeModeChange old s).powered = s.powered ∧
    (chargeModeChange old s).markerGood = s.markerGood ∧ (chargeModeChange old s).meas = s.meas ∧
    (chargeModeChange old s).sup = s.sup ∧ (chargeModeChange old s).bus = s.bus ∧
    (chargeModeChange old s).gen = s.gen ∧ (chargeModeChange old s).cal = s.cal ∧
    (chargeModeChange old s).store = s.store ∧ (chargeModeChange old s).link = s.link := by
  refine ⟨?_, ?_, ?_, ?_, ?_, ?_, ?_, ?_, ?_, ?_⟩ <;> (unfold chargeModeChange; (repeat' split) <;> simp)

@[simp] theorem formTemps_frame (s : State) :
    (formTemps s).pending = s.pending ∧ (formTemps s).powered = s.powered ∧
    (formTemps s).markerGood = s.markerGood ∧ (formTemps s).meas = s.meas ∧ (formTemps s).sup = s.sup ∧
    (formTemps s).acct = s.acct ∧ (formTemps s).prot = s.prot ∧ (formTemps s).rect = s.rect ∧
    (formTemps s).bus = s.bus ∧ (formTemps s).gen = s.gen ∧ (formTemps s).cal = s.cal ∧
    (formTemps s).store = s.store ∧ (formTemps s).link = s.link := by
  simp [formTemps]

@[simp] theorem reportTail_frame (s : State) :
    (reportTail s).pending = s.pending ∧ (reportTail s).powered = s.powered ∧
    (reportTail s).markerGood = s.markerGood ∧ (reportTail s).meas = s.meas ∧ (reportTail s).sup = s.sup ∧
    (reportTail s).acct = s.acct ∧ (reportTail s).charge = s.charge ∧ (reportTail s).prot = s.prot ∧
    (reportTail s).rect = s.rect ∧ (reportTail s).bus = s.bus ∧ (reportTail s).cal = s.cal ∧
    (reportTail s).alarm = s.alarm ∧ (reportTail s).store = s.store ∧ (reportTail s).link = s.link := by
  simp [reportTail]

@[simp] theorem tailExit_frame (s : State) :
    (tailExit s).pending = s.pending ∧ (tailExit s).powered = s.powered ∧
    (tailExit s).markerGood = s.markerGood ∧ (tailExit s).meas = s.meas ∧ (tailExit s).sup = s.sup ∧
    (tailExit s).bus = s.bus ∧ (tailExit s).cal = s.cal ∧ (tailExit s).store = s.store ∧
    (tailExit s).link = s.link := by
  simp [tailExit]

@[simp] theorem bulkWork_frame (hot : Bool) (s : State) :
    (bulkWork hot s).pending = s.pending ∧ (bulkWork hot s).powered = s.powered ∧
    (bulkWork hot s).markerGood = s.markerGood ∧ (bulkWork hot s).meas = s.meas ∧ (bulkWork hot s).sup = s.sup ∧
    (bulkWork hot s).acct = s.acct ∧ (bulkWork hot s).bus = s.bus ∧ (bulkWork hot s).gen = s.gen ∧
    (bulkWork hot s).cal = s.cal ∧ (bulkWork hot s).store = s.store ∧ (bulkWork hot s).link = s.link := by
  simp [bulkWork]

@[simp] theorem absorbWork_frame (hot : Bool) (s : State) :
    (absorbWork hot s).pending = s.pending ∧ (absorbWork hot s).powered = s.powered ∧
    (absorbWork hot s).markerGood = s.markerGood ∧ (absorbWork hot s).meas = s.meas ∧
    (absorbWork hot s).sup = s.sup ∧ (absorbWork hot s).bus = s.bus ∧ (absorbWork hot s).cal = s.cal ∧
    (absorbWork hot s).store = s.store ∧ (absorbWork hot s).link = s.link := by
  simp [absorbWork]

@[simp] theorem floatWork_frame (cooled : Bool) (s : State) :
    (floatWork cooled s).pending = s.pending ∧ (floatWork cooled s).powered = s.powered ∧
    (floatWork cooled s).markerGood = s.markerGood ∧ (floatWork cooled s).meas = s.meas ∧
    (floatWork cooled s).sup = s.sup ∧ (floatWork cooled s).acct = s.acct ∧ (floatWork cooled s).bus = s.bus ∧
    (floatWork cooled s).gen = s.gen ∧ (floatWork cooled s).cal = s.cal ∧ (floatWork cooled s).store = s.store ∧
    (floatWork cooled s).link = s.link := by
  simp [floatWork]

@[simp] theorem equalizeWork_frame (s : State) :
    (equalizeWork s).pending = s.pending ∧ (equalizeWork s).powered = s.powered ∧
    (equalizeWork s).markerGood = s.markerGood ∧ (equalizeWork s).meas = s.meas ∧ (equalizeWork s).sup = s.sup ∧
    (equalizeWork s).acct = s.acct ∧ (equalizeWork s).bus = s.bus ∧ (equalizeWork s).gen = s.gen ∧
    (equalizeWork s).cal = s.cal ∧ (equalizeWork s).store = s.store ∧ (equalizeWork s).link = s.link := by
  refine ⟨?_, ?_, ?_, ?_, ?_, ?_, ?_, ?_, ?_, ?_, ?_⟩ <;> (unfold equalizeWork; dsimp only; (repeat' split) <;> simp)

@[simp] theorem stageWork_frame (hot cooled : Bool) (s : State) :
    (stageWork hot cooled s).pending = s.pending ∧ (stageWork hot cooled s).powered = s.powered ∧
    (stageWork hot cooled s).markerGood = s.markerGood ∧ (stageWork hot cooled s).meas = s.meas ∧
    (stageWork hot cooled s).sup = s.sup ∧ (stageWork hot cooled s).bus = s.bus ∧
    (stageWork hot cooled s).cal = s.cal ∧ (stageWork hot cooled s).store = s.store ∧
    (stageWork hot cooled s).link = s.link := by
  refine ⟨?_, ?_, ?_, ?_, ?_, ?_, ?_, ?_, ?_⟩ <;> (unfold stageWork; (repeat' split) <;> simp)

@[simp] theorem reportCapacityLow_frame (s : State) :
    (reportCapacityLow s).pending = s.pending ∧ (reportCapacityLow s).powered = s.powered ∧
    (reportCapacityLow s).markerGood = s.markerGood ∧ (reportCapacityLow s).meas = s.meas ∧
    (reportCapacityLow s).sup = s.sup ∧ (reportCapacityLow s).acct = s.acct ∧
    (reportCapacityLow s).charge = s.charge ∧ (reportCapacityLow s).prot = s.prot ∧
    (reportCapacityLow s).rect = s.rect ∧ (reportCapacityLow s).bus = s.bus ∧
    (reportCapacityLow s).gen = s.gen ∧ (reportCapacityLow s).cal = s.cal ∧
    (reportCapacityLow s).store = s.store ∧ (reportCapacityLow s).link = s.link := by
  simp [reportCapacityLow]

@[simp] theorem chargeEvent_frame (s : State) :
    (chargeEvent s).pending = s.pending ∧ (chargeEvent s).powered = s.powered ∧
    (chargeEvent s).markerGood = s.markerGood ∧ (chargeEvent s).meas = s.meas ∧ (chargeEvent s).sup = s.sup ∧
    (chargeEvent s).bus = s.bus ∧ (chargeEvent s).cal = s.cal ∧ (chargeEvent s).store = s.store ∧
    (chargeEvent s).link = s.link := by
  simp [chargeEvent]

@[simp] theorem onSlot_frame (i : Nat) (f : Slot → Slot) (s : State) :
    (onSlot i f s).pending = s.pending ∧ (onSlot i f s).powered = s.powered ∧
    (onSlot i f s).markerGood = s.markerGood ∧ (onSlot i f s).meas = s.meas ∧ (onSlot i f s).sup = s.sup ∧
    (onSlot i f s).acct = s.acct ∧ (onSlot i f s).charge = s.charge ∧ (onSlot i f s).prot = s.prot ∧
    (onSlot i f s).bus = s.bus ∧ (onSlot i f s).gen = s.gen ∧ (onSlot i f s).cal = s.cal ∧
    (onSlot i f s).alarm = s.alarm ∧ (onSlot i f s).store = s.store ∧ (onSlot i f s).link = s.link := by
  simp [onSlot]

@[simp] theorem reportFaults_frame (s : State) :
    (reportFaults s).pending = s.pending ∧ (reportFaults s).powered = s.powered ∧
    (reportFaults s).markerGood = s.markerGood ∧ (reportFaults s).meas = s.meas ∧ (reportFaults s).sup = s.sup ∧
    (reportFaults s).acct = s.acct ∧ (reportFaults s).charge = s.charge ∧ (reportFaults s).prot = s.prot ∧
    (reportFaults s).rect = s.rect ∧ (reportFaults s).bus = s.bus ∧ (reportFaults s).gen = s.gen ∧
    (reportFaults s).cal = s.cal ∧ (reportFaults s).store = s.store ∧ (reportFaults s).link = s.link := by
  simp [reportFaults]

@[simp] theorem reportLost_frame (s : State) :
    (reportLost s).pending = s.pending ∧ (reportLost s).powered = s.powered ∧
    (reportLost s).markerGood = s.markerGood ∧ (reportLost s).meas = s.meas ∧ (reportLost s).sup = s.sup ∧
    (reportLost s).acct = s.acct ∧ (reportLost s).charge = s.charge ∧ (reportLost s).prot = s.prot ∧
    (reportLost s).rect = s.rect ∧ (reportLost s).bus = s.bus ∧ (reportLost s).gen = s.gen ∧
    (reportLost s).cal = s.cal ∧ (reportLost s).store = s.store ∧ (reportLost s).link = s.link := by
  simp [reportLost]

@[simp] theorem changeSlot_frame (i : Nat) (new : SlotState) (s : State) :
    (changeSlot i new s).pending = s.pending ∧ (changeSlot i new s).powered = s.powered ∧
    (changeSlot i new s).markerGood = s.markerGood ∧ (changeSlot i new s).meas = s.meas ∧
    (changeSlot i new s).sup = s.sup ∧ (changeSlot i new s).acct = s.acct ∧
    (changeSlot i new s).charge = s.charge ∧ (changeSlot i new s).prot = s.prot ∧
    (changeSlot i new s).bus = s.bus ∧ (changeSlot i new s).gen = s.gen ∧ (changeSlot i new s).cal = s.cal ∧
    (changeSlot i new s).store = s.store ∧ (changeSlot i new s).link = s.link := by
  simp [changeSlot]

@[simp] theorem endSwap_frame (outcome : SwapOutcome) (s : State) :
    (endSwap outcome s).pending = s.pending ∧ (endSwap outcome s).powered = s.powered ∧
    (endSwap outcome s).markerGood = s.markerGood ∧ (endSwap outcome s).meas = s.meas ∧
    (endSwap outcome s).sup = s.sup ∧ (endSwap outcome s).acct = s.acct ∧
    (endSwap outcome s).charge = s.charge ∧ (endSwap outcome s).prot = s.prot ∧
    (endSwap outcome s).bus = s.bus ∧ (endSwap outcome s).gen = s.gen ∧ (endSwap outcome s).cal = s.cal ∧
    (endSwap outcome s).store = s.store ∧ (endSwap outcome s).link = s.link := by
  refine ⟨?_, ?_, ?_, ?_, ?_, ?_, ?_, ?_, ?_, ?_, ?_, ?_, ?_⟩ <;> (unfold endSwap; (repeat' split) <;> simp)

@[simp] theorem leaveSwap_frame (i : Nat) (s : State) :
    (leaveSwap i s).pending = s.pending ∧ (leaveSwap i s).powered = s.powered ∧
    (leaveSwap i s).markerGood = s.markerGood ∧ (leaveSwap i s).meas = s.meas ∧ (leaveSwap i s).sup = s.sup ∧
    (leaveSwap i s).acct = s.acct ∧ (leaveSwap i s).charge = s.charge ∧ (leaveSwap i s).prot = s.prot ∧
    (leaveSwap i s).bus = s.bus ∧ (leaveSwap i s).gen = s.gen ∧ (leaveSwap i s).cal = s.cal ∧
    (leaveSwap i s).store = s.store ∧ (leaveSwap i s).link = s.link := by
  refine ⟨?_, ?_, ?_, ?_, ?_, ?_, ?_, ?_, ?_, ?_, ?_, ?_, ?_⟩ <;> (unfold leaveSwap; (repeat' split) <;> simp)

@[simp] theorem enterFault_frame (i : Nat) (s : State) :
    (enterFault i s).pending = s.pending ∧ (enterFault i s).powered = s.powered ∧
    (enterFault i s).markerGood = s.markerGood ∧ (enterFault i s).meas = s.meas ∧ (enterFault i s).sup = s.sup ∧
    (enterFault i s).acct = s.acct ∧ (enterFault i s).charge = s.charge ∧ (enterFault i s).prot = s.prot ∧
    (enterFault i s).bus = s.bus ∧ (enterFault i s).gen = s.gen ∧ (enterFault i s).cal = s.cal ∧
    (enterFault i s).store = s.store ∧ (enterFault i s).link = s.link := by
  simp [enterFault]

@[simp] theorem swapIncomingRuns_frame (i : Nat) (s : State) :
    (swapIncomingRuns i s).pending = s.pending ∧ (swapIncomingRuns i s).powered = s.powered ∧
    (swapIncomingRuns i s).markerGood = s.markerGood ∧ (swapIncomingRuns i s).meas = s.meas ∧
    (swapIncomingRuns i s).sup = s.sup ∧ (swapIncomingRuns i s).acct = s.acct ∧
    (swapIncomingRuns i s).charge = s.charge ∧ (swapIncomingRuns i s).prot = s.prot ∧
    (swapIncomingRuns i s).bus = s.bus ∧ (swapIncomingRuns i s).gen = s.gen ∧
    (swapIncomingRuns i s).cal = s.cal ∧ (swapIncomingRuns i s).alarm = s.alarm ∧
    (swapIncomingRuns i s).store = s.store ∧ (swapIncomingRuns i s).link = s.link := by
  simp [swapIncomingRuns]

@[simp] theorem swapIncomingFalls_frame (i : Nat) (s : State) :
    (swapIncomingFalls i s).pending = s.pending ∧ (swapIncomingFalls i s).powered = s.powered ∧
    (swapIncomingFalls i s).markerGood = s.markerGood ∧ (swapIncomingFalls i s).meas = s.meas ∧
    (swapIncomingFalls i s).sup = s.sup ∧ (swapIncomingFalls i s).acct = s.acct ∧
    (swapIncomingFalls i s).charge = s.charge ∧ (swapIncomingFalls i s).prot = s.prot ∧
    (swapIncomingFalls i s).bus = s.bus ∧ (swapIncomingFalls i s).gen = s.gen ∧
    (swapIncomingFalls i s).cal = s.cal ∧ (swapIncomingFalls i s).alarm = s.alarm ∧
    (swapIncomingFalls i s).store = s.store ∧ (swapIncomingFalls i s).link = s.link := by
  simp [swapIncomingFalls]

@[simp] theorem takeStatus_frame (i : Nat) (d : ModuleData) (s : State) :
    (takeStatus i d s).pending = s.pending ∧ (takeStatus i d s).powered = s.powered ∧
    (takeStatus i d s).markerGood = s.markerGood ∧ (takeStatus i d s).meas = s.meas ∧
    (takeStatus i d s).sup = s.sup ∧ (takeStatus i d s).acct = s.acct ∧ (takeStatus i d s).charge = s.charge ∧
    (takeStatus i d s).prot = s.prot ∧ (takeStatus i d s).bus = s.bus ∧ (takeStatus i d s).gen = s.gen ∧
    (takeStatus i d s).cal = s.cal ∧ (takeStatus i d s).store = s.store ∧ (takeStatus i d s).link = s.link := by
  refine ⟨?_, ?_, ?_, ?_, ?_, ?_, ?_, ?_, ?_, ?_, ?_, ?_, ?_⟩ <;> (unfold takeStatus; dsimp only; (repeat' split) <;> simp)

@[simp] theorem takeLost_frame (i : Nat) (s : State) :
    (takeLost i s).pending = s.pending ∧ (takeLost i s).powered = s.powered ∧
    (takeLost i s).markerGood = s.markerGood ∧ (takeLost i s).meas = s.meas ∧ (takeLost i s).sup = s.sup ∧
    (takeLost i s).acct = s.acct ∧ (takeLost i s).charge = s.charge ∧ (takeLost i s).prot = s.prot ∧
    (takeLost i s).bus = s.bus ∧ (takeLost i s).gen = s.gen ∧ (takeLost i s).cal = s.cal ∧
    (takeLost i s).store = s.store ∧ (takeLost i s).link = s.link := by
  refine ⟨?_, ?_, ?_, ?_, ?_, ?_, ?_, ?_, ?_, ?_, ?_, ?_, ?_⟩ <;> (unfold takeLost; dsimp only; (repeat' split) <;> simp)

@[simp] theorem takeFound_frame (i : Nat) (s : State) :
    (takeFound i s).pending = s.pending ∧ (takeFound i s).powered = s.powered ∧
    (takeFound i s).markerGood = s.markerGood ∧ (takeFound i s).meas = s.meas ∧ (takeFound i s).sup = s.sup ∧
    (takeFound i s).acct = s.acct ∧ (takeFound i s).charge = s.charge ∧ (takeFound i s).prot = s.prot ∧
    (takeFound i s).bus = s.bus ∧ (takeFound i s).gen = s.gen ∧ (takeFound i s).cal = s.cal ∧
    (takeFound i s).store = s.store ∧ (takeFound i s).link = s.link := by
  simp [takeFound]

@[simp] theorem acLost_frame (s : State) :
    (acLost s).pending = s.pending ∧ (acLost s).powered = s.powered ∧ (acLost s).markerGood = s.markerGood ∧
    (acLost s).meas = s.meas ∧ (acLost s).sup = s.sup ∧ (acLost s).acct = s.acct ∧
    (acLost s).charge = s.charge ∧ (acLost s).prot = s.prot ∧ (acLost s).bus = s.bus ∧ (acLost s).gen = s.gen ∧
    (acLost s).cal = s.cal ∧ (acLost s).store = s.store ∧ (acLost s).link = s.link := by
  simp [acLost]

@[simp] theorem acGained_frame (s : State) :
    (acGained s).pending = s.pending ∧ (acGained s).powered = s.powered ∧
    (acGained s).markerGood = s.markerGood ∧ (acGained s).meas = s.meas ∧ (acGained s).sup = s.sup ∧
    (acGained s).acct = s.acct ∧ (acGained s).charge = s.charge ∧ (acGained s).prot = s.prot ∧
    (acGained s).bus = s.bus ∧ (acGained s).gen = s.gen ∧ (acGained s).cal = s.cal ∧
    (acGained s).alarm = s.alarm ∧ (acGained s).store = s.store ∧ (acGained s).link = s.link := by
  simp [acGained]

@[simp] theorem stopOne_frame (s : State) :
    (stopOne s).pending = s.pending ∧ (stopOne s).powered = s.powered ∧ (stopOne s).markerGood = s.markerGood ∧
    (stopOne s).meas = s.meas ∧ (stopOne s).sup = s.sup ∧ (stopOne s).acct = s.acct ∧
    (stopOne s).charge = s.charge ∧ (stopOne s).prot = s.prot ∧ (stopOne s).bus = s.bus ∧
    (stopOne s).gen = s.gen ∧ (stopOne s).cal = s.cal ∧ (stopOne s).store = s.store ∧ (stopOne s).link = s.link := by
  refine ⟨?_, ?_, ?_, ?_, ?_, ?_, ?_, ?_, ?_, ?_, ?_, ?_, ?_⟩ <;> (unfold stopOne; (repeat' split) <;> simp)

@[simp] theorem trimToGen_frame (s : State) :
    (trimToGen s).pending = s.pending ∧ (trimToGen s).powered = s.powered ∧
    (trimToGen s).markerGood = s.markerGood ∧ (trimToGen s).meas = s.meas ∧ (trimToGen s).sup = s.sup ∧
    (trimToGen s).acct = s.acct ∧ (trimToGen s).charge = s.charge ∧ (trimToGen s).prot = s.prot ∧
    (trimToGen s).bus = s.bus ∧ (trimToGen s).gen = s.gen ∧ (trimToGen s).cal = s.cal ∧
    (trimToGen s).store = s.store ∧ (trimToGen s).link = s.link := by
  simp [trimToGen]

@[simp] theorem startHead_frame (s : State) :
    (startHead s).pending = s.pending ∧ (startHead s).powered = s.powered ∧
    (startHead s).markerGood = s.markerGood ∧ (startHead s).meas = s.meas ∧ (startHead s).sup = s.sup ∧
    (startHead s).acct = s.acct ∧ (startHead s).charge = s.charge ∧ (startHead s).prot = s.prot ∧
    (startHead s).bus = s.bus ∧ (startHead s).gen = s.gen ∧ (startHead s).cal = s.cal ∧
    (startHead s).store = s.store ∧ (startHead s).link = s.link := by
  refine ⟨?_, ?_, ?_, ?_, ?_, ?_, ?_, ?_, ?_, ?_, ?_, ?_, ?_⟩ <;> (unfold startHead; (repeat' split) <;> simp)

@[simp] theorem beginSwap_frame (i o : Nat) (s : State) :
    (beginSwap i o s).pending = s.pending ∧ (beginSwap i o s).powered = s.powered ∧
    (beginSwap i o s).markerGood = s.markerGood ∧ (beginSwap i o s).meas = s.meas ∧
    (beginSwap i o s).sup = s.sup ∧ (beginSwap i o s).acct = s.acct ∧ (beginSwap i o s).charge = s.charge ∧
    (beginSwap i o s).prot = s.prot ∧ (beginSwap i o s).bus = s.bus ∧ (beginSwap i o s).gen = s.gen ∧
    (beginSwap i o s).cal = s.cal ∧ (beginSwap i o s).store = s.store ∧ (beginSwap i o s).link = s.link := by
  simp [beginSwap]

@[simp] theorem finishSwap_frame (s : State) :
    (finishSwap s).pending = s.pending ∧ (finishSwap s).powered = s.powered ∧
    (finishSwap s).markerGood = s.markerGood ∧ (finishSwap s).meas = s.meas ∧ (finishSwap s).sup = s.sup ∧
    (finishSwap s).acct = s.acct ∧ (finishSwap s).charge = s.charge ∧ (finishSwap s).prot = s.prot ∧
    (finishSwap s).bus = s.bus ∧ (finishSwap s).gen = s.gen ∧ (finishSwap s).cal = s.cal ∧
    (finishSwap s).store = s.store ∧ (finishSwap s).link = s.link := by
  refine ⟨?_, ?_, ?_, ?_, ?_, ?_, ?_, ?_, ?_, ?_, ?_, ?_, ?_⟩ <;> (unfold finishSwap; (repeat' split) <;> simp)

@[simp] theorem dropFreed_frame (s : State) :
    (dropFreed s).pending = s.pending ∧ (dropFreed s).powered = s.powered ∧
    (dropFreed s).markerGood = s.markerGood ∧ (dropFreed s).meas = s.meas ∧
    (dropFreed s).sup = s.sup ∧ (dropFreed s).acct = s.acct ∧ (dropFreed s).charge = s.charge ∧
    (dropFreed s).prot = s.prot ∧ (dropFreed s).bus = s.bus ∧ (dropFreed s).gen = s.gen ∧
    (dropFreed s).cal = s.cal ∧ (dropFreed s).alarm = s.alarm ∧ (dropFreed s).store = s.store ∧
    (dropFreed s).link = s.link := by
  simp [dropFreed]

@[simp] theorem swapWork_frame (s : State) :
    (swapWork s).pending = s.pending ∧ (swapWork s).powered = s.powered ∧
    (swapWork s).markerGood = s.markerGood ∧ (swapWork s).meas = s.meas ∧ (swapWork s).sup = s.sup ∧
    (swapWork s).acct = s.acct ∧ (swapWork s).charge = s.charge ∧ (swapWork s).prot = s.prot ∧
    (swapWork s).bus = s.bus ∧ (swapWork s).gen = s.gen ∧ (swapWork s).cal = s.cal ∧
    (swapWork s).store = s.store ∧ (swapWork s).link = s.link := by
  refine ⟨?_, ?_, ?_, ?_, ?_, ?_, ?_, ?_, ?_, ?_, ?_, ?_, ?_⟩ <;> (unfold swapWork; (repeat' split) <;> simp)

@[simp] theorem stopWork_frame (s : State) :
    (stopWork s).pending = s.pending ∧ (stopWork s).powered = s.powered ∧
    (stopWork s).markerGood = s.markerGood ∧ (stopWork s).meas = s.meas ∧ (stopWork s).sup = s.sup ∧
    (stopWork s).acct = s.acct ∧ (stopWork s).charge = s.charge ∧ (stopWork s).prot = s.prot ∧
    (stopWork s).bus = s.bus ∧ (stopWork s).gen = s.gen ∧ (stopWork s).cal = s.cal ∧
    (stopWork s).store = s.store ∧ (stopWork s).link = s.link := by
  simp [stopWork]

@[simp] theorem countWork_frame (s : State) :
    (countWork s).pending = s.pending ∧ (countWork s).powered = s.powered ∧
    (countWork s).markerGood = s.markerGood ∧ (countWork s).meas = s.meas ∧ (countWork s).sup = s.sup ∧
    (countWork s).acct = s.acct ∧ (countWork s).charge = s.charge ∧ (countWork s).prot = s.prot ∧
    (countWork s).bus = s.bus ∧ (countWork s).gen = s.gen ∧ (countWork s).cal = s.cal ∧
    (countWork s).store = s.store ∧ (countWork s).link = s.link := by
  simp [countWork]

@[simp] theorem dropSlot_frame (i : Nat) (s : State) :
    (dropSlot i s).pending = s.pending ∧ (dropSlot i s).powered = s.powered ∧
    (dropSlot i s).markerGood = s.markerGood ∧ (dropSlot i s).meas = s.meas ∧ (dropSlot i s).sup = s.sup ∧
    (dropSlot i s).acct = s.acct ∧ (dropSlot i s).charge = s.charge ∧ (dropSlot i s).prot = s.prot ∧
    (dropSlot i s).bus = s.bus ∧ (dropSlot i s).gen = s.gen ∧ (dropSlot i s).cal = s.cal ∧
    (dropSlot i s).store = s.store ∧ (dropSlot i s).link = s.link := by
  simp [dropSlot]

@[simp] theorem refitSlots_frame (s : State) :
    (refitSlots s).pending = s.pending ∧ (refitSlots s).powered = s.powered ∧
    (refitSlots s).markerGood = s.markerGood ∧ (refitSlots s).meas = s.meas ∧ (refitSlots s).sup = s.sup ∧
    (refitSlots s).acct = s.acct ∧ (refitSlots s).charge = s.charge ∧ (refitSlots s).prot = s.prot ∧
    (refitSlots s).bus = s.bus ∧ (refitSlots s).gen = s.gen ∧ (refitSlots s).cal = s.cal ∧
    (refitSlots s).store = s.store ∧ (refitSlots s).link = s.link := by
  simp [refitSlots]

@[simp] theorem addHours_frame (i : Nat) (s : State) :
    (addHours i s).pending = s.pending ∧ (addHours i s).powered = s.powered ∧
    (addHours i s).markerGood = s.markerGood ∧ (addHours i s).meas = s.meas ∧ (addHours i s).sup = s.sup ∧
    (addHours i s).acct = s.acct ∧ (addHours i s).charge = s.charge ∧ (addHours i s).prot = s.prot ∧
    (addHours i s).bus = s.bus ∧ (addHours i s).gen = s.gen ∧ (addHours i s).cal = s.cal ∧
    (addHours i s).alarm = s.alarm ∧ (addHours i s).store = s.store ∧ (addHours i s).link = s.link := by
  simp [addHours]

@[simp] theorem startTick_frame (i : Nat) (s : State) :
    (startTick i s).pending = s.pending ∧ (startTick i s).powered = s.powered ∧
    (startTick i s).markerGood = s.markerGood ∧ (startTick i s).meas = s.meas ∧ (startTick i s).sup = s.sup ∧
    (startTick i s).acct = s.acct ∧ (startTick i s).charge = s.charge ∧ (startTick i s).prot = s.prot ∧
    (startTick i s).bus = s.bus ∧ (startTick i s).gen = s.gen ∧ (startTick i s).cal = s.cal ∧
    (startTick i s).store = s.store ∧ (startTick i s).link = s.link := by
  simp [startTick]

@[simp] theorem recoveryTick_frame (i : Nat) (s : State) :
    (recoveryTick i s).pending = s.pending ∧ (recoveryTick i s).powered = s.powered ∧
    (recoveryTick i s).markerGood = s.markerGood ∧ (recoveryTick i s).meas = s.meas ∧
    (recoveryTick i s).sup = s.sup ∧ (recoveryTick i s).acct = s.acct ∧ (recoveryTick i s).charge = s.charge ∧
    (recoveryTick i s).prot = s.prot ∧ (recoveryTick i s).bus = s.bus ∧ (recoveryTick i s).gen = s.gen ∧
    (recoveryTick i s).cal = s.cal ∧ (recoveryTick i s).store = s.store ∧ (recoveryTick i s).link = s.link := by
  simp [recoveryTick]

@[simp] theorem advanceCounts_frame (s : State) :
    (advanceCounts s).pending = s.pending ∧ (advanceCounts s).powered = s.powered ∧
    (advanceCounts s).markerGood = s.markerGood ∧ (advanceCounts s).meas = s.meas ∧
    (advanceCounts s).sup = s.sup ∧ (advanceCounts s).acct = s.acct ∧ (advanceCounts s).charge = s.charge ∧
    (advanceCounts s).prot = s.prot ∧ (advanceCounts s).bus = s.bus ∧ (advanceCounts s).gen = s.gen ∧
    (advanceCounts s).cal = s.cal ∧ (advanceCounts s).alarm = s.alarm ∧ (advanceCounts s).store = s.store ∧
    (advanceCounts s).link = s.link := by
  simp [advanceCounts]

@[simp] theorem overlapWork_frame (s : State) :
    (overlapWork s).pending = s.pending ∧ (overlapWork s).powered = s.powered ∧
    (overlapWork s).markerGood = s.markerGood ∧ (overlapWork s).meas = s.meas ∧ (overlapWork s).sup = s.sup ∧
    (overlapWork s).acct = s.acct ∧ (overlapWork s).charge = s.charge ∧ (overlapWork s).prot = s.prot ∧
    (overlapWork s).bus = s.bus ∧ (overlapWork s).gen = s.gen ∧ (overlapWork s).cal = s.cal ∧
    (overlapWork s).store = s.store ∧ (overlapWork s).link = s.link := by
  simp [overlapWork]

@[simp] theorem formCounts_frame (s : State) :
    (formCounts s).pending = s.pending ∧ (formCounts s).powered = s.powered ∧
    (formCounts s).markerGood = s.markerGood ∧ (formCounts s).meas = s.meas ∧ (formCounts s).sup = s.sup ∧
    (formCounts s).acct = s.acct ∧ (formCounts s).charge = s.charge ∧ (formCounts s).prot = s.prot ∧
    (formCounts s).bus = s.bus ∧ (formCounts s).gen = s.gen ∧ (formCounts s).cal = s.cal ∧
    (formCounts s).alarm = s.alarm ∧ (formCounts s).store = s.store ∧ (formCounts s).link = s.link := by
  simp [formCounts]

@[simp] theorem rectEvent_frame (s : State) :
    (rectEvent s).pending = s.pending ∧ (rectEvent s).powered = s.powered ∧
    (rectEvent s).markerGood = s.markerGood ∧ (rectEvent s).meas = s.meas ∧ (rectEvent s).sup = s.sup ∧
    (rectEvent s).acct = s.acct ∧ (rectEvent s).charge = s.charge ∧ (rectEvent s).prot = s.prot ∧
    (rectEvent s).bus = s.bus ∧ (rectEvent s).gen = s.gen ∧ (rectEvent s).cal = s.cal ∧
    (rectEvent s).store = s.store ∧ (rectEvent s).link = s.link := by
  simp [rectEvent]

@[simp] theorem serveLockout_frame (i : Nat) (s : State) :
    (serveLockout i s).1.pending = s.pending ∧ (serveLockout i s).1.powered = s.powered ∧
    (serveLockout i s).1.markerGood = s.markerGood ∧ (serveLockout i s).1.meas = s.meas ∧
    (serveLockout i s).1.sup = s.sup ∧ (serveLockout i s).1.acct = s.acct ∧
    (serveLockout i s).1.charge = s.charge ∧ (serveLockout i s).1.prot = s.prot ∧
    (serveLockout i s).1.bus = s.bus ∧ (serveLockout i s).1.gen = s.gen ∧ (serveLockout i s).1.cal = s.cal ∧
    (serveLockout i s).1.store = s.store ∧ (serveLockout i s).1.link = s.link := by
  refine ⟨?_, ?_, ?_, ?_, ?_, ?_, ?_, ?_, ?_, ?_, ?_, ?_, ?_⟩ <;> (unfold serveLockout; (repeat' split) <;> simp)

@[simp] theorem serveRestore_frame (i : Nat) (s : State) :
    (serveRestore i s).1.pending = s.pending ∧ (serveRestore i s).1.powered = s.powered ∧
    (serveRestore i s).1.markerGood = s.markerGood ∧ (serveRestore i s).1.meas = s.meas ∧
    (serveRestore i s).1.sup = s.sup ∧ (serveRestore i s).1.acct = s.acct ∧
    (serveRestore i s).1.charge = s.charge ∧ (serveRestore i s).1.prot = s.prot ∧
    (serveRestore i s).1.bus = s.bus ∧ (serveRestore i s).1.gen = s.gen ∧ (serveRestore i s).1.cal = s.cal ∧
    (serveRestore i s).1.store = s.store ∧ (serveRestore i s).1.link = s.link := by
  refine ⟨?_, ?_, ?_, ?_, ?_, ?_, ?_, ?_, ?_, ?_, ?_, ?_, ?_⟩ <;> (unfold serveRestore; (repeat' split) <;> simp)

@[simp] theorem serveRotateNow_frame (s : State) :
    (serveRotateNow s).1.pending = s.pending ∧ (serveRotateNow s).1.powered = s.powered ∧
    (serveRotateNow s).1.markerGood = s.markerGood ∧ (serveRotateNow s).1.meas = s.meas ∧
    (serveRotateNow s).1.sup = s.sup ∧ (serveRotateNow s).1.acct = s.acct ∧
    (serveRotateNow s).1.charge = s.charge ∧ (serveRotateNow s).1.prot = s.prot ∧
    (serveRotateNow s).1.bus = s.bus ∧ (serveRotateNow s).1.gen = s.gen ∧ (serveRotateNow s).1.cal = s.cal ∧
    (serveRotateNow s).1.store = s.store ∧ (serveRotateNow s).1.link = s.link := by
  refine ⟨?_, ?_, ?_, ?_, ?_, ?_, ?_, ?_, ?_, ?_, ?_, ?_, ?_⟩ <;> (unfold serveRotateNow; (repeat' split) <;> simp)

@[simp] theorem supervise_frame (s : State) :
    (supervise s).pending = s.pending ∧ (supervise s).powered = s.powered ∧
    (supervise s).markerGood = s.markerGood ∧ (supervise s).meas = s.meas ∧ (supervise s).acct = s.acct ∧
    (supervise s).charge = s.charge ∧ (supervise s).prot = s.prot ∧ (supervise s).rect = s.rect ∧
    (supervise s).bus = s.bus ∧ (supervise s).gen = s.gen ∧ (supervise s).cal = s.cal ∧
    (supervise s).store = s.store ∧ (supervise s).link = s.link := by
  simp [supervise]

@[simp] theorem protectionModeChange_frame (s : State) :
    (protectionModeChange s).pending = s.pending ∧ (protectionModeChange s).powered = s.powered ∧
    (protectionModeChange s).markerGood = s.markerGood ∧ (protectionModeChange s).meas = s.meas ∧
    (protectionModeChange s).sup = s.sup ∧ (protectionModeChange s).acct = s.acct ∧
    (protectionModeChange s).charge = s.charge ∧ (protectionModeChange s).rect = s.rect ∧
    (protectionModeChange s).bus = s.bus ∧ (protectionModeChange s).gen = s.gen ∧
    (protectionModeChange s).cal = s.cal ∧ (protectionModeChange s).store = s.store ∧
    (protectionModeChange s).link = s.link := by
  simp [protectionModeChange]

@[simp] theorem schedulerAcChange_frame (oldAc : Bool) (s : State) :
    (schedulerAcChange oldAc s).pending = s.pending ∧ (schedulerAcChange oldAc s).powered = s.powered ∧
    (schedulerAcChange oldAc s).markerGood = s.markerGood ∧ (schedulerAcChange oldAc s).meas = s.meas ∧
    (schedulerAcChange oldAc s).sup = s.sup ∧ (schedulerAcChange oldAc s).acct = s.acct ∧
    (schedulerAcChange oldAc s).charge = s.charge ∧ (schedulerAcChange oldAc s).prot = s.prot ∧
    (schedulerAcChange oldAc s).bus = s.bus ∧ (schedulerAcChange oldAc s).gen = s.gen ∧
    (schedulerAcChange oldAc s).cal = s.cal ∧ (schedulerAcChange oldAc s).store = s.store ∧
    (schedulerAcChange oldAc s).link = s.link := by
  simp [schedulerAcChange]

@[simp] theorem actOnMode_frame (old : Sup) (s : State) :
    (actOnMode old s).pending = s.pending ∧ (actOnMode old s).powered = s.powered ∧
    (actOnMode old s).markerGood = s.markerGood ∧ (actOnMode old s).meas = s.meas ∧
    (actOnMode old s).sup = s.sup ∧ (actOnMode old s).bus = s.bus ∧ (actOnMode old s).gen = s.gen ∧
    (actOnMode old s).cal = s.cal ∧ (actOnMode old s).store = s.store ∧ (actOnMode old s).link = s.link := by
  simp [actOnMode]

@[simp] theorem rederive_frame (s : State) :
    (rederive s).pending = s.pending ∧ (rederive s).powered = s.powered ∧
    (rederive s).markerGood = s.markerGood ∧ (rederive s).meas = s.meas ∧ (rederive s).bus = s.bus ∧
    (rederive s).gen = s.gen ∧ (rederive s).cal = s.cal ∧ (rederive s).store = s.store ∧
    (rederive s).link = s.link := by
  simp [rederive]

@[simp] theorem reportHold_frame (s : State) :
    (reportHold s).pending = s.pending ∧ (reportHold s).powered = s.powered ∧
    (reportHold s).markerGood = s.markerGood ∧ (reportHold s).meas = s.meas ∧ (reportHold s).sup = s.sup ∧
    (reportHold s).acct = s.acct ∧ (reportHold s).charge = s.charge ∧ (reportHold s).prot = s.prot ∧
    (reportHold s).rect = s.rect ∧ (reportHold s).bus = s.bus ∧ (reportHold s).gen = s.gen ∧
    (reportHold s).cal = s.cal ∧ (reportHold s).store = s.store ∧ (reportHold s).link = s.link := by
  simp [reportHold]

@[simp] theorem beginHold_frame (cause : HoldCause) (minutes : Nat) (s : State) :
    (beginHold cause minutes s).pending = s.pending ∧ (beginHold cause minutes s).powered = s.powered ∧
    (beginHold cause minutes s).markerGood = s.markerGood ∧ (beginHold cause minutes s).meas = s.meas ∧
    (beginHold cause minutes s).acct = s.acct ∧ (beginHold cause minutes s).charge = s.charge ∧
    (beginHold cause minutes s).prot = s.prot ∧ (beginHold cause minutes s).rect = s.rect ∧
    (beginHold cause minutes s).bus = s.bus ∧ (beginHold cause minutes s).gen = s.gen ∧
    (beginHold cause minutes s).cal = s.cal ∧ (beginHold cause minutes s).store = s.store ∧
    (beginHold cause minutes s).link = s.link := by
  simp [beginHold]

@[simp] theorem serveHold_frame (asked : Nat) (s : State) :
    (serveHold asked s).1.pending = s.pending ∧ (serveHold asked s).1.powered = s.powered ∧
    (serveHold asked s).1.markerGood = s.markerGood ∧ (serveHold asked s).1.meas = s.meas ∧
    (serveHold asked s).1.acct = s.acct ∧ (serveHold asked s).1.charge = s.charge ∧
    (serveHold asked s).1.prot = s.prot ∧ (serveHold asked s).1.rect = s.rect ∧
    (serveHold asked s).1.bus = s.bus ∧ (serveHold asked s).1.gen = s.gen ∧ (serveHold asked s).1.cal = s.cal ∧
    (serveHold asked s).1.store = s.store ∧ (serveHold asked s).1.link = s.link := by
  simp [serveHold]

@[simp] theorem keyTurned_frame (s : State) :
    (keyTurned s).pending = s.pending ∧ (keyTurned s).powered = s.powered ∧
    (keyTurned s).markerGood = s.markerGood ∧ (keyTurned s).meas = s.meas ∧ (keyTurned s).acct = s.acct ∧
    (keyTurned s).charge = s.charge ∧ (keyTurned s).prot = s.prot ∧ (keyTurned s).rect = s.rect ∧
    (keyTurned s).bus = s.bus ∧ (keyTurned s).gen = s.gen ∧ (keyTurned s).cal = s.cal ∧
    (keyTurned s).store = s.store ∧ (keyTurned s).link = s.link := by
  simp [keyTurned]

@[simp] theorem clearHold_frame (s : State) :
    (clearHold s).pending = s.pending ∧ (clearHold s).powered = s.powered ∧
    (clearHold s).markerGood = s.markerGood ∧ (clearHold s).meas = s.meas ∧ (clearHold s).acct = s.acct ∧
    (clearHold s).charge = s.charge ∧ (clearHold s).prot = s.prot ∧
    (clearHold s).bus = s.bus ∧ (clearHold s).gen = s.gen ∧ (clearHold s).cal = s.cal ∧
    (clearHold s).store = s.store ∧ (clearHold s).link = s.link := by
  simp [clearHold]

@[simp] theorem openNel_frame (cause : ShedCause) (s : State) :
    (openNel cause s).pending = s.pending ∧ (openNel cause s).powered = s.powered ∧
    (openNel cause s).markerGood = s.markerGood ∧ (openNel cause s).meas = s.meas ∧
    (openNel cause s).sup = s.sup ∧ (openNel cause s).acct = s.acct ∧ (openNel cause s).charge = s.charge ∧
    (openNel cause s).rect = s.rect ∧ (openNel cause s).bus = s.bus ∧ (openNel cause s).gen = s.gen ∧
    (openNel cause s).cal = s.cal ∧ (openNel cause s).store = s.store ∧ (openNel cause s).link = s.link := by
  simp [openNel]

@[simp] theorem closeNel_frame (s : State) :
    (closeNel s).pending = s.pending ∧ (closeNel s).powered = s.powered ∧
    (closeNel s).markerGood = s.markerGood ∧ (closeNel s).meas = s.meas ∧ (closeNel s).sup = s.sup ∧
    (closeNel s).acct = s.acct ∧ (closeNel s).charge = s.charge ∧ (closeNel s).rect = s.rect ∧
    (closeNel s).bus = s.bus ∧ (closeNel s).gen = s.gen ∧ (closeNel s).cal = s.cal ∧
    (closeNel s).store = s.store ∧ (closeNel s).link = s.link := by
  simp [closeNel]

@[simp] theorem openBpd_frame (s : State) :
    (openBpd s).pending = s.pending ∧ (openBpd s).powered = s.powered ∧ (openBpd s).markerGood = s.markerGood ∧
    (openBpd s).meas = s.meas ∧ (openBpd s).bus = s.bus ∧ (openBpd s).gen = s.gen ∧ (openBpd s).cal = s.cal ∧
    (openBpd s).store = s.store ∧ (openBpd s).link = s.link := by
  simp [openBpd]

@[simp] theorem closeBpd_frame (s : State) :
    (closeBpd s).pending = s.pending ∧ (closeBpd s).powered = s.powered ∧
    (closeBpd s).markerGood = s.markerGood ∧ (closeBpd s).meas = s.meas ∧ (closeBpd s).bus = s.bus ∧
    (closeBpd s).gen = s.gen ∧ (closeBpd s).cal = s.cal ∧ (closeBpd s).store = s.store ∧
    (closeBpd s).link = s.link := by
  simp [closeBpd]

@[simp] theorem shedWork_frame (s : State) :
    (shedWork s).pending = s.pending ∧ (shedWork s).powered = s.powered ∧
    (shedWork s).markerGood = s.markerGood ∧ (shedWork s).meas = s.meas ∧ (shedWork s).sup = s.sup ∧
    (shedWork s).acct = s.acct ∧ (shedWork s).charge = s.charge ∧ (shedWork s).rect = s.rect ∧
    (shedWork s).bus = s.bus ∧ (shedWork s).gen = s.gen ∧ (shedWork s).cal = s.cal ∧
    (shedWork s).store = s.store ∧ (shedWork s).link = s.link := by
  simp [shedWork]

@[simp] theorem nelWork_frame (s : State) :
    (nelWork s).pending = s.pending ∧ (nelWork s).powered = s.powered ∧ (nelWork s).markerGood = s.markerGood ∧
    (nelWork s).meas = s.meas ∧ (nelWork s).sup = s.sup ∧ (nelWork s).acct = s.acct ∧
    (nelWork s).charge = s.charge ∧ (nelWork s).rect = s.rect ∧ (nelWork s).bus = s.bus ∧
    (nelWork s).gen = s.gen ∧ (nelWork s).cal = s.cal ∧ (nelWork s).store = s.store ∧ (nelWork s).link = s.link := by
  simp [nelWork]

@[simp] theorem disconnectWork_frame (s : State) :
    (disconnectWork s).pending = s.pending ∧ (disconnectWork s).powered = s.powered ∧
    (disconnectWork s).markerGood = s.markerGood ∧ (disconnectWork s).meas = s.meas ∧
    (disconnectWork s).bus = s.bus ∧ (disconnectWork s).gen = s.gen ∧ (disconnectWork s).cal = s.cal ∧
    (disconnectWork s).store = s.store ∧ (disconnectWork s).link = s.link := by
  simp [disconnectWork]

@[simp] theorem reconnectWork_frame (s : State) :
    (reconnectWork s).pending = s.pending ∧ (reconnectWork s).powered = s.powered ∧
    (reconnectWork s).markerGood = s.markerGood ∧ (reconnectWork s).meas = s.meas ∧
    (reconnectWork s).bus = s.bus ∧ (reconnectWork s).gen = s.gen ∧ (reconnectWork s).cal = s.cal ∧
    (reconnectWork s).store = s.store ∧ (reconnectWork s).link = s.link := by
  simp [reconnectWork]

@[simp] theorem dischargeWork_frame (s : State) :
    (dischargeWork s).pending = s.pending ∧ (dischargeWork s).powered = s.powered ∧
    (dischargeWork s).markerGood = s.markerGood ∧ (dischargeWork s).meas = s.meas ∧
    (dischargeWork s).sup = s.sup ∧ (dischargeWork s).acct = s.acct ∧ (dischargeWork s).charge = s.charge ∧
    (dischargeWork s).rect = s.rect ∧ (dischargeWork s).bus = s.bus ∧ (dischargeWork s).gen = s.gen ∧
    (dischargeWork s).cal = s.cal ∧ (dischargeWork s).store = s.store ∧ (dischargeWork s).link = s.link := by
  simp [dischargeWork]

@[simp] theorem reportBus_frame (s : State) :
    (reportBus s).pending = s.pending ∧ (reportBus s).powered = s.powered ∧
    (reportBus s).markerGood = s.markerGood ∧ (reportBus s).meas = s.meas ∧ (reportBus s).sup = s.sup ∧
    (reportBus s).acct = s.acct ∧ (reportBus s).charge = s.charge ∧ (reportBus s).prot = s.prot ∧
    (reportBus s).rect = s.rect ∧ (reportBus s).bus = s.bus ∧ (reportBus s).gen = s.gen ∧
    (reportBus s).cal = s.cal ∧ (reportBus s).store = s.store ∧ (reportBus s).link = s.link := by
  simp [reportBus]

@[simp] theorem protectionEvent_frame (s : State) :
    (protectionEvent s).pending = s.pending ∧ (protectionEvent s).powered = s.powered ∧
    (protectionEvent s).markerGood = s.markerGood ∧ (protectionEvent s).meas = s.meas ∧
    (protectionEvent s).bus = s.bus ∧ (protectionEvent s).gen = s.gen ∧ (protectionEvent s).cal = s.cal ∧
    (protectionEvent s).store = s.store ∧ (protectionEvent s).link = s.link := by
  simp [protectionEvent]

@[simp] theorem reportClock_frame (s : State) :
    (reportClock s).pending = s.pending ∧ (reportClock s).powered = s.powered ∧
    (reportClock s).markerGood = s.markerGood ∧ (reportClock s).meas = s.meas ∧ (reportClock s).sup = s.sup ∧
    (reportClock s).acct = s.acct ∧ (reportClock s).charge = s.charge ∧ (reportClock s).prot = s.prot ∧
    (reportClock s).rect = s.rect ∧ (reportClock s).bus = s.bus ∧ (reportClock s).gen = s.gen ∧
    (reportClock s).cal = s.cal ∧ (reportClock s).store = s.store ∧ (reportClock s).link = s.link := by
  simp [reportClock]

@[simp] theorem reportMissed_frame (s : State) :
    (reportMissed s).pending = s.pending ∧ (reportMissed s).powered = s.powered ∧
    (reportMissed s).markerGood = s.markerGood ∧ (reportMissed s).meas = s.meas ∧ (reportMissed s).sup = s.sup ∧
    (reportMissed s).acct = s.acct ∧ (reportMissed s).charge = s.charge ∧ (reportMissed s).prot = s.prot ∧
    (reportMissed s).rect = s.rect ∧ (reportMissed s).bus = s.bus ∧ (reportMissed s).gen = s.gen ∧
    (reportMissed s).cal = s.cal ∧ (reportMissed s).store = s.store ∧ (reportMissed s).link = s.link := by
  simp [reportMissed]

@[simp] theorem dropCause_frame (s : State) :
    (dropCause s).pending = s.pending ∧ (dropCause s).powered = s.powered ∧
    (dropCause s).markerGood = s.markerGood ∧ (dropCause s).meas = s.meas ∧ (dropCause s).sup = s.sup ∧
    (dropCause s).acct = s.acct ∧ (dropCause s).charge = s.charge ∧ (dropCause s).prot = s.prot ∧
    (dropCause s).rect = s.rect ∧ (dropCause s).bus = s.bus ∧ (dropCause s).cal = s.cal ∧
    (dropCause s).alarm = s.alarm ∧ (dropCause s).store = s.store ∧ (dropCause s).link = s.link := by
  simp [dropCause]

@[simp] theorem exerciseRunBegins_frame (s : State) :
    (exerciseRunBegins s).pending = s.pending ∧ (exerciseRunBegins s).powered = s.powered ∧
    (exerciseRunBegins s).markerGood = s.markerGood ∧ (exerciseRunBegins s).meas = s.meas ∧
    (exerciseRunBegins s).sup = s.sup ∧ (exerciseRunBegins s).acct = s.acct ∧
    (exerciseRunBegins s).charge = s.charge ∧ (exerciseRunBegins s).prot = s.prot ∧
    (exerciseRunBegins s).rect = s.rect ∧ (exerciseRunBegins s).bus = s.bus ∧
    (exerciseRunBegins s).gen = s.gen ∧ (exerciseRunBegins s).alarm = s.alarm ∧
    (exerciseRunBegins s).store = s.store ∧ (exerciseRunBegins s).link = s.link := by
  simp [exerciseRunBegins]

@[simp] theorem exerciseServed_frame (s : State) :
    (exerciseServed s).pending = s.pending ∧ (exerciseServed s).powered = s.powered ∧
    (exerciseServed s).markerGood = s.markerGood ∧ (exerciseServed s).meas = s.meas ∧
    (exerciseServed s).sup = s.sup ∧ (exerciseServed s).acct = s.acct ∧ (exerciseServed s).charge = s.charge ∧
    (exerciseServed s).prot = s.prot ∧ (exerciseServed s).rect = s.rect ∧ (exerciseServed s).bus = s.bus ∧
    (exerciseServed s).store = s.store ∧ (exerciseServed s).link = s.link := by
  refine ⟨?_, ?_, ?_, ?_, ?_, ?_, ?_, ?_, ?_, ?_, ?_, ?_⟩ <;> (unfold exerciseServed; dsimp only; (repeat' split) <;> simp)

@[simp] theorem exerciseCounted_frame (s : State) :
    (exerciseCounted s).pending = s.pending ∧ (exerciseCounted s).powered = s.powered ∧
    (exerciseCounted s).markerGood = s.markerGood ∧ (exerciseCounted s).meas = s.meas ∧
    (exerciseCounted s).sup = s.sup ∧ (exerciseCounted s).acct = s.acct ∧
    (exerciseCounted s).charge = s.charge ∧ (exerciseCounted s).prot = s.prot ∧
    (exerciseCounted s).rect = s.rect ∧ (exerciseCounted s).bus = s.bus ∧ (exerciseCounted s).gen = s.gen ∧
    (exerciseCounted s).alarm = s.alarm ∧ (exerciseCounted s).store = s.store ∧
    (exerciseCounted s).link = s.link := by
  simp [exerciseCounted]

@[simp] theorem exerciseMissed_frame (s : State) :
    (exerciseMissed s).pending = s.pending ∧ (exerciseMissed s).powered = s.powered ∧
    (exerciseMissed s).markerGood = s.markerGood ∧ (exerciseMissed s).meas = s.meas ∧
    (exerciseMissed s).sup = s.sup ∧ (exerciseMissed s).acct = s.acct ∧ (exerciseMissed s).charge = s.charge ∧
    (exerciseMissed s).prot = s.prot ∧ (exerciseMissed s).rect = s.rect ∧ (exerciseMissed s).bus = s.bus ∧
    (exerciseMissed s).store = s.store ∧ (exerciseMissed s).link = s.link := by
  simp [exerciseMissed]

@[simp] theorem exerciseReturned_frame (s : State) :
    (exerciseReturned s).pending = s.pending ∧ (exerciseReturned s).powered = s.powered ∧
    (exerciseReturned s).markerGood = s.markerGood ∧ (exerciseReturned s).meas = s.meas ∧
    (exerciseReturned s).sup = s.sup ∧ (exerciseReturned s).acct = s.acct ∧
    (exerciseReturned s).charge = s.charge ∧ (exerciseReturned s).prot = s.prot ∧
    (exerciseReturned s).rect = s.rect ∧ (exerciseReturned s).bus = s.bus ∧
    (exerciseReturned s).store = s.store ∧ (exerciseReturned s).link = s.link := by
  refine ⟨?_, ?_, ?_, ?_, ?_, ?_, ?_, ?_, ?_, ?_, ?_, ?_⟩ <;> (unfold exerciseReturned; dsimp only; (repeat' split) <;> simp)

@[simp] theorem exerciseWithdrawn_frame (s : State) :
    (exerciseWithdrawn s).pending = s.pending ∧ (exerciseWithdrawn s).powered = s.powered ∧
    (exerciseWithdrawn s).markerGood = s.markerGood ∧ (exerciseWithdrawn s).meas = s.meas ∧
    (exerciseWithdrawn s).sup = s.sup ∧ (exerciseWithdrawn s).acct = s.acct ∧
    (exerciseWithdrawn s).charge = s.charge ∧ (exerciseWithdrawn s).prot = s.prot ∧
    (exerciseWithdrawn s).rect = s.rect ∧ (exerciseWithdrawn s).bus = s.bus ∧
    (exerciseWithdrawn s).alarm = s.alarm ∧ (exerciseWithdrawn s).store = s.store ∧
    (exerciseWithdrawn s).link = s.link := by
  simp [exerciseWithdrawn]

@[simp] theorem windowClosed_frame (s : State) :
    (windowClosed s).pending = s.pending ∧ (windowClosed s).powered = s.powered ∧
    (windowClosed s).markerGood = s.markerGood ∧ (windowClosed s).meas = s.meas ∧ (windowClosed s).sup = s.sup ∧
    (windowClosed s).acct = s.acct ∧ (windowClosed s).charge = s.charge ∧ (windowClosed s).prot = s.prot ∧
    (windowClosed s).rect = s.rect ∧ (windowClosed s).bus = s.bus ∧ (windowClosed s).store = s.store ∧
    (windowClosed s).link = s.link := by
  simp [windowClosed]

@[simp] theorem onRun_frame (f : Run → Run) (s : State) :
    (onRun f s).pending = s.pending ∧ (onRun f s).powered = s.powered ∧ (onRun f s).markerGood = s.markerGood ∧
    (onRun f s).meas = s.meas ∧ (onRun f s).sup = s.sup ∧ (onRun f s).acct = s.acct ∧
    (onRun f s).charge = s.charge ∧ (onRun f s).prot = s.prot ∧ (onRun f s).rect = s.rect ∧
    (onRun f s).bus = s.bus ∧ (onRun f s).cal = s.cal ∧ (onRun f s).alarm = s.alarm ∧
    (onRun f s).store = s.store ∧ (onRun f s).link = s.link := by
  simp [onRun]

@[simp] theorem onOpenRecord_frame (f : RunRec → RunRec) (s : State) :
    (onOpenRecord f s).pending = s.pending ∧ (onOpenRecord f s).powered = s.powered ∧
    (onOpenRecord f s).markerGood = s.markerGood ∧ (onOpenRecord f s).meas = s.meas ∧
    (onOpenRecord f s).sup = s.sup ∧ (onOpenRecord f s).acct = s.acct ∧ (onOpenRecord f s).charge = s.charge ∧
    (onOpenRecord f s).prot = s.prot ∧ (onOpenRecord f s).rect = s.rect ∧ (onOpenRecord f s).bus = s.bus ∧
    (onOpenRecord f s).cal = s.cal ∧ (onOpenRecord f s).alarm = s.alarm ∧ (onOpenRecord f s).store = s.store ∧
    (onOpenRecord f s).link = s.link := by
  simp [onOpenRecord]

@[simp] theorem reportLockout_frame (s : State) :
    (reportLockout s).pending = s.pending ∧ (reportLockout s).powered = s.powered ∧
    (reportLockout s).markerGood = s.markerGood ∧ (reportLockout s).meas = s.meas ∧
    (reportLockout s).sup = s.sup ∧ (reportLockout s).acct = s.acct ∧ (reportLockout s).charge = s.charge ∧
    (reportLockout s).prot = s.prot ∧ (reportLockout s).rect = s.rect ∧ (reportLockout s).bus = s.bus ∧
    (reportLockout s).gen = s.gen ∧ (reportLockout s).cal = s.cal ∧ (reportLockout s).store = s.store ∧
    (reportLockout s).link = s.link := by
  simp [reportLockout]

@[simp] theorem reportFuel_frame (s : State) :
    (reportFuel s).pending = s.pending ∧ (reportFuel s).powered = s.powered ∧
    (reportFuel s).markerGood = s.markerGood ∧ (reportFuel s).meas = s.meas ∧ (reportFuel s).sup = s.sup ∧
    (reportFuel s).acct = s.acct ∧ (reportFuel s).charge = s.charge ∧ (reportFuel s).prot = s.prot ∧
    (reportFuel s).rect = s.rect ∧ (reportFuel s).bus = s.bus ∧ (reportFuel s).gen = s.gen ∧
    (reportFuel s).cal = s.cal ∧ (reportFuel s).store = s.store ∧ (reportFuel s).link = s.link := by
  simp [reportFuel]

@[simp] theorem feedMoved_frame (s : State) :
    (feedMoved s).pending = s.pending ∧ (feedMoved s).powered = s.powered ∧
    (feedMoved s).markerGood = s.markerGood ∧ (feedMoved s).meas = s.meas ∧ (feedMoved s).bus = s.bus ∧
    (feedMoved s).gen = s.gen ∧ (feedMoved s).cal = s.cal ∧ (feedMoved s).store = s.store ∧
    (feedMoved s).link = s.link := by
  simp [feedMoved]

@[simp] theorem genEnter_frame (new : GenState) (s : State) :
    (genEnter new s).pending = s.pending ∧ (genEnter new s).powered = s.powered ∧
    (genEnter new s).markerGood = s.markerGood ∧ (genEnter new s).meas = s.meas ∧ (genEnter new s).bus = s.bus ∧
    (genEnter new s).cal = s.cal ∧ (genEnter new s).store = s.store ∧ (genEnter new s).link = s.link := by
  simp [genEnter]

@[simp] theorem enterCranking_frame (s : State) :
    (enterCranking s).pending = s.pending ∧ (enterCranking s).powered = s.powered ∧
    (enterCranking s).markerGood = s.markerGood ∧ (enterCranking s).meas = s.meas ∧
    (enterCranking s).bus = s.bus ∧ (enterCranking s).cal = s.cal ∧ (enterCranking s).store = s.store ∧
    (enterCranking s).link = s.link := by
  simp [enterCranking]

@[simp] theorem enterPriming_frame (s : State) :
    (enterPriming s).pending = s.pending ∧ (enterPriming s).powered = s.powered ∧
    (enterPriming s).markerGood = s.markerGood ∧ (enterPriming s).meas = s.meas ∧ (enterPriming s).bus = s.bus ∧
    (enterPriming s).cal = s.cal ∧ (enterPriming s).store = s.store ∧ (enterPriming s).link = s.link := by
  simp [enterPriming]

@[simp] theorem beginRun_frame (basis : Basis) (opening : Option Basis) (load : Bool) (duration : Option Nat) (s : State) :
    (beginRun basis opening load duration s).pending = s.pending ∧
    (beginRun basis opening load duration s).powered = s.powered ∧
    (beginRun basis opening load duration s).markerGood = s.markerGood ∧
    (beginRun basis opening load duration s).meas = s.meas ∧
    (beginRun basis opening load duration s).bus = s.bus ∧
    (beginRun basis opening load duration s).store = s.store ∧
    (beginRun basis opening load duration s).link = s.link := by
  simp [beginRun]

@[simp] theorem beginCause_frame (b : Basis) (s : State) :
    (beginCause b s).pending = s.pending ∧ (beginCause b s).powered = s.powered ∧
    (beginCause b s).markerGood = s.markerGood ∧ (beginCause b s).meas = s.meas ∧ (beginCause b s).bus = s.bus ∧
    (beginCause b s).store = s.store ∧ (beginCause b s).link = s.link := by
  refine ⟨?_, ?_, ?_, ?_, ?_, ?_, ?_⟩ <;> (unfold beginCause; (repeat' split) <;> simp)

@[simp] theorem evaluateStart_frame (s : State) :
    (evaluateStart s).pending = s.pending ∧ (evaluateStart s).powered = s.powered ∧
    (evaluateStart s).markerGood = s.markerGood ∧ (evaluateStart s).meas = s.meas ∧
    (evaluateStart s).bus = s.bus ∧ (evaluateStart s).store = s.store ∧ (evaluateStart s).link = s.link := by
  refine ⟨?_, ?_, ?_, ?_, ?_, ?_, ?_⟩ <;> (unfold evaluateStart; (repeat' split) <;> simp)

@[simp] theorem closeRun_frame (final : GenState) (s : State) :
    (closeRun final s).pending = s.pending ∧ (closeRun final s).powered = s.powered ∧
    (closeRun final s).markerGood = s.markerGood ∧ (closeRun final s).meas = s.meas ∧
    (closeRun final s).bus = s.bus ∧ (closeRun final s).store = s.store ∧ (closeRun final s).link = s.link := by
  refine ⟨?_, ?_, ?_, ?_, ?_, ?_, ?_⟩ <;> (unfold closeRun; dsimp only; (repeat' split) <;> simp)

@[simp] theorem setStop_frame (reason : StopReason) (s : State) :
    (setStop reason s).pending = s.pending ∧ (setStop reason s).powered = s.powered ∧
    (setStop reason s).markerGood = s.markerGood ∧ (setStop reason s).meas = s.meas ∧
    (setStop reason s).sup = s.sup ∧ (setStop reason s).acct = s.acct ∧ (setStop reason s).charge = s.charge ∧
    (setStop reason s).prot = s.prot ∧ (setStop reason s).rect = s.rect ∧ (setStop reason s).bus = s.bus ∧
    (setStop reason s).cal = s.cal ∧ (setStop reason s).alarm = s.alarm ∧ (setStop reason s).store = s.store ∧
    (setStop reason s).link = s.link := by
  simp [setStop]

@[simp] theorem setFail_frame (reason : Option FailReason) (s : State) :
    (setFail reason s).pending = s.pending ∧ (setFail reason s).powered = s.powered ∧
    (setFail reason s).markerGood = s.markerGood ∧ (setFail reason s).meas = s.meas ∧
    (setFail reason s).sup = s.sup ∧ (setFail reason s).acct = s.acct ∧ (setFail reason s).charge = s.charge ∧
    (setFail reason s).prot = s.prot ∧ (setFail reason s).rect = s.rect ∧ (setFail reason s).bus = s.bus ∧
    (setFail reason s).cal = s.cal ∧ (setFail reason s).store = s.store ∧ (setFail reason s).link = s.link := by
  simp [setFail]

@[simp] theorem confirmStop_frame (s : State) :
    (confirmStop s).pending = s.pending ∧ (confirmStop s).powered = s.powered ∧
    (confirmStop s).markerGood = s.markerGood ∧ (confirmStop s).meas = s.meas ∧ (confirmStop s).bus = s.bus ∧
    (confirmStop s).store = s.store ∧ (confirmStop s).link = s.link := by
  simp [confirmStop]

@[simp] theorem enterStopping_frame (s : State) :
    (enterStopping s).pending = s.pending ∧ (enterStopping s).powered = s.powered ∧
    (enterStopping s).markerGood = s.markerGood ∧ (enterStopping s).meas = s.meas ∧
    (enterStopping s).bus = s.bus ∧ (enterStopping s).store = s.store ∧ (enterStopping s).link = s.link := by
  simp [enterStopping]

@[simp] theorem enterCooldown_frame (s : State) :
    (enterCooldown s).pending = s.pending ∧ (enterCooldown s).powered = s.powered ∧
    (enterCooldown s).markerGood = s.markerGood ∧ (enterCooldown s).meas = s.meas ∧
    (enterCooldown s).bus = s.bus ∧ (enterCooldown s).store = s.store ∧ (enterCooldown s).link = s.link := by
  simp [enterCooldown]

@[simp] theorem endRun_frame (reason : StopReason) (s : State) :
    (endRun reason s).pending = s.pending ∧ (endRun reason s).powered = s.powered ∧
    (endRun reason s).markerGood = s.markerGood ∧ (endRun reason s).meas = s.meas ∧
    (endRun reason s).bus = s.bus ∧ (endRun reason s).store = s.store ∧ (endRun reason s).link = s.link := by
  refine ⟨?_, ?_, ?_, ?_, ?_, ?_, ?_⟩ <;> (unfold endRun; (repeat' split) <;> simp)

@[simp] theorem startFailed_frame (s : State) :
    (startFailed s).pending = s.pending ∧ (startFailed s).powered = s.powered ∧
    (startFailed s).markerGood = s.markerGood ∧ (startFailed s).meas = s.meas ∧ (startFailed s).bus = s.bus ∧
    (startFailed s).store = s.store ∧ (startFailed s).link = s.link := by
  simp [startFailed]

@[simp] theorem stopFailed_frame (s : State) :
    (stopFailed s).pending = s.pending ∧ (stopFailed s).powered = s.powered ∧
    (stopFailed s).markerGood = s.markerGood ∧ (stopFailed s).meas = s.meas ∧ (stopFailed s).bus = s.bus ∧
    (stopFailed s).store = s.store ∧ (stopFailed s).link = s.link := by
  simp [stopFailed]

@[simp] theorem engineFails_frame (reason : StopReason) (fail : FailReason) (s : State) :
    (engineFails reason fail s).pending = s.pending ∧ (engineFails reason fail s).powered = s.powered ∧
    (engineFails reason fail s).markerGood = s.markerGood ∧ (engineFails reason fail s).meas = s.meas ∧
    (engineFails reason fail s).bus = s.bus ∧ (engineFails reason fail s).store = s.store ∧
    (engineFails reason fail s).link = s.link := by
  simp [engineFails]

@[simp] theorem takeEngineFault_frame (s : State) :
    (takeEngineFault s).pending = s.pending ∧ (takeEngineFault s).powered = s.powered ∧
    (takeEngineFault s).markerGood = s.markerGood ∧ (takeEngineFault s).meas = s.meas ∧
    (takeEngineFault s).bus = s.bus ∧ (takeEngineFault s).store = s.store ∧ (takeEngineFault s).link = s.link := by
  simp [takeEngineFault]

@[simp] theorem attemptFailed_frame (s : State) :
    (attemptFailed s).pending = s.pending ∧ (attemptFailed s).powered = s.powered ∧
    (attemptFailed s).markerGood = s.markerGood ∧ (attemptFailed s).meas = s.meas ∧
    (attemptFailed s).bus = s.bus ∧ (attemptFailed s).store = s.store ∧ (attemptFailed s).link = s.link := by
  simp [attemptFailed]

@[simp] theorem retakeLoad_frame (s : State) :
    (retakeLoad s).pending = s.pending ∧ (retakeLoad s).powered = s.powered ∧
    (retakeLoad s).markerGood = s.markerGood ∧ (retakeLoad s).meas = s.meas ∧ (retakeLoad s).bus = s.bus ∧
    (retakeLoad s).cal = s.cal ∧ (retakeLoad s).store = s.store ∧ (retakeLoad s).link = s.link := by
  refine ⟨?_, ?_, ?_, ?_, ?_, ?_, ?_, ?_⟩ <;> (unfold retakeLoad; (repeat' split) <;> simp)

@[simp] theorem warmupEnds_frame (s : State) :
    (warmupEnds s).pending = s.pending ∧ (warmupEnds s).powered = s.powered ∧
    (warmupEnds s).markerGood = s.markerGood ∧ (warmupEnds s).meas = s.meas ∧ (warmupEnds s).bus = s.bus ∧
    (warmupEnds s).store = s.store ∧ (warmupEnds s).link = s.link := by
  refine ⟨?_, ?_, ?_, ?_, ?_, ?_, ?_⟩ <;> (unfold warmupEnds; dsimp only; (repeat' split) <;> simp)

@[simp] theorem genAcChanged_frame (s : State) :
    (genAcChanged s).pending = s.pending ∧ (genAcChanged s).powered = s.powered ∧
    (genAcChanged s).markerGood = s.markerGood ∧ (genAcChanged s).meas = s.meas ∧ (genAcChanged s).bus = s.bus ∧
    (genAcChanged s).store = s.store ∧ (genAcChanged s).link = s.link := by
  refine ⟨?_, ?_, ?_, ?_, ?_, ?_, ?_⟩ <;> (unfold genAcChanged; (repeat' split) <;> simp)

@[simp] theorem convertExercise_frame (s : State) :
    (convertExercise s).pending = s.pending ∧ (convertExercise s).powered = s.powered ∧
    (convertExercise s).markerGood = s.markerGood ∧ (convertExercise s).meas = s.meas ∧
    (convertExercise s).sup = s.sup ∧ (convertExercise s).acct = s.acct ∧
    (convertExercise s).charge = s.charge ∧ (convertExercise s).prot = s.prot ∧
    (convertExercise s).rect = s.rect ∧ (convertExercise s).bus = s.bus ∧ (convertExercise s).cal = s.cal ∧
    (convertExercise s).alarm = s.alarm ∧ (convertExercise s).store = s.store ∧
    (convertExercise s).link = s.link := by
  refine ⟨?_, ?_, ?_, ?_, ?_, ?_, ?_, ?_, ?_, ?_, ?_, ?_, ?_, ?_⟩ <;> (unfold convertExercise; (repeat' split) <;> simp)

@[simp] theorem genMainsChanged_frame (s : State) :
    (genMainsChanged s).pending = s.pending ∧ (genMainsChanged s).powered = s.powered ∧
    (genMainsChanged s).markerGood = s.markerGood ∧ (genMainsChanged s).meas = s.meas ∧
    (genMainsChanged s).bus = s.bus ∧ (genMainsChanged s).cal = s.cal ∧ (genMainsChanged s).store = s.store ∧
    (genMainsChanged s).link = s.link := by
  simp [genMainsChanged]

@[simp] theorem stopRun_frame (reason : StopReason) (r : Run) (s : State) :
    (stopRun reason r s).pending = s.pending ∧ (stopRun reason r s).powered = s.powered ∧
    (stopRun reason r s).markerGood = s.markerGood ∧ (stopRun reason r s).meas = s.meas ∧
    (stopRun reason r s).bus = s.bus ∧ (stopRun reason r s).store = s.store ∧ (stopRun reason r s).link = s.link := by
  simp [stopRun]

@[simp] theorem stopTest_frame (s : State) :
    (stopTest s).pending = s.pending ∧ (stopTest s).powered = s.powered ∧
    (stopTest s).markerGood = s.markerGood ∧ (stopTest s).meas = s.meas ∧ (stopTest s).bus = s.bus ∧
    (stopTest s).store = s.store ∧ (stopTest s).link = s.link := by
  refine ⟨?_, ?_, ?_, ?_, ?_, ?_, ?_⟩ <;> (unfold stopTest; (repeat' split) <;> simp)

@[simp] theorem leaveFailed_frame (s : State) :
    (leaveFailed s).pending = s.pending ∧ (leaveFailed s).powered = s.powered ∧
    (leaveFailed s).markerGood = s.markerGood ∧ (leaveFailed s).meas = s.meas ∧ (leaveFailed s).bus = s.bus ∧
    (leaveFailed s).store = s.store ∧ (leaveFailed s).link = s.link := by
  simp [leaveFailed]

@[simp] theorem genCounts_frame (s : State) :
    (genCounts s).pending = s.pending ∧ (genCounts s).powered = s.powered ∧
    (genCounts s).markerGood = s.markerGood ∧ (genCounts s).meas = s.meas ∧ (genCounts s).sup = s.sup ∧
    (genCounts s).acct = s.acct ∧ (genCounts s).charge = s.charge ∧ (genCounts s).prot = s.prot ∧
    (genCounts s).rect = s.rect ∧ (genCounts s).bus = s.bus ∧ (genCounts s).cal = s.cal ∧
    (genCounts s).alarm = s.alarm ∧ (genCounts s).store = s.store ∧ (genCounts s).link = s.link := by
  simp [genCounts]

@[simp] theorem genFuel_frame (s : State) :
    (genFuel s).pending = s.pending ∧ (genFuel s).powered = s.powered ∧ (genFuel s).markerGood = s.markerGood ∧
    (genFuel s).meas = s.meas ∧ (genFuel s).bus = s.bus ∧ (genFuel s).store = s.store ∧
    (genFuel s).link = s.link := by
  simp [genFuel]

@[simp] theorem genFitted_frame (s : State) :
    (genFitted s).pending = s.pending ∧ (genFitted s).powered = s.powered ∧
    (genFitted s).markerGood = s.markerGood ∧ (genFitted s).meas = s.meas ∧ (genFitted s).bus = s.bus ∧
    (genFitted s).store = s.store ∧ (genFitted s).link = s.link := by
  simp [genFitted]

@[simp] theorem crankExpired_frame (s : State) :
    (crankExpired s).pending = s.pending ∧ (crankExpired s).powered = s.powered ∧
    (crankExpired s).markerGood = s.markerGood ∧ (crankExpired s).meas = s.meas ∧ (crankExpired s).bus = s.bus ∧
    (crankExpired s).store = s.store ∧ (crankExpired s).link = s.link := by
  simp [crankExpired]

@[simp] theorem stopExpired_frame (s : State) :
    (stopExpired s).pending = s.pending ∧ (stopExpired s).powered = s.powered ∧
    (stopExpired s).markerGood = s.markerGood ∧ (stopExpired s).meas = s.meas ∧ (stopExpired s).bus = s.bus ∧
    (stopExpired s).store = s.store ∧ (stopExpired s).link = s.link := by
  simp [stopExpired]

@[simp] theorem genTimed_frame (s : State) :
    (genTimed s).pending = s.pending ∧ (genTimed s).powered = s.powered ∧
    (genTimed s).markerGood = s.markerGood ∧ (genTimed s).meas = s.meas ∧ (genTimed s).bus = s.bus ∧
    (genTimed s).store = s.store ∧ (genTimed s).link = s.link := by
  refine ⟨?_, ?_, ?_, ?_, ?_, ?_, ?_⟩ <;> (unfold genTimed; (repeat' split) <;> simp)

@[simp] theorem genEvent_frame (s : State) :
    (genEvent s).pending = s.pending ∧ (genEvent s).powered = s.powered ∧
    (genEvent s).markerGood = s.markerGood ∧ (genEvent s).meas = s.meas ∧ (genEvent s).bus = s.bus ∧
    (genEvent s).store = s.store ∧ (genEvent s).link = s.link := by
  simp [genEvent]

@[simp] theorem convertManual_frame (load : Bool) (minutes : Nat) (s : State) :
    (convertManual load minutes s).pending = s.pending ∧ (convertManual load minutes s).powered = s.powered ∧
    (convertManual load minutes s).markerGood = s.markerGood ∧ (convertManual load minutes s).meas = s.meas ∧
    (convertManual load minutes s).bus = s.bus ∧ (convertManual load minutes s).cal = s.cal ∧
    (convertManual load minutes s).store = s.store ∧ (convertManual load minutes s).link = s.link := by
  simp [convertManual]

@[simp] theorem startManual_frame (load : Bool) (minutes : Nat) (s : State) :
    (startManual load minutes s).pending = s.pending ∧ (startManual load minutes s).powered = s.powered ∧
    (startManual load minutes s).markerGood = s.markerGood ∧ (startManual load minutes s).meas = s.meas ∧
    (startManual load minutes s).bus = s.bus ∧ (startManual load minutes s).store = s.store ∧
    (startManual load minutes s).link = s.link := by
  refine ⟨?_, ?_, ?_, ?_, ?_, ?_, ?_⟩ <;> (unfold startManual; dsimp only; (repeat' split) <;> simp)

@[simp] theorem serveGenStart_frame (minutes loadFlag : Nat) (s : State) :
    (serveGenStart minutes loadFlag s).1.pending = s.pending ∧
    (serveGenStart minutes loadFlag s).1.powered = s.powered ∧
    (serveGenStart minutes loadFlag s).1.markerGood = s.markerGood ∧
    (serveGenStart minutes loadFlag s).1.meas = s.meas ∧ (serveGenStart minutes loadFlag s).1.bus = s.bus ∧
    (serveGenStart minutes loadFlag s).1.store = s.store ∧ (serveGenStart minutes loadFlag s).1.link = s.link := by
  refine ⟨?_, ?_, ?_, ?_, ?_, ?_, ?_⟩ <;> (unfold serveGenStart; (repeat' split) <;> simp)

@[simp] theorem serveGenStop_frame (s : State) :
    (serveGenStop s).1.pending = s.pending ∧ (serveGenStop s).1.powered = s.powered ∧
    (serveGenStop s).1.markerGood = s.markerGood ∧ (serveGenStop s).1.meas = s.meas ∧
    (serveGenStop s).1.bus = s.bus ∧ (serveGenStop s).1.store = s.store ∧ (serveGenStop s).1.link = s.link := by
  refine ⟨?_, ?_, ?_, ?_, ?_, ?_, ?_⟩ <;> (unfold serveGenStop; dsimp only; (repeat' split) <;> simp)

@[simp] theorem takeExercise_frame (s : State) :
    (takeExercise s).pending = s.pending ∧ (takeExercise s).powered = s.powered ∧
    (takeExercise s).markerGood = s.markerGood ∧ (takeExercise s).meas = s.meas ∧ (takeExercise s).bus = s.bus ∧
    (takeExercise s).store = s.store ∧ (takeExercise s).link = s.link := by
  simp [takeExercise]

@[simp] theorem inhibitChanged_frame (s : State) :
    (inhibitChanged s).pending = s.pending ∧ (inhibitChanged s).powered = s.powered ∧
    (inhibitChanged s).markerGood = s.markerGood ∧ (inhibitChanged s).meas = s.meas ∧
    (inhibitChanged s).bus = s.bus ∧ (inhibitChanged s).store = s.store ∧ (inhibitChanged s).link = s.link := by
  simp [inhibitChanged]

@[simp] theorem makeDue_frame (s : State) :
    (makeDue s).pending = s.pending ∧ (makeDue s).powered = s.powered ∧ (makeDue s).markerGood = s.markerGood ∧
    (makeDue s).meas = s.meas ∧ (makeDue s).bus = s.bus ∧ (makeDue s).store = s.store ∧
    (makeDue s).link = s.link := by
  simp [makeDue]

@[simp] theorem dueTest_frame (s : State) :
    (dueTest s).pending = s.pending ∧ (dueTest s).powered = s.powered ∧ (dueTest s).markerGood = s.markerGood ∧
    (dueTest s).meas = s.meas ∧ (dueTest s).bus = s.bus ∧ (dueTest s).store = s.store ∧
    (dueTest s).link = s.link := by
  simp [dueTest]

@[simp] theorem boundaryTest_frame (s : State) :
    (boundaryTest s).pending = s.pending ∧ (boundaryTest s).powered = s.powered ∧
    (boundaryTest s).markerGood = s.markerGood ∧ (boundaryTest s).meas = s.meas ∧ (boundaryTest s).sup = s.sup ∧
    (boundaryTest s).acct = s.acct ∧ (boundaryTest s).prot = s.prot ∧ (boundaryTest s).rect = s.rect ∧
    (boundaryTest s).bus = s.bus ∧ (boundaryTest s).gen = s.gen ∧ (boundaryTest s).cal = s.cal ∧
    (boundaryTest s).store = s.store ∧ (boundaryTest s).link = s.link := by
  simp [boundaryTest]

@[simp] theorem clockTest_frame (was : Bool) (s : State) :
    (clockTest was s).pending = s.pending ∧ (clockTest was s).powered = s.powered ∧
    (clockTest was s).markerGood = s.markerGood ∧ (clockTest was s).meas = s.meas ∧
    (clockTest was s).sup = s.sup ∧ (clockTest was s).acct = s.acct ∧ (clockTest was s).charge = s.charge ∧
    (clockTest was s).prot = s.prot ∧ (clockTest was s).rect = s.rect ∧ (clockTest was s).bus = s.bus ∧
    (clockTest was s).gen = s.gen ∧ (clockTest was s).cal = s.cal ∧ (clockTest was s).store = s.store ∧
    (clockTest was s).link = s.link := by
  simp [clockTest]

@[simp] theorem timeCarried_frame (was : Bool) (s : State) :
    (timeCarried was s).pending = s.pending ∧ (timeCarried was s).powered = s.powered ∧
    (timeCarried was s).markerGood = s.markerGood ∧ (timeCarried was s).meas = s.meas ∧
    (timeCarried was s).bus = s.bus ∧ (timeCarried was s).store = s.store ∧ (timeCarried was s).link = s.link := by
  simp [timeCarried]

@[simp] theorem poweredTick_frame (s : State) :
    (poweredTick s).pending = s.pending ∧ (poweredTick s).powered = s.powered ∧
    (poweredTick s).markerGood = s.markerGood ∧ (poweredTick s).meas = s.meas ∧ (poweredTick s).bus = s.bus ∧
    (poweredTick s).store = s.store ∧ (poweredTick s).link = s.link := by
  simp [poweredTick]

@[simp] theorem unpoweredTick_frame (s : State) :
    (unpoweredTick s).pending = s.pending ∧ (unpoweredTick s).powered = s.powered ∧
    (unpoweredTick s).markerGood = s.markerGood ∧ (unpoweredTick s).meas = s.meas ∧
    (unpoweredTick s).sup = s.sup ∧ (unpoweredTick s).acct = s.acct ∧ (unpoweredTick s).charge = s.charge ∧
    (unpoweredTick s).prot = s.prot ∧ (unpoweredTick s).rect = s.rect ∧ (unpoweredTick s).bus = s.bus ∧
    (unpoweredTick s).gen = s.gen ∧ (unpoweredTick s).alarm = s.alarm ∧ (unpoweredTick s).store = s.store ∧
    (unpoweredTick s).link = s.link := by
  simp [unpoweredTick]

@[simp] theorem calendarEvent_frame (s : State) :
    (calendarEvent s).pending = s.pending ∧ (calendarEvent s).powered = s.powered ∧
    (calendarEvent s).markerGood = s.markerGood ∧ (calendarEvent s).meas = s.meas ∧
    (calendarEvent s).bus = s.bus ∧ (calendarEvent s).store = s.store ∧ (calendarEvent s).link = s.link := by
  refine ⟨?_, ?_, ?_, ?_, ?_, ?_, ?_⟩ <;> (unfold calendarEvent; dsimp only; (repeat' split) <;> simp)

@[simp] theorem serveSetClock_frame (year month day hour minute second : Nat) (s : State) :
    (serveSetClock year month day hour minute second s).1.pending = s.pending ∧
    (serveSetClock year month day hour minute second s).1.powered = s.powered ∧
    (serveSetClock year month day hour minute second s).1.markerGood = s.markerGood ∧
    (serveSetClock year month day hour minute second s).1.meas = s.meas ∧
    (serveSetClock year month day hour minute second s).1.sup = s.sup ∧
    (serveSetClock year month day hour minute second s).1.acct = s.acct ∧
    (serveSetClock year month day hour minute second s).1.charge = s.charge ∧
    (serveSetClock year month day hour minute second s).1.prot = s.prot ∧
    (serveSetClock year month day hour minute second s).1.rect = s.rect ∧
    (serveSetClock year month day hour minute second s).1.bus = s.bus ∧
    (serveSetClock year month day hour minute second s).1.gen = s.gen ∧
    (serveSetClock year month day hour minute second s).1.store = s.store ∧
    (serveSetClock year month day hour minute second s).1.link = s.link := by
  refine ⟨?_, ?_, ?_, ?_, ?_, ?_, ?_, ?_, ?_, ?_, ?_, ?_, ?_⟩ <;> (unfold serveSetClock; dsimp only; (repeat' split) <;> simp)

@[simp] theorem serveAlign_frame (s : State) :
    (serveAlign s).1.pending = s.pending ∧ (serveAlign s).1.powered = s.powered ∧
    (serveAlign s).1.markerGood = s.markerGood ∧ (serveAlign s).1.meas = s.meas ∧ (serveAlign s).1.bus = s.bus ∧
    (serveAlign s).1.store = s.store ∧ (serveAlign s).1.link = s.link := by
  refine ⟨?_, ?_, ?_, ?_, ?_, ?_, ?_⟩ <;> (unfold serveAlign; dsimp only; (repeat' split) <;> simp)

@[simp] theorem reportSettings_frame (s : State) :
    (reportSettings s).pending = s.pending ∧ (reportSettings s).powered = s.powered ∧
    (reportSettings s).markerGood = s.markerGood ∧ (reportSettings s).meas = s.meas ∧
    (reportSettings s).sup = s.sup ∧ (reportSettings s).acct = s.acct ∧ (reportSettings s).charge = s.charge ∧
    (reportSettings s).prot = s.prot ∧ (reportSettings s).rect = s.rect ∧ (reportSettings s).bus = s.bus ∧
    (reportSettings s).gen = s.gen ∧ (reportSettings s).cal = s.cal ∧ (reportSettings s).store = s.store ∧
    (reportSettings s).link = s.link := by
  simp [reportSettings]

@[simp] theorem relock_frame (s : State) :
    (relock s).pending = s.pending ∧ (relock s).powered = s.powered ∧ (relock s).markerGood = s.markerGood ∧
    (relock s).meas = s.meas ∧ (relock s).sup = s.sup ∧ (relock s).acct = s.acct ∧
    (relock s).charge = s.charge ∧ (relock s).prot = s.prot ∧ (relock s).rect = s.rect ∧
    (relock s).bus = s.bus ∧ (relock s).gen = s.gen ∧ (relock s).cal = s.cal ∧ (relock s).alarm = s.alarm ∧
    (relock s).link = s.link := by
  simp [relock]

@[simp] theorem relockGroup_frame (g : Nat) (s : State) :
    (relockGroup g s).pending = s.pending ∧ (relockGroup g s).powered = s.powered ∧
    (relockGroup g s).markerGood = s.markerGood ∧ (relockGroup g s).meas = s.meas ∧
    (relockGroup g s).sup = s.sup ∧ (relockGroup g s).acct = s.acct ∧ (relockGroup g s).charge = s.charge ∧
    (relockGroup g s).prot = s.prot ∧ (relockGroup g s).rect = s.rect ∧ (relockGroup g s).bus = s.bus ∧
    (relockGroup g s).gen = s.gen ∧ (relockGroup g s).cal = s.cal ∧ (relockGroup g s).alarm = s.alarm ∧
    (relockGroup g s).link = s.link := by
  simp [relockGroup]

@[simp] theorem relockKeyed_frame (s : State) :
    (relockKeyed s).pending = s.pending ∧ (relockKeyed s).powered = s.powered ∧
    (relockKeyed s).markerGood = s.markerGood ∧ (relockKeyed s).meas = s.meas ∧ (relockKeyed s).sup = s.sup ∧
    (relockKeyed s).acct = s.acct ∧ (relockKeyed s).charge = s.charge ∧ (relockKeyed s).prot = s.prot ∧
    (relockKeyed s).rect = s.rect ∧ (relockKeyed s).bus = s.bus ∧ (relockKeyed s).gen = s.gen ∧
    (relockKeyed s).cal = s.cal ∧ (relockKeyed s).alarm = s.alarm ∧ (relockKeyed s).link = s.link := by
  refine ⟨?_, ?_, ?_, ?_, ?_, ?_, ?_, ?_, ?_, ?_, ?_, ?_, ?_, ?_⟩ <;> (unfold relockKeyed; (repeat' split) <;> simp)

@[simp] theorem storeEvent_frame (s : State) :
    (storeEvent s).pending = s.pending ∧ (storeEvent s).powered = s.powered ∧
    (storeEvent s).markerGood = s.markerGood ∧ (storeEvent s).meas = s.meas ∧ (storeEvent s).sup = s.sup ∧
    (storeEvent s).acct = s.acct ∧ (storeEvent s).charge = s.charge ∧ (storeEvent s).prot = s.prot ∧
    (storeEvent s).rect = s.rect ∧ (storeEvent s).bus = s.bus ∧ (storeEvent s).gen = s.gen ∧
    (storeEvent s).cal = s.cal ∧ (storeEvent s).alarm = s.alarm ∧ (storeEvent s).link = s.link := by
  simp [storeEvent]

@[simp] theorem judgeUnlock_frame (g : Nat) (signature : Half) (s : State) :
    (judgeUnlock g signature s).1.pending = s.pending ∧ (judgeUnlock g signature s).1.powered = s.powered ∧
    (judgeUnlock g signature s).1.markerGood = s.markerGood ∧ (judgeUnlock g signature s).1.meas = s.meas ∧
    (judgeUnlock g signature s).1.sup = s.sup ∧ (judgeUnlock g signature s).1.acct = s.acct ∧
    (judgeUnlock g signature s).1.charge = s.charge ∧ (judgeUnlock g signature s).1.prot = s.prot ∧
    (judgeUnlock g signature s).1.rect = s.rect ∧ (judgeUnlock g signature s).1.bus = s.bus ∧
    (judgeUnlock g signature s).1.gen = s.gen ∧ (judgeUnlock g signature s).1.cal = s.cal ∧
    (judgeUnlock g signature s).1.alarm = s.alarm ∧ (judgeUnlock g signature s).1.link = s.link := by
  refine ⟨?_, ?_, ?_, ?_, ?_, ?_, ?_, ?_, ?_, ?_, ?_, ?_, ?_, ?_⟩ <;> (unfold judgeUnlock; (repeat' split) <;> simp)

@[simp] theorem serveUnlock_frame (g : Nat) (signature : Half) (s : State) :
    (serveUnlock g signature s).1.pending = s.pending ∧ (serveUnlock g signature s).1.powered = s.powered ∧
    (serveUnlock g signature s).1.markerGood = s.markerGood ∧ (serveUnlock g signature s).1.meas = s.meas ∧
    (serveUnlock g signature s).1.sup = s.sup ∧ (serveUnlock g signature s).1.acct = s.acct ∧
    (serveUnlock g signature s).1.charge = s.charge ∧ (serveUnlock g signature s).1.prot = s.prot ∧
    (serveUnlock g signature s).1.rect = s.rect ∧ (serveUnlock g signature s).1.bus = s.bus ∧
    (serveUnlock g signature s).1.gen = s.gen ∧ (serveUnlock g signature s).1.cal = s.cal ∧
    (serveUnlock g signature s).1.alarm = s.alarm ∧ (serveUnlock g signature s).1.link = s.link := by
  refine ⟨?_, ?_, ?_, ?_, ?_, ?_, ?_, ?_, ?_, ?_, ?_, ?_, ?_, ?_⟩ <;> (unfold serveUnlock; (repeat' split) <;> simp)

@[simp] theorem serveRelock_frame (g : Nat) (s : State) :
    (serveRelock g s).1.pending = s.pending ∧ (serveRelock g s).1.powered = s.powered ∧
    (serveRelock g s).1.markerGood = s.markerGood ∧ (serveRelock g s).1.meas = s.meas ∧
    (serveRelock g s).1.sup = s.sup ∧ (serveRelock g s).1.acct = s.acct ∧
    (serveRelock g s).1.charge = s.charge ∧ (serveRelock g s).1.prot = s.prot ∧
    (serveRelock g s).1.rect = s.rect ∧ (serveRelock g s).1.bus = s.bus ∧ (serveRelock g s).1.gen = s.gen ∧
    (serveRelock g s).1.cal = s.cal ∧ (serveRelock g s).1.alarm = s.alarm ∧ (serveRelock g s).1.link = s.link := by
  refine ⟨?_, ?_, ?_, ?_, ?_, ?_, ?_, ?_, ?_, ?_, ?_, ?_, ?_, ?_⟩ <;> (simp only [serveRelock, serveLock]; (repeat' split) <;> simp)

@[simp] theorem serveSeal_frame (g : Nat) (s : State) :
    (serveSeal g s).1.pending = s.pending ∧ (serveSeal g s).1.powered = s.powered ∧
    (serveSeal g s).1.markerGood = s.markerGood ∧ (serveSeal g s).1.meas = s.meas ∧
    (serveSeal g s).1.sup = s.sup ∧ (serveSeal g s).1.acct = s.acct ∧ (serveSeal g s).1.charge = s.charge ∧
    (serveSeal g s).1.prot = s.prot ∧ (serveSeal g s).1.rect = s.rect ∧ (serveSeal g s).1.bus = s.bus ∧
    (serveSeal g s).1.gen = s.gen ∧ (serveSeal g s).1.cal = s.cal ∧ (serveSeal g s).1.alarm = s.alarm ∧
    (serveSeal g s).1.link = s.link := by
  refine ⟨?_, ?_, ?_, ?_, ?_, ?_, ?_, ?_, ?_, ?_, ?_, ?_, ?_, ?_⟩ <;> (simp only [serveSeal, serveLock]; (repeat' split) <;> simp)

@[simp] theorem beginModeWrite_frame (g : Nat) (mode : ProtectMode) (s : State) :
    (beginModeWrite g mode s).pending = s.pending ∧ (beginModeWrite g mode s).powered = s.powered ∧
    (beginModeWrite g mode s).markerGood = s.markerGood ∧ (beginModeWrite g mode s).meas = s.meas ∧
    (beginModeWrite g mode s).sup = s.sup ∧ (beginModeWrite g mode s).acct = s.acct ∧
    (beginModeWrite g mode s).charge = s.charge ∧ (beginModeWrite g mode s).prot = s.prot ∧
    (beginModeWrite g mode s).rect = s.rect ∧ (beginModeWrite g mode s).bus = s.bus ∧
    (beginModeWrite g mode s).gen = s.gen ∧ (beginModeWrite g mode s).cal = s.cal ∧
    (beginModeWrite g mode s).alarm = s.alarm ∧ (beginModeWrite g mode s).link = s.link := by
  simp [beginModeWrite]

@[simp] theorem serveMode_frame (g : Nat) (mode : ProtectMode) (s : State) :
    (serveMode g mode s).1.pending = s.pending ∧ (serveMode g mode s).1.powered = s.powered ∧
    (serveMode g mode s).1.markerGood = s.markerGood ∧ (serveMode g mode s).1.meas = s.meas ∧
    (serveMode g mode s).1.sup = s.sup ∧ (serveMode g mode s).1.acct = s.acct ∧
    (serveMode g mode s).1.charge = s.charge ∧ (serveMode g mode s).1.prot = s.prot ∧
    (serveMode g mode s).1.rect = s.rect ∧ (serveMode g mode s).1.bus = s.bus ∧
    (serveMode g mode s).1.gen = s.gen ∧ (serveMode g mode s).1.cal = s.cal ∧
    (serveMode g mode s).1.alarm = s.alarm ∧ (serveMode g mode s).1.link = s.link := by
  refine ⟨?_, ?_, ?_, ?_, ?_, ?_, ?_, ?_, ?_, ?_, ?_, ?_, ?_, ?_⟩ <;> (simp only [serveMode, serveLock]; (repeat' split) <;> simp)

@[simp] theorem beginGroupWrite_frame (g : Nat) (new : List Nat) (s : State) :
    (beginGroupWrite g new s).pending = s.pending ∧ (beginGroupWrite g new s).powered = s.powered ∧
    (beginGroupWrite g new s).markerGood = s.markerGood ∧ (beginGroupWrite g new s).meas = s.meas ∧
    (beginGroupWrite g new s).sup = s.sup ∧ (beginGroupWrite g new s).acct = s.acct ∧
    (beginGroupWrite g new s).charge = s.charge ∧ (beginGroupWrite g new s).prot = s.prot ∧
    (beginGroupWrite g new s).rect = s.rect ∧ (beginGroupWrite g new s).bus = s.bus ∧
    (beginGroupWrite g new s).gen = s.gen ∧ (beginGroupWrite g new s).cal = s.cal ∧
    (beginGroupWrite g new s).alarm = s.alarm ∧ (beginGroupWrite g new s).link = s.link := by
  simp [beginGroupWrite]

@[simp] theorem judgeWrite_frame (g first : Nat) (values : List Nat) (s : State) :
    (judgeWrite g first values s).1.pending = s.pending ∧ (judgeWrite g first values s).1.powered = s.powered ∧
    (judgeWrite g first values s).1.markerGood = s.markerGood ∧ (judgeWrite g first values s).1.meas = s.meas ∧
    (judgeWrite g first values s).1.sup = s.sup ∧ (judgeWrite g first values s).1.acct = s.acct ∧
    (judgeWrite g first values s).1.charge = s.charge ∧ (judgeWrite g first values s).1.prot = s.prot ∧
    (judgeWrite g first values s).1.rect = s.rect ∧ (judgeWrite g first values s).1.bus = s.bus ∧
    (judgeWrite g first values s).1.gen = s.gen ∧ (judgeWrite g first values s).1.cal = s.cal ∧
    (judgeWrite g first values s).1.alarm = s.alarm ∧ (judgeWrite g first values s).1.link = s.link := by
  refine ⟨?_, ?_, ?_, ?_, ?_, ?_, ?_, ?_, ?_, ?_, ?_, ?_, ?_, ?_⟩ <;> (unfold judgeWrite; (repeat' split) <;> simp)

@[simp] theorem serveWrite_frame (g first count : Nat) (values : List Nat) (s : State) :
    (serveWrite g first count values s).1.pending = s.pending ∧
    (serveWrite g first count values s).1.powered = s.powered ∧
    (serveWrite g first count values s).1.markerGood = s.markerGood ∧
    (serveWrite g first count values s).1.meas = s.meas ∧ (serveWrite g first count values s).1.sup = s.sup ∧
    (serveWrite g first count values s).1.acct = s.acct ∧
    (serveWrite g first count values s).1.charge = s.charge ∧
    (serveWrite g first count values s).1.prot = s.prot ∧ (serveWrite g first count values s).1.rect = s.rect ∧
    (serveWrite g first count values s).1.bus = s.bus ∧ (serveWrite g first count values s).1.gen = s.gen ∧
    (serveWrite g first count values s).1.cal = s.cal ∧ (serveWrite g first count values s).1.alarm = s.alarm ∧
    (serveWrite g first count values s).1.link = s.link := by
  refine ⟨?_, ?_, ?_, ?_, ?_, ?_, ?_, ?_, ?_, ?_, ?_, ?_, ?_, ?_⟩ <;> (unfold serveWrite; (repeat' split) <;> simp)

@[simp] theorem presentReadings_frame (r : Readings) (s : State) :
    (presentReadings r s).pending = s.pending ∧ (presentReadings r s).powered = s.powered ∧
    (presentReadings r s).markerGood = s.markerGood ∧ (presentReadings r s).sup = s.sup ∧
    (presentReadings r s).acct = s.acct ∧ (presentReadings r s).charge = s.charge ∧
    (presentReadings r s).prot = s.prot ∧ (presentReadings r s).rect = s.rect ∧
    (presentReadings r s).bus = s.bus ∧ (presentReadings r s).gen = s.gen ∧ (presentReadings r s).cal = s.cal ∧
    (presentReadings r s).alarm = s.alarm ∧ (presentReadings r s).store = s.store ∧
    (presentReadings r s).link = s.link := by
  simp [presentReadings]

@[simp] theorem secondPasses_frame (s : State) :
    (secondPasses s).pending = s.pending ∧ (secondPasses s).powered = s.powered ∧
    (secondPasses s).markerGood = s.markerGood ∧ (secondPasses s).acct = s.acct ∧
    (secondPasses s).charge = s.charge ∧ (secondPasses s).prot = s.prot ∧ (secondPasses s).rect = s.rect ∧
    (secondPasses s).bus = s.bus ∧ (secondPasses s).gen = s.gen ∧ (secondPasses s).cal = s.cal ∧
    (secondPasses s).alarm = s.alarm ∧ (secondPasses s).store = s.store ∧ (secondPasses s).link = s.link := by
  simp [secondPasses]

@[simp] theorem raiseEvent_frame (r : Readings) (s : State) :
    (raiseEvent r s).pending = s.pending ∧ (raiseEvent r s).powered = s.powered ∧
    (raiseEvent r s).markerGood = s.markerGood ∧ (raiseEvent r s).charge = s.charge ∧
    (raiseEvent r s).prot = s.prot ∧ (raiseEvent r s).rect = s.rect ∧ (raiseEvent r s).bus = s.bus ∧
    (raiseEvent r s).gen = s.gen ∧ (raiseEvent r s).cal = s.cal ∧ (raiseEvent r s).alarm = s.alarm ∧
    (raiseEvent r s).link = s.link := by
  simp [raiseEvent]

@[simp] theorem measurementReport_frame (s : State) :
    (measurementReport s).pending = s.pending ∧ (measurementReport s).powered = s.powered ∧
    (measurementReport s).markerGood = s.markerGood ∧ (measurementReport s).meas = s.meas ∧
    (measurementReport s).sup = s.sup ∧ (measurementReport s).acct = s.acct ∧
    (measurementReport s).charge = s.charge ∧ (measurementReport s).prot = s.prot ∧
    (measurementReport s).rect = s.rect ∧ (measurementReport s).bus = s.bus ∧
    (measurementReport s).gen = s.gen ∧ (measurementReport s).cal = s.cal ∧
    (measurementReport s).store = s.store ∧ (measurementReport s).link = s.link := by
  simp [measurementReport]

@[simp] theorem onTherm_frame (t : Nat) (f : Channel → Channel) (s : State) :
    (onTherm t f s).pending = s.pending ∧ (onTherm t f s).powered = s.powered ∧
    (onTherm t f s).markerGood = s.markerGood ∧ (onTherm t f s).sup = s.sup ∧ (onTherm t f s).acct = s.acct ∧
    (onTherm t f s).charge = s.charge ∧ (onTherm t f s).prot = s.prot ∧ (onTherm t f s).rect = s.rect ∧
    (onTherm t f s).bus = s.bus ∧ (onTherm t f s).gen = s.gen ∧ (onTherm t f s).cal = s.cal ∧
    (onTherm t f s).alarm = s.alarm ∧ (onTherm t f s).store = s.store ∧ (onTherm t f s).link = s.link := by
  simp [onTherm]

@[simp] theorem onChannel_frame (i : Nat) (f : Channel → Channel) (s : State) :
    (onChannel i f s).pending = s.pending ∧ (onChannel i f s).powered = s.powered ∧
    (onChannel i f s).markerGood = s.markerGood ∧ (onChannel i f s).sup = s.sup ∧
    (onChannel i f s).acct = s.acct ∧ (onChannel i f s).charge = s.charge ∧ (onChannel i f s).prot = s.prot ∧
    (onChannel i f s).rect = s.rect ∧ (onChannel i f s).bus = s.bus ∧ (onChannel i f s).gen = s.gen ∧
    (onChannel i f s).cal = s.cal ∧ (onChannel i f s).alarm = s.alarm ∧ (onChannel i f s).store = s.store ∧
    (onChannel i f s).link = s.link := by
  simp [onChannel]

@[simp] theorem thermistorExpires_frame (t : Nat) (s : State) :
    (thermistorExpires t s).pending = s.pending ∧ (thermistorExpires t s).powered = s.powered ∧
    (thermistorExpires t s).markerGood = s.markerGood ∧ (thermistorExpires t s).sup = s.sup ∧
    (thermistorExpires t s).acct = s.acct ∧ (thermistorExpires t s).charge = s.charge ∧
    (thermistorExpires t s).prot = s.prot ∧ (thermistorExpires t s).rect = s.rect ∧
    (thermistorExpires t s).bus = s.bus ∧ (thermistorExpires t s).gen = s.gen ∧
    (thermistorExpires t s).cal = s.cal ∧ (thermistorExpires t s).alarm = s.alarm ∧
    (thermistorExpires t s).store = s.store ∧ (thermistorExpires t s).link = s.link := by
  simp [thermistorExpires]

@[simp] theorem channelExpires_frame (i : Nat) (s : State) :
    (channelExpires i s).pending = s.pending ∧ (channelExpires i s).powered = s.powered ∧
    (channelExpires i s).markerGood = s.markerGood ∧ (channelExpires i s).sup = s.sup ∧
    (channelExpires i s).bus = s.bus ∧ (channelExpires i s).gen = s.gen ∧ (channelExpires i s).cal = s.cal ∧
    (channelExpires i s).store = s.store ∧ (channelExpires i s).link = s.link := by
  simp [channelExpires]

@[simp] theorem mainsSensed_frame (present : Bool) (s : State) :
    (mainsSensed present s).pending = s.pending ∧ (mainsSensed present s).powered = s.powered ∧
    (mainsSensed present s).markerGood = s.markerGood ∧ (mainsSensed present s).sup = s.sup ∧
    (mainsSensed present s).acct = s.acct ∧ (mainsSensed present s).charge = s.charge ∧
    (mainsSensed present s).prot = s.prot ∧ (mainsSensed present s).rect = s.rect ∧
    (mainsSensed present s).bus = s.bus ∧ (mainsSensed present s).gen = s.gen ∧
    (mainsSensed present s).cal = s.cal ∧ (mainsSensed present s).alarm = s.alarm ∧
    (mainsSensed present s).store = s.store ∧ (mainsSensed present s).link = s.link := by
  simp [mainsSensed]

@[simp] theorem setMains_frame (qualified : Bool) (s : State) :
    (setMains qualified s).pending = s.pending ∧ (setMains qualified s).powered = s.powered ∧
    (setMains qualified s).markerGood = s.markerGood ∧ (setMains qualified s).bus = s.bus ∧
    (setMains qualified s).cal = s.cal ∧ (setMains qualified s).store = s.store ∧
    (setMains qualified s).link = s.link := by
  simp [setMains]

@[simp] theorem mainsReturns_frame (s : State) :
    (mainsReturns s).pending = s.pending ∧ (mainsReturns s).powered = s.powered ∧
    (mainsReturns s).markerGood = s.markerGood ∧ (mainsReturns s).bus = s.bus ∧ (mainsReturns s).cal = s.cal ∧
    (mainsReturns s).store = s.store ∧ (mainsReturns s).link = s.link := by
  simp [mainsReturns]

@[simp] theorem mainsFails_frame (s : State) :
    (mainsFails s).pending = s.pending ∧ (mainsFails s).powered = s.powered ∧
    (mainsFails s).markerGood = s.markerGood ∧ (mainsFails s).bus = s.bus ∧ (mainsFails s).cal = s.cal ∧
    (mainsFails s).store = s.store ∧ (mainsFails s).link = s.link := by
  simp [mainsFails]

@[simp] theorem genSensed_frame (present : Bool) (s : State) :
    (genSensed present s).pending = s.pending ∧ (genSensed present s).powered = s.powered ∧
    (genSensed present s).markerGood = s.markerGood ∧ (genSensed present s).sup = s.sup ∧
    (genSensed present s).acct = s.acct ∧ (genSensed present s).charge = s.charge ∧
    (genSensed present s).prot = s.prot ∧ (genSensed present s).rect = s.rect ∧
    (genSensed present s).bus = s.bus ∧ (genSensed present s).gen = s.gen ∧ (genSensed present s).cal = s.cal ∧
    (genSensed present s).alarm = s.alarm ∧ (genSensed present s).store = s.store ∧
    (genSensed present s).link = s.link := by
  simp [genSensed]

@[simp] theorem genQualifies_frame (s : State) :
    (genQualifies s).pending = s.pending ∧ (genQualifies s).powered = s.powered ∧
    (genQualifies s).markerGood = s.markerGood ∧ (genQualifies s).bus = s.bus ∧
    (genQualifies s).store = s.store ∧ (genQualifies s).link = s.link := by
  simp [genQualifies]

@[simp] theorem endHold_frame (s : State) :
    (endHold s).pending = s.pending ∧ (endHold s).powered = s.powered ∧ (endHold s).markerGood = s.markerGood ∧
    (endHold s).meas = s.meas ∧ (endHold s).bus = s.bus ∧ (endHold s).store = s.store ∧
    (endHold s).link = s.link := by
  simp [endHold]

@[simp] theorem serveRelease_frame (s : State) :
    (serveRelease s).1.pending = s.pending ∧ (serveRelease s).1.powered = s.powered ∧
    (serveRelease s).1.markerGood = s.markerGood ∧ (serveRelease s).1.meas = s.meas ∧
    (serveRelease s).1.bus = s.bus ∧ (serveRelease s).1.store = s.store ∧ (serveRelease s).1.link = s.link := by
  simp [serveRelease]

@[simp] theorem keyWithdrawn_frame (s : State) :
    (keyWithdrawn s).pending = s.pending ∧ (keyWithdrawn s).powered = s.powered ∧
    (keyWithdrawn s).markerGood = s.markerGood ∧ (keyWithdrawn s).meas = s.meas ∧ (keyWithdrawn s).bus = s.bus ∧
    (keyWithdrawn s).link = s.link := by
  simp [keyWithdrawn]

@[simp] theorem onInput_frame (n : Nat) (f : SiteInput → SiteInput) (s : State) :
    (onInput n f s).pending = s.pending ∧ (onInput n f s).powered = s.powered ∧
    (onInput n f s).markerGood = s.markerGood ∧ (onInput n f s).sup = s.sup ∧ (onInput n f s).acct = s.acct ∧
    (onInput n f s).charge = s.charge ∧ (onInput n f s).prot = s.prot ∧ (onInput n f s).rect = s.rect ∧
    (onInput n f s).bus = s.bus ∧ (onInput n f s).gen = s.gen ∧ (onInput n f s).cal = s.cal ∧
    (onInput n f s).alarm = s.alarm ∧ (onInput n f s).store = s.store ∧ (onInput n f s).link = s.link := by
  simp [onInput]

@[simp] theorem levelChanges_frame (n : Nat) (level : Bool) (s : State) :
    (levelChanges n level s).pending = s.pending ∧ (levelChanges n level s).powered = s.powered ∧
    (levelChanges n level s).markerGood = s.markerGood ∧ (levelChanges n level s).sup = s.sup ∧
    (levelChanges n level s).acct = s.acct ∧ (levelChanges n level s).charge = s.charge ∧
    (levelChanges n level s).prot = s.prot ∧ (levelChanges n level s).rect = s.rect ∧
    (levelChanges n level s).bus = s.bus ∧ (levelChanges n level s).gen = s.gen ∧
    (levelChanges n level s).cal = s.cal ∧ (levelChanges n level s).alarm = s.alarm ∧
    (levelChanges n level s).store = s.store ∧ (levelChanges n level s).link = s.link := by
  simp [levelChanges]

@[simp] theorem reportInput_frame (n : Nat) (s : State) :
    (reportInput n s).pending = s.pending ∧ (reportInput n s).powered = s.powered ∧
    (reportInput n s).markerGood = s.markerGood ∧ (reportInput n s).meas = s.meas ∧
    (reportInput n s).sup = s.sup ∧ (reportInput n s).acct = s.acct ∧ (reportInput n s).charge = s.charge ∧
    (reportInput n s).prot = s.prot ∧ (reportInput n s).rect = s.rect ∧ (reportInput n s).bus = s.bus ∧
    (reportInput n s).gen = s.gen ∧ (reportInput n s).cal = s.cal ∧ (reportInput n s).store = s.store ∧
    (reportInput n s).link = s.link := by
  simp [reportInput]

@[simp] theorem handFunction_frame (f : Nat) (s : State) :
    (handFunction f s).pending = s.pending ∧ (handFunction f s).powered = s.powered ∧
    (handFunction f s).markerGood = s.markerGood ∧ (handFunction f s).meas = s.meas ∧
    (handFunction f s).bus = s.bus ∧ (handFunction f s).link = s.link := by
  simp [handFunction]

@[simp] theorem handIfChanged_frame (f : Nat) (was : Bool) (s : State) :
    (handIfChanged f was s).pending = s.pending ∧ (handIfChanged f was s).powered = s.powered ∧
    (handIfChanged f was s).markerGood = s.markerGood ∧ (handIfChanged f was s).meas = s.meas ∧
    (handIfChanged f was s).bus = s.bus ∧ (handIfChanged f was s).link = s.link := by
  simp [handIfChanged]

@[simp] theorem postEdge_frame (n : Nat) (active : Bool) (s : State) :
    (postEdge n active s).pending = s.pending ∧ (postEdge n active s).powered = s.powered ∧
    (postEdge n active s).markerGood = s.markerGood ∧ (postEdge n active s).meas = s.meas ∧
    (postEdge n active s).sup = s.sup ∧ (postEdge n active s).acct = s.acct ∧
    (postEdge n active s).charge = s.charge ∧ (postEdge n active s).prot = s.prot ∧
    (postEdge n active s).rect = s.rect ∧ (postEdge n active s).bus = s.bus ∧
    (postEdge n active s).gen = s.gen ∧ (postEdge n active s).cal = s.cal ∧
    (postEdge n active s).store = s.store ∧ (postEdge n active s).link = s.link := by
  simp [postEdge]

@[simp] theorem inputQualifies_frame (n : Nat) (s : State) :
    (inputQualifies n s).pending = s.pending ∧ (inputQualifies n s).powered = s.powered ∧
    (inputQualifies n s).markerGood = s.markerGood ∧ (inputQualifies n s).bus = s.bus ∧
    (inputQualifies n s).link = s.link := by
  simp [inputQualifies]

@[simp] theorem persistenceExpires_frame (n : Nat) (s : State) :
    (persistenceExpires n s).pending = s.pending ∧ (persistenceExpires n s).powered = s.powered ∧
    (persistenceExpires n s).markerGood = s.markerGood ∧ (persistenceExpires n s).bus = s.bus ∧
    (persistenceExpires n s).link = s.link := by
  simp [persistenceExpires]

@[simp] theorem onExchange_frame (f : Exchange → Exchange) (s : State) :
    (onExchange f s).pending = s.pending ∧ (onExchange f s).powered = s.powered ∧
    (onExchange f s).markerGood = s.markerGood ∧ (onExchange f s).meas = s.meas ∧ (onExchange f s).sup = s.sup ∧
    (onExchange f s).acct = s.acct ∧ (onExchange f s).charge = s.charge ∧ (onExchange f s).prot = s.prot ∧
    (onExchange f s).rect = s.rect ∧ (onExchange f s).gen = s.gen ∧ (onExchange f s).cal = s.cal ∧
    (onExchange f s).alarm = s.alarm ∧ (onExchange f s).store = s.store ∧ (onExchange f s).link = s.link := by
  simp [onExchange]

@[simp] theorem beginExchange_frame (slot : Nat) (tag : Byte) (again : Option Nat) (s : State) :
    (beginExchange slot tag again s).pending = s.pending ∧
    (beginExchange slot tag again s).powered = s.powered ∧
    (beginExchange slot tag again s).markerGood = s.markerGood ∧
    (beginExchange slot tag again s).meas = s.meas ∧ (beginExchange slot tag again s).sup = s.sup ∧
    (beginExchange slot tag again s).acct = s.acct ∧ (beginExchange slot tag again s).charge = s.charge ∧
    (beginExchange slot tag again s).prot = s.prot ∧ (beginExchange slot tag again s).rect = s.rect ∧
    (beginExchange slot tag again s).gen = s.gen ∧ (beginExchange slot tag again s).cal = s.cal ∧
    (beginExchange slot tag again s).alarm = s.alarm ∧ (beginExchange slot tag again s).store = s.store ∧
    (beginExchange slot tag again s).link = s.link := by
  simp [beginExchange]

@[simp] theorem phaseTo_frame (old new : Phase) (f : Exchange → Exchange) (s : State) :
    (phaseTo old new f s).pending = s.pending ∧ (phaseTo old new f s).powered = s.powered ∧
    (phaseTo old new f s).markerGood = s.markerGood ∧ (phaseTo old new f s).meas = s.meas ∧
    (phaseTo old new f s).sup = s.sup ∧ (phaseTo old new f s).acct = s.acct ∧
    (phaseTo old new f s).charge = s.charge ∧ (phaseTo old new f s).prot = s.prot ∧
    (phaseTo old new f s).rect = s.rect ∧ (phaseTo old new f s).gen = s.gen ∧
    (phaseTo old new f s).cal = s.cal ∧ (phaseTo old new f s).alarm = s.alarm ∧
    (phaseTo old new f s).store = s.store ∧ (phaseTo old new f s).link = s.link := by
  simp [phaseTo]

@[simp] theorem takeBytes_frame (bytes : List LineByte) (s : State) :
    (takeBytes bytes s).pending = s.pending ∧ (takeBytes bytes s).powered = s.powered ∧
    (takeBytes bytes s).markerGood = s.markerGood ∧ (takeBytes bytes s).meas = s.meas ∧
    (takeBytes bytes s).sup = s.sup ∧ (takeBytes bytes s).acct = s.acct ∧
    (takeBytes bytes s).charge = s.charge ∧ (takeBytes bytes s).prot = s.prot ∧
    (takeBytes bytes s).rect = s.rect ∧ (takeBytes bytes s).gen = s.gen ∧ (takeBytes bytes s).cal = s.cal ∧
    (takeBytes bytes s).alarm = s.alarm ∧ (takeBytes bytes s).store = s.store ∧
    (takeBytes bytes s).link = s.link := by
  simp [takeBytes]

@[simp] theorem reportBusFail_frame (s : State) :
    (reportBusFail s).pending = s.pending ∧ (reportBusFail s).powered = s.powered ∧
    (reportBusFail s).markerGood = s.markerGood ∧ (reportBusFail s).meas = s.meas ∧
    (reportBusFail s).sup = s.sup ∧ (reportBusFail s).acct = s.acct ∧ (reportBusFail s).charge = s.charge ∧
    (reportBusFail s).prot = s.prot ∧ (reportBusFail s).rect = s.rect ∧ (reportBusFail s).bus = s.bus ∧
    (reportBusFail s).gen = s.gen ∧ (reportBusFail s).cal = s.cal ∧ (reportBusFail s).store = s.store ∧
    (reportBusFail s).link = s.link := by
  simp [reportBusFail]

@[simp] theorem setLink_frame (i : Nat) (l : LinkRec) (s : State) :
    (setLink i l s).pending = s.pending ∧ (setLink i l s).powered = s.powered ∧
    (setLink i l s).markerGood = s.markerGood ∧ (setLink i l s).meas = s.meas ∧ (setLink i l s).sup = s.sup ∧
    (setLink i l s).acct = s.acct ∧ (setLink i l s).charge = s.charge ∧ (setLink i l s).prot = s.prot ∧
    (setLink i l s).rect = s.rect ∧ (setLink i l s).gen = s.gen ∧ (setLink i l s).cal = s.cal ∧
    (setLink i l s).alarm = s.alarm ∧ (setLink i l s).store = s.store ∧ (setLink i l s).link = s.link := by
  simp [setLink]

@[simp] theorem handGood_frame (e : Exchange) (l : LinkRec) (s : State) :
    (handGood e l s).pending = s.pending ∧ (handGood e l s).powered = s.powered ∧
    (handGood e l s).markerGood = s.markerGood ∧ (handGood e l s).meas = s.meas ∧ (handGood e l s).sup = s.sup ∧
    (handGood e l s).acct = s.acct ∧ (handGood e l s).charge = s.charge ∧ (handGood e l s).prot = s.prot ∧
    (handGood e l s).bus = s.bus ∧ (handGood e l s).gen = s.gen ∧ (handGood e l s).cal = s.cal ∧
    (handGood e l s).store = s.store ∧ (handGood e l s).link = s.link := by
  simp [handGood]

@[simp] theorem handMiss_frame (e : Exchange) (l : LinkRec) (s : State) :
    (handMiss e l s).pending = s.pending ∧ (handMiss e l s).powered = s.powered ∧
    (handMiss e l s).markerGood = s.markerGood ∧ (handMiss e l s).meas = s.meas ∧ (handMiss e l s).sup = s.sup ∧
    (handMiss e l s).acct = s.acct ∧ (handMiss e l s).charge = s.charge ∧ (handMiss e l s).prot = s.prot ∧
    (handMiss e l s).bus = s.bus ∧ (handMiss e l s).gen = s.gen ∧ (handMiss e l s).cal = s.cal ∧
    (handMiss e l s).store = s.store ∧ (handMiss e l s).link = s.link := by
  simp [handMiss]

@[simp] theorem judgeExchange_frame (e : Exchange) (s : State) :
    (judgeExchange e s).pending = s.pending ∧ (judgeExchange e s).powered = s.powered ∧
    (judgeExchange e s).markerGood = s.markerGood ∧ (judgeExchange e s).meas = s.meas ∧
    (judgeExchange e s).sup = s.sup ∧ (judgeExchange e s).acct = s.acct ∧
    (judgeExchange e s).charge = s.charge ∧ (judgeExchange e s).prot = s.prot ∧
    (judgeExchange e s).gen = s.gen ∧ (judgeExchange e s).cal = s.cal ∧ (judgeExchange e s).store = s.store ∧
    (judgeExchange e s).link = s.link := by
  refine ⟨?_, ?_, ?_, ?_, ?_, ?_, ?_, ?_, ?_, ?_, ?_, ?_⟩ <;> (unfold judgeExchange; (repeat' split) <;> simp)

@[simp] theorem turnaroundEnds_frame (s : State) :
    (turnaroundEnds s).pending = s.pending ∧ (turnaroundEnds s).powered = s.powered ∧
    (turnaroundEnds s).markerGood = s.markerGood ∧ (turnaroundEnds s).meas = s.meas ∧
    (turnaroundEnds s).sup = s.sup ∧ (turnaroundEnds s).acct = s.acct ∧ (turnaroundEnds s).charge = s.charge ∧
    (turnaroundEnds s).prot = s.prot ∧ (turnaroundEnds s).gen = s.gen ∧ (turnaroundEnds s).cal = s.cal ∧
    (turnaroundEnds s).store = s.store ∧ (turnaroundEnds s).link = s.link := by
  simp [turnaroundEnds]

@[simp] theorem refitLinks_frame (s : State) :
    (refitLinks s).pending = s.pending ∧ (refitLinks s).powered = s.powered ∧
    (refitLinks s).markerGood = s.markerGood ∧ (refitLinks s).meas = s.meas ∧ (refitLinks s).sup = s.sup ∧
    (refitLinks s).acct = s.acct ∧ (refitLinks s).charge = s.charge ∧ (refitLinks s).prot = s.prot ∧
    (refitLinks s).rect = s.rect ∧ (refitLinks s).gen = s.gen ∧ (refitLinks s).cal = s.cal ∧
    (refitLinks s).alarm = s.alarm ∧ (refitLinks s).store = s.store ∧ (refitLinks s).link = s.link := by
  simp [refitLinks]

@[simp] theorem busEvent_frame (s : State) :
    (busEvent s).pending = s.pending ∧ (busEvent s).powered = s.powered ∧
    (busEvent s).markerGood = s.markerGood ∧ (busEvent s).meas = s.meas ∧ (busEvent s).sup = s.sup ∧
    (busEvent s).acct = s.acct ∧ (busEvent s).charge = s.charge ∧ (busEvent s).prot = s.prot ∧
    (busEvent s).rect = s.rect ∧ (busEvent s).gen = s.gen ∧ (busEvent s).cal = s.cal ∧
    (busEvent s).store = s.store ∧ (busEvent s).link = s.link := by
  simp [busEvent]

@[simp] theorem busStart_frame (s : State) :
    (busStart s).pending = s.pending ∧ (busStart s).powered = s.powered ∧
    (busStart s).markerGood = s.markerGood ∧ (busStart s).meas = s.meas ∧ (busStart s).sup = s.sup ∧
    (busStart s).acct = s.acct ∧ (busStart s).charge = s.charge ∧ (busStart s).prot = s.prot ∧
    (busStart s).rect = s.rect ∧ (busStart s).gen = s.gen ∧ (busStart s).cal = s.cal ∧
    (busStart s).alarm = s.alarm ∧ (busStart s).store = s.store ∧ (busStart s).link = s.link := by
  simp [busStart]

@[simp] theorem lampHalf_frame (s : State) :
    (lampHalf s).pending = s.pending ∧ (lampHalf s).powered = s.powered ∧
    (lampHalf s).markerGood = s.markerGood ∧ (lampHalf s).meas = s.meas ∧ (lampHalf s).sup = s.sup ∧
    (lampHalf s).acct = s.acct ∧ (lampHalf s).charge = s.charge ∧ (lampHalf s).prot = s.prot ∧
    (lampHalf s).rect = s.rect ∧ (lampHalf s).bus = s.bus ∧ (lampHalf s).gen = s.gen ∧
    (lampHalf s).cal = s.cal ∧ (lampHalf s).store = s.store ∧ (lampHalf s).link = s.link := by
  simp [lampHalf]

@[simp] theorem takeNotice_frame (s : State) :
    (takeNotice s).1.pending = s.pending ∧ (takeNotice s).1.powered = s.powered ∧
    (takeNotice s).1.markerGood = s.markerGood ∧ (takeNotice s).1.meas = s.meas ∧ (takeNotice s).1.sup = s.sup ∧
    (takeNotice s).1.acct = s.acct ∧ (takeNotice s).1.charge = s.charge ∧ (takeNotice s).1.prot = s.prot ∧
    (takeNotice s).1.rect = s.rect ∧ (takeNotice s).1.bus = s.bus ∧ (takeNotice s).1.gen = s.gen ∧
    (takeNotice s).1.cal = s.cal ∧ (takeNotice s).1.store = s.store ∧ (takeNotice s).1.link = s.link := by
  refine ⟨?_, ?_, ?_, ?_, ?_, ?_, ?_, ?_, ?_, ?_, ?_, ?_, ?_, ?_⟩ <;> (unfold takeNotice; (repeat' split) <;> simp)

@[simp] theorem serveNotice_frame (source : Byte) (s : State) :
    (serveNotice source s).1.pending = s.pending ∧ (serveNotice source s).1.powered = s.powered ∧
    (serveNotice source s).1.markerGood = s.markerGood ∧ (serveNotice source s).1.meas = s.meas ∧
    (serveNotice source s).1.sup = s.sup ∧ (serveNotice source s).1.acct = s.acct ∧
    (serveNotice source s).1.charge = s.charge ∧ (serveNotice source s).1.prot = s.prot ∧
    (serveNotice source s).1.rect = s.rect ∧ (serveNotice source s).1.bus = s.bus ∧
    (serveNotice source s).1.gen = s.gen ∧ (serveNotice source s).1.cal = s.cal ∧
    (serveNotice source s).1.store = s.store ∧ (serveNotice source s).1.link = s.link := by
  refine ⟨?_, ?_, ?_, ?_, ?_, ?_, ?_, ?_, ?_, ?_, ?_, ?_, ?_, ?_⟩ <;> (unfold serveNotice; (repeat' split) <;> simp)

@[simp] theorem serveSnapshot_frame (s : State) :
    (serveSnapshot s).1.pending = s.pending ∧ (serveSnapshot s).1.powered = s.powered ∧
    (serveSnapshot s).1.markerGood = s.markerGood ∧ (serveSnapshot s).1.meas = s.meas ∧
    (serveSnapshot s).1.sup = s.sup ∧ (serveSnapshot s).1.acct = s.acct ∧
    (serveSnapshot s).1.charge = s.charge ∧ (serveSnapshot s).1.prot = s.prot ∧
    (serveSnapshot s).1.rect = s.rect ∧ (serveSnapshot s).1.bus = s.bus ∧ (serveSnapshot s).1.gen = s.gen ∧
    (serveSnapshot s).1.cal = s.cal ∧ (serveSnapshot s).1.alarm = s.alarm ∧ (serveSnapshot s).1.store = s.store := by
  simp [serveSnapshot]

@[simp] theorem linkEvent_frame (s : State) :
    (linkEvent s).pending = s.pending ∧ (linkEvent s).powered = s.powered ∧
    (linkEvent s).markerGood = s.markerGood ∧ (linkEvent s).meas = s.meas ∧ (linkEvent s).sup = s.sup ∧
    (linkEvent s).acct = s.acct ∧ (linkEvent s).charge = s.charge ∧ (linkEvent s).prot = s.prot ∧
    (linkEvent s).rect = s.rect ∧ (linkEvent s).bus = s.bus ∧ (linkEvent s).gen = s.gen ∧
    (linkEvent s).cal = s.cal ∧ (linkEvent s).alarm = s.alarm ∧ (linkEvent s).store = s.store := by
  simp [linkEvent]

@[simp] theorem dropSnapshot_frame (s : State) :
    (dropSnapshot s).pending = s.pending ∧ (dropSnapshot s).powered = s.powered ∧
    (dropSnapshot s).markerGood = s.markerGood ∧ (dropSnapshot s).meas = s.meas ∧ (dropSnapshot s).sup = s.sup ∧
    (dropSnapshot s).acct = s.acct ∧ (dropSnapshot s).charge = s.charge ∧ (dropSnapshot s).prot = s.prot ∧
    (dropSnapshot s).rect = s.rect ∧ (dropSnapshot s).bus = s.bus ∧ (dropSnapshot s).gen = s.gen ∧
    (dropSnapshot s).cal = s.cal ∧ (dropSnapshot s).alarm = s.alarm ∧ (dropSnapshot s).store = s.store := by
  simp [dropSnapshot]

@[simp] theorem serveAck_frame (form selector : Byte) (s : State) :
    (serveAck form selector s).1.pending = s.pending ∧ (serveAck form selector s).1.powered = s.powered ∧
    (serveAck form selector s).1.markerGood = s.markerGood ∧ (serveAck form selector s).1.meas = s.meas ∧
    (serveAck form selector s).1.sup = s.sup ∧ (serveAck form selector s).1.acct = s.acct ∧
    (serveAck form selector s).1.charge = s.charge ∧ (serveAck form selector s).1.prot = s.prot ∧
    (serveAck form selector s).1.rect = s.rect ∧ (serveAck form selector s).1.bus = s.bus ∧
    (serveAck form selector s).1.gen = s.gen ∧ (serveAck form selector s).1.cal = s.cal ∧
    (serveAck form selector s).1.store = s.store ∧ (serveAck form selector s).1.link = s.link := by
  refine ⟨?_, ?_, ?_, ?_, ?_, ?_, ?_, ?_, ?_, ?_, ?_, ?_, ?_, ?_⟩ <;> (unfold serveAck; (repeat' split) <;> simp)

@[simp] theorem serveResetLatch_frame (s : State) :
    (serveResetLatch s).1.pending = s.pending ∧ (serveResetLatch s).1.powered = s.powered ∧
    (serveResetLatch s).1.markerGood = s.markerGood ∧ (serveResetLatch s).1.meas = s.meas ∧
    (serveResetLatch s).1.sup = s.sup ∧ (serveResetLatch s).1.acct = s.acct ∧
    (serveResetLatch s).1.charge = s.charge ∧ (serveResetLatch s).1.prot = s.prot ∧
    (serveResetLatch s).1.rect = s.rect ∧ (serveResetLatch s).1.bus = s.bus ∧
    (serveResetLatch s).1.gen = s.gen ∧ (serveResetLatch s).1.cal = s.cal ∧
    (serveResetLatch s).1.store = s.store ∧ (serveResetLatch s).1.link = s.link := by
  simp [serveResetLatch]

@[simp] theorem serveRestart_frame (s : State) :
    (serveRestart s).1.pending = s.pending ∧ (serveRestart s).1.powered = s.powered ∧
    (serveRestart s).1.markerGood = s.markerGood ∧ (serveRestart s).1.meas = s.meas ∧
    (serveRestart s).1.sup = s.sup ∧ (serveRestart s).1.acct = s.acct ∧ (serveRestart s).1.charge = s.charge ∧
    (serveRestart s).1.prot = s.prot ∧ (serveRestart s).1.rect = s.rect ∧ (serveRestart s).1.bus = s.bus ∧
    (serveRestart s).1.gen = s.gen ∧ (serveRestart s).1.cal = s.cal ∧ (serveRestart s).1.alarm = s.alarm ∧
    (serveRestart s).1.store = s.store := by
  simp [serveRestart]

@[simp] theorem linkStart_frame (p : Pins) (s : State) :
    (linkStart p s).pending = s.pending ∧ (linkStart p s).powered = s.powered ∧
    (linkStart p s).markerGood = s.markerGood ∧ (linkStart p s).meas = s.meas ∧ (linkStart p s).sup = s.sup ∧
    (linkStart p s).acct = s.acct ∧ (linkStart p s).charge = s.charge ∧ (linkStart p s).prot = s.prot ∧
    (linkStart p s).rect = s.rect ∧ (linkStart p s).bus = s.bus ∧ (linkStart p s).gen = s.gen ∧
    (linkStart p s).cal = s.cal ∧ (linkStart p s).alarm = s.alarm ∧ (linkStart p s).store = s.store := by
  simp [linkStart]

@[simp] theorem discardByte_frame (s : State) :
    (discardByte s).pending = s.pending ∧ (discardByte s).powered = s.powered ∧
    (discardByte s).markerGood = s.markerGood ∧ (discardByte s).meas = s.meas ∧ (discardByte s).sup = s.sup ∧
    (discardByte s).acct = s.acct ∧ (discardByte s).charge = s.charge ∧ (discardByte s).prot = s.prot ∧
    (discardByte s).rect = s.rect ∧ (discardByte s).bus = s.bus ∧ (discardByte s).gen = s.gen ∧
    (discardByte s).cal = s.cal ∧ (discardByte s).alarm = s.alarm ∧ (discardByte s).store = s.store := by
  simp [discardByte]

@[simp] theorem byteBegins_frame (b : LineByte) (s : State) :
    (byteBegins b s).pending = s.pending ∧ (byteBegins b s).powered = s.powered ∧
    (byteBegins b s).markerGood = s.markerGood ∧ (byteBegins b s).meas = s.meas ∧ (byteBegins b s).sup = s.sup ∧
    (byteBegins b s).acct = s.acct ∧ (byteBegins b s).charge = s.charge ∧ (byteBegins b s).prot = s.prot ∧
    (byteBegins b s).rect = s.rect ∧ (byteBegins b s).bus = s.bus ∧ (byteBegins b s).gen = s.gen ∧
    (byteBegins b s).cal = s.cal ∧ (byteBegins b s).alarm = s.alarm ∧ (byteBegins b s).store = s.store := by
  refine ⟨?_, ?_, ?_, ?_, ?_, ?_, ?_, ?_, ?_, ?_, ?_, ?_, ?_, ?_⟩ <;> (unfold byteBegins; (repeat' split) <;> simp)

@[simp] theorem deafEnds_frame (s : State) :
    (deafEnds s).pending = s.pending ∧ (deafEnds s).powered = s.powered ∧
    (deafEnds s).markerGood = s.markerGood ∧ (deafEnds s).meas = s.meas ∧ (deafEnds s).sup = s.sup ∧
    (deafEnds s).acct = s.acct ∧ (deafEnds s).charge = s.charge ∧ (deafEnds s).prot = s.prot ∧
    (deafEnds s).rect = s.rect ∧ (deafEnds s).bus = s.bus ∧ (deafEnds s).gen = s.gen ∧
    (deafEnds s).cal = s.cal ∧ (deafEnds s).alarm = s.alarm ∧ (deafEnds s).store = s.store := by
  simp [deafEnds]

@[simp] theorem replyBegins_frame (s : State) :
    (replyBegins s).pending = s.pending ∧ (replyBegins s).powered = s.powered ∧
    (replyBegins s).markerGood = s.markerGood ∧ (replyBegins s).meas = s.meas ∧ (replyBegins s).sup = s.sup ∧
    (replyBegins s).acct = s.acct ∧ (replyBegins s).charge = s.charge ∧ (replyBegins s).prot = s.prot ∧
    (replyBegins s).rect = s.rect ∧ (replyBegins s).bus = s.bus ∧ (replyBegins s).gen = s.gen ∧
    (replyBegins s).cal = s.cal ∧ (replyBegins s).alarm = s.alarm ∧ (replyBegins s).store = s.store := by
  refine ⟨?_, ?_, ?_, ?_, ?_, ?_, ?_, ?_, ?_, ?_, ?_, ?_, ?_, ?_⟩ <;> (unfold replyBegins; (repeat' split) <;> simp)

@[simp] theorem replyEnds_frame (s : State) :
    (replyEnds s).pending = s.pending ∧ (replyEnds s).powered = s.powered ∧
    (replyEnds s).markerGood = s.markerGood ∧ (replyEnds s).meas = s.meas ∧ (replyEnds s).sup = s.sup ∧
    (replyEnds s).acct = s.acct ∧ (replyEnds s).charge = s.charge ∧ (replyEnds s).prot = s.prot ∧
    (replyEnds s).rect = s.rect ∧ (replyEnds s).bus = s.bus ∧ (replyEnds s).gen = s.gen ∧
    (replyEnds s).cal = s.cal ∧ (replyEnds s).alarm = s.alarm ∧ (replyEnds s).store = s.store := by
  simp [replyEnds]

@[simp] theorem mainsDelaysChanged_frame (old : State) (s : State) :
    (mainsDelaysChanged old s).pending = s.pending ∧ (mainsDelaysChanged old s).powered = s.powered ∧
    (mainsDelaysChanged old s).markerGood = s.markerGood ∧ (mainsDelaysChanged old s).bus = s.bus ∧
    (mainsDelaysChanged old s).cal = s.cal ∧ (mainsDelaysChanged old s).store = s.store ∧
    (mainsDelaysChanged old s).link = s.link := by
  simp [mainsDelaysChanged]

@[simp] theorem exerciseSettings_frame (s : State) :
    (exerciseSettings s).pending = s.pending ∧ (exerciseSettings s).powered = s.powered ∧
    (exerciseSettings s).markerGood = s.markerGood ∧ (exerciseSettings s).meas = s.meas ∧
    (exerciseSettings s).sup = s.sup ∧ (exerciseSettings s).acct = s.acct ∧
    (exerciseSettings s).charge = s.charge ∧ (exerciseSettings s).prot = s.prot ∧
    (exerciseSettings s).rect = s.rect ∧ (exerciseSettings s).bus = s.bus ∧
    (exerciseSettings s).alarm = s.alarm ∧ (exerciseSettings s).store = s.store ∧
    (exerciseSettings s).link = s.link := by
  simp [exerciseSettings]

@[simp] theorem latchingChanged_frame (old : State) (s : State) :
    (latchingChanged old s).pending = s.pending ∧ (latchingChanged old s).powered = s.powered ∧
    (latchingChanged old s).markerGood = s.markerGood ∧ (latchingChanged old s).meas = s.meas ∧
    (latchingChanged old s).sup = s.sup ∧ (latchingChanged old s).acct = s.acct ∧
    (latchingChanged old s).charge = s.charge ∧ (latchingChanged old s).prot = s.prot ∧
    (latchingChanged old s).rect = s.rect ∧ (latchingChanged old s).bus = s.bus ∧
    (latchingChanged old s).gen = s.gen ∧ (latchingChanged old s).cal = s.cal ∧
    (latchingChanged old s).store = s.store ∧ (latchingChanged old s).link = s.link := by
  simp [latchingChanged]

@[simp] theorem repolarise_frame (s : State) :
    (repolarise s).pending = s.pending ∧ (repolarise s).powered = s.powered ∧
    (repolarise s).markerGood = s.markerGood ∧ (repolarise s).sup = s.sup ∧ (repolarise s).acct = s.acct ∧
    (repolarise s).charge = s.charge ∧ (repolarise s).prot = s.prot ∧ (repolarise s).rect = s.rect ∧
    (repolarise s).bus = s.bus ∧ (repolarise s).gen = s.gen ∧ (repolarise s).cal = s.cal ∧
    (repolarise s).alarm = s.alarm ∧ (repolarise s).store = s.store ∧ (repolarise s).link = s.link := by
  simp [repolarise]

@[simp] theorem functionReports_frame (old : State) (s : State) :
    (functionReports old s).pending = s.pending ∧ (functionReports old s).powered = s.powered ∧
    (functionReports old s).markerGood = s.markerGood ∧ (functionReports old s).meas = s.meas ∧
    (functionReports old s).sup = s.sup ∧ (functionReports old s).acct = s.acct ∧
    (functionReports old s).charge = s.charge ∧ (functionReports old s).prot = s.prot ∧
    (functionReports old s).rect = s.rect ∧ (functionReports old s).bus = s.bus ∧
    (functionReports old s).gen = s.gen ∧ (functionReports old s).cal = s.cal ∧
    (functionReports old s).store = s.store ∧ (functionReports old s).link = s.link := by
  simp [functionReports]

@[simp] theorem persistenceChanged_frame (old : State) (n : Nat) (s : State) :
    (persistenceChanged old n s).pending = s.pending ∧ (persistenceChanged old n s).powered = s.powered ∧
    (persistenceChanged old n s).markerGood = s.markerGood ∧ (persistenceChanged old n s).bus = s.bus ∧
    (persistenceChanged old n s).link = s.link := by
  simp [persistenceChanged]

@[simp] theorem inputSettings_frame (old : State) (s : State) :
    (inputSettings old s).pending = s.pending ∧ (inputSettings old s).powered = s.powered ∧
    (inputSettings old s).markerGood = s.markerGood ∧ (inputSettings old s).bus = s.bus ∧
    (inputSettings old s).link = s.link := by
  simp [inputSettings]

@[simp] theorem handGroup_frame (g : Nat) (old : State) (s : State) :
    (handGroup g old s).pending = s.pending ∧ (handGroup g old s).powered = s.powered ∧
    (handGroup g old s).markerGood = s.markerGood ∧ (handGroup g old s).bus = s.bus ∧
    (handGroup g old s).link = s.link := by
  simp [handGroup]

@[simp] theorem installGroup_frame (g : Nat) (values : List Nat) (s : State) :
    (installGroup g values s).pending = s.pending ∧ (installGroup g values s).powered = s.powered ∧
    (installGroup g values s).markerGood = s.markerGood ∧ (installGroup g values s).meas = s.meas ∧
    (installGroup g values s).sup = s.sup ∧ (installGroup g values s).acct = s.acct ∧
    (installGroup g values s).charge = s.charge ∧ (installGroup g values s).prot = s.prot ∧
    (installGroup g values s).rect = s.rect ∧ (installGroup g values s).bus = s.bus ∧
    (installGroup g values s).gen = s.gen ∧ (installGroup g values s).cal = s.cal ∧
    (installGroup g values s).alarm = s.alarm ∧ (installGroup g values s).link = s.link := by
  simp [installGroup]

@[simp] theorem postWritten_frame (g : Nat) (s : State) :
    (postWritten g s).pending = s.pending ∧ (postWritten g s).powered = s.powered ∧
    (postWritten g s).markerGood = s.markerGood ∧ (postWritten g s).meas = s.meas ∧
    (postWritten g s).sup = s.sup ∧ (postWritten g s).acct = s.acct ∧ (postWritten g s).charge = s.charge ∧
    (postWritten g s).prot = s.prot ∧ (postWritten g s).rect = s.rect ∧ (postWritten g s).bus = s.bus ∧
    (postWritten g s).gen = s.gen ∧ (postWritten g s).cal = s.cal ∧ (postWritten g s).store = s.store ∧
    (postWritten g s).link = s.link := by
  simp [postWritten]

@[simp] theorem groupWriteCompletes_frame (s : State) :
    (groupWriteCompletes s).pending = s.pending ∧ (groupWriteCompletes s).powered = s.powered ∧
    (groupWriteCompletes s).markerGood = s.markerGood ∧ (groupWriteCompletes s).bus = s.bus ∧
    (groupWriteCompletes s).link = s.link := by
  refine ⟨?_, ?_, ?_, ?_, ?_⟩ <;> (unfold groupWriteCompletes; (repeat' split) <;> simp)

@[simp] theorem installModes_frame (g : Nat) (mode : ProtectMode) (s : State) :
    (installModes g mode s).pending = s.pending ∧ (installModes g mode s).powered = s.powered ∧
    (installModes g mode s).markerGood = s.markerGood ∧ (installModes g mode s).meas = s.meas ∧
    (installModes g mode s).sup = s.sup ∧ (installModes g mode s).acct = s.acct ∧
    (installModes g mode s).charge = s.charge ∧ (installModes g mode s).prot = s.prot ∧
    (installModes g mode s).rect = s.rect ∧ (installModes g mode s).bus = s.bus ∧
    (installModes g mode s).gen = s.gen ∧ (installModes g mode s).cal = s.cal ∧
    (installModes g mode s).alarm = s.alarm ∧ (installModes g mode s).link = s.link := by
  simp [installModes]

@[simp] theorem modeWriteCompletes_frame (s : State) :
    (modeWriteCompletes s).pending = s.pending ∧ (modeWriteCompletes s).powered = s.powered ∧
    (modeWriteCompletes s).markerGood = s.markerGood ∧ (modeWriteCompletes s).meas = s.meas ∧
    (modeWriteCompletes s).sup = s.sup ∧ (modeWriteCompletes s).acct = s.acct ∧
    (modeWriteCompletes s).charge = s.charge ∧ (modeWriteCompletes s).prot = s.prot ∧
    (modeWriteCompletes s).rect = s.rect ∧ (modeWriteCompletes s).bus = s.bus ∧
    (modeWriteCompletes s).gen = s.gen ∧ (modeWriteCompletes s).cal = s.cal ∧
    (modeWriteCompletes s).link = s.link := by
  refine ⟨?_, ?_, ?_, ?_, ?_, ?_, ?_, ?_, ?_, ?_, ?_, ?_, ?_⟩ <;> (unfold modeWriteCompletes; (repeat' split) <;> simp)

@[simp] theorem accountEvent_frame (s : State) :
    (accountEvent s).pending = s.pending ∧ (accountEvent s).powered = s.powered ∧
    (accountEvent s).markerGood = s.markerGood ∧ (accountEvent s).meas = s.meas ∧ (accountEvent s).sup = s.sup ∧
    (accountEvent s).bus = s.bus ∧ (accountEvent s).gen = s.gen ∧ (accountEvent s).cal = s.cal ∧
    (accountEvent s).store = s.store ∧ (accountEvent s).link = s.link := by
  simp [accountEvent]

end Sys2Proof.Machine
end

