-- ==== Sys2Proof/Laws/Alarms.lean ====
section
/-! SUPPORT. What posting a notice, writing a record and reporting a condition can do: cite these in place of
unfolding `post`, `changeRecord`, `settle` and `report`. -/

namespace Sys2Proof.Machine

/-! ## Posting (R173) -/

/-- A notice that finds room joins the tail, and nothing else changes. -/
theorem post_room (kind : NoticeKind) (subject value : Nat) (s : State) (h : s.alarm.notices.length < 32) :
    post kind subject value s = s.onAlarm fun a =>
      { a with notices := a.notices ++ [{ kind := kind, subject := subject, value := value, time := s.stamp }] } := by
  simp [post, State.onAlarm, h]

/-- A notice that finds 32 is discarded and the resync flag set. -/
theorem post_full (kind : NoticeKind) (subject value : Nat) (s : State) (h : ¬ s.alarm.notices.length < 32) :
    post kind subject value s = s.onAlarm fun a => { a with resync := true } := by
  simp [post, State.onAlarm, h]

@[simp] theorem post_records (kind : NoticeKind) (subject value : Nat) (s : State) :
    (post kind subject value s).alarm.records = s.alarm.records := by
  unfold post; simp; split <;> rfl

@[simp] theorem post_evaluated (kind : NoticeKind) (subject value : Nat) (s : State) :
    (post kind subject value s).alarm.evaluated = s.alarm.evaluated := by
  unfold post; simp; split <;> rfl

@[simp] theorem post_lampLit (kind : NoticeKind) (subject value : Nat) (s : State) :
    (post kind subject value s).alarm.lampLit = s.alarm.lampLit := by
  unfold post; simp; split <;> rfl

@[simp] theorem post_record (kind : NoticeKind) (subject value c : Nat) (s : State) :
    (post kind subject value s).record c = s.record c := by simp [State.record]

/-- The notices already queued stay in front. -/
theorem post_prefix (kind : NoticeKind) (subject value : Nat) (s : State) :
    s.alarm.notices <+: (post kind subject value s).alarm.notices := by
  by_cases h : s.alarm.notices.length < 32
  · rw [post_room _ _ _ _ h]; simp
  · rw [post_full _ _ _ _ h]; simp

/-- The queue never holds more than 32. -/
theorem post_bounded (kind : NoticeKind) (subject value : Nat) (s : State) (h : s.alarm.notices.length ≤ 32) :
    (post kind subject value s).alarm.notices.length ≤ 32 := by
  by_cases h' : s.alarm.notices.length < 32
  · rw [post_room _ _ _ _ h']; simp; omega
  · rw [post_full _ _ _ _ h']; simpa using h

/-- Every notice in the queue after a posting was there before or is the one posted. -/
theorem post_mem (kind : NoticeKind) (subject value : Nat) (s : State) (n : Notice)
    (h : n ∈ (post kind subject value s).alarm.notices) :
    n ∈ s.alarm.notices ∨ n = { kind := kind, subject := subject, value := value, time := s.stamp } := by
  by_cases h' : s.alarm.notices.length < 32
  · rw [post_room _ _ _ _ h'] at h; simpa using h
  · rw [post_full _ _ _ _ h'] at h; left; simpa using h

/-! ## Writing a record -/

@[simp] theorem write_records (a : Alarm) (c : Nat) (r : AlarmRec) : (a.write c r).records = a.records.set c r := rfl
@[simp] theorem write_notices (a : Alarm) (c : Nat) (r : AlarmRec) : (a.write c r).notices = a.notices := rfl
@[simp] theorem write_resync (a : Alarm) (c : Nat) (r : AlarmRec) : (a.write c r).resync = a.resync := rfl
@[simp] theorem write_evaluated (a : Alarm) (c : Nat) (r : AlarmRec) : (a.write c r).evaluated = a.evaluated := rfl

/-- Reading back the record written. -/
theorem record_write (c : Nat) (r : AlarmRec) (s : State) (h : c < s.alarm.records.length) :
    (s.onAlarm fun a => a.write c r).record c = r := by
  simp [State.record, h]

/-- Every other record reads as before. -/
theorem record_write_ne (c d : Nat) (r : AlarmRec) (s : State) (h : d ≠ c) :
    (s.onAlarm fun a => a.write c r).record d = s.record d := by
  simp [State.record, List.getD_eq_getElem?_getD, Ne.symm h]

/-! ## Changing a record (R167) -/

@[simp] theorem changeRecord_length (c : Nat) (r : AlarmRec) (s : State) :
    (changeRecord c r s).alarm.records.length = s.alarm.records.length := by simp [changeRecord]

@[simp] theorem changeRecord_evaluated (c : Nat) (r : AlarmRec) (s : State) :
    (changeRecord c r s).alarm.evaluated = s.alarm.evaluated := by simp [changeRecord]

theorem changeRecord_record (c : Nat) (r : AlarmRec) (s : State) (h : c < s.alarm.records.length) :
    (changeRecord c r s).record c = { r with lastChange := some s.stamp } := by
  simp only [changeRecord, post_record]; exact record_write _ _ _ h

theorem changeRecord_record_ne (c d : Nat) (r : AlarmRec) (s : State) (h : d ≠ c) :
    (changeRecord c r s).record d = s.record d := by
  simp only [changeRecord, post_record]; exact record_write_ne _ _ _ _ h

theorem changeRecord_prefix (c : Nat) (r : AlarmRec) (s : State) :
    s.alarm.notices <+: (changeRecord c r s).alarm.notices := by
  simpa [changeRecord] using post_prefix .alarmChange c r.state.code (s.onAlarm fun a =>
    a.write c { r with lastChange := some s.stamp })

theorem changeRecord_bounded (c : Nat) (r : AlarmRec) (s : State) (h : s.alarm.notices.length ≤ 32) :
    (changeRecord c r s).alarm.notices.length ≤ 32 :=
  post_bounded _ _ _ _ (by simpa using h)

/-! ## Settling and reporting (R165, R166) -/

/-- All that settling a code can do. -/
theorem settle_cases (c : Nat) (s : State) :
    settle c s = s ∨ (s.alarm.evaluated = true ∧ (s.record c).raising = true ∧ settle c s = raiseAlarm c s) ∨
      (s.alarm.evaluated = true ∧ (s.record c).clearing = true ∧ settle c s = clearAlarm c s) := by
  unfold settle
  by_cases he : s.alarm.evaluated = true
  · by_cases hr : ((s.record c).raising && s.raiseDelay c == 0) = true
    · exact Or.inr (Or.inl ⟨he, (Bool.and_eq_true _ _ ▸ hr).1, by simp only [he, hr]; rfl⟩)
    · by_cases hc : ((s.record c).clearing && s.clearDelay c == 0) = true
      · exact Or.inr (Or.inr ⟨he, (Bool.and_eq_true _ _ ▸ hc).1, by simp only [he, hr, hc]; rfl⟩)
      · exact Or.inl (by simp only [he, hr, hc]; rfl)
  · exact Or.inl (by simp only [Bool.not_eq_true] at he; simp only [he]; rfl)

/-- Before the first evaluation nothing settles. -/
theorem settle_quiet (c : Nat) (s : State) (h : s.alarm.evaluated = false) : settle c s = s := by
  simp [settle, h]

/-- A raise keeps the condition and every other record. -/
theorem raiseAlarm_record (c : Nat) (s : State) (h : c < s.alarm.records.length) :
    (raiseAlarm c s).record c =
      { s.record c with
        state := .activeNew, occurrences := min 255 ((s.record c).occurrences + 1)
        firstRaised := if (s.record c).state = .idle then some s.stamp else (s.record c).firstRaised
        lastChange := some s.stamp, qual := 0 } := by
  rw [raiseAlarm, changeRecord_record _ _ _ h]

/-- A clear keeps the condition; the record becomes GONE_UNSEEN or IDLE. -/
theorem clearAlarm_record (c : Nat) (s : State) (h : c < s.alarm.records.length) :
    (clearAlarm c s).record c =
      if (s.record c).state = .activeNew ∧ s.latching c = true then
        { s.record c with state := .goneUnseen, lastChange := some s.stamp, qual := 0 }
      else { s.record c with state := .idle, firstRaised := none, lastChange := some s.stamp, qual := 0 } := by
  simp only [clearAlarm]
  rw [changeRecord_record _ _ _ h]
  split <;> rfl

theorem raiseAlarm_record_ne (c d : Nat) (s : State) (h : d ≠ c) : (raiseAlarm c s).record d = s.record d :=
  changeRecord_record_ne _ _ _ _ h

theorem clearAlarm_record_ne (c d : Nat) (s : State) (h : d ≠ c) : (clearAlarm c s).record d = s.record d :=
  changeRecord_record_ne _ _ _ _ h

/-- Settling keeps the condition of its code. -/
theorem settle_cond (c : Nat) (s : State) (h : c < s.alarm.records.length) :
    ((settle c s).record c).cond = (s.record c).cond := by
  rcases settle_cases c s with e | ⟨-, -, e⟩ | ⟨-, -, e⟩
  · rw [e]
  · rw [e, raiseAlarm_record _ _ h]
  · rw [e, clearAlarm_record _ _ h]; split <;> rfl

theorem settle_record_ne (c d : Nat) (s : State) (h : d ≠ c) : (settle c s).record d = s.record d := by
  rcases settle_cases c s with e | ⟨-, -, e⟩ | ⟨-, -, e⟩
  · rw [e]
  · rw [e, raiseAlarm_record_ne _ _ _ h]
  · rw [e, clearAlarm_record_ne _ _ _ h]

@[simp] theorem settle_length (c : Nat) (s : State) :
    (settle c s).alarm.records.length = s.alarm.records.length := by
  rcases settle_cases c s with e | ⟨-, -, e⟩ | ⟨-, -, e⟩ <;> rw [e] <;> simp [raiseAlarm, clearAlarm]

@[simp] theorem settle_evaluated (c : Nat) (s : State) : (settle c s).alarm.evaluated = s.alarm.evaluated := by
  rcases settle_cases c s with e | ⟨-, -, e⟩ | ⟨-, -, e⟩ <;> rw [e] <;> simp [raiseAlarm, clearAlarm]

theorem settle_prefix (c : Nat) (s : State) : s.alarm.notices <+: (settle c s).alarm.notices := by
  rcases settle_cases c s with e | ⟨-, -, e⟩ | ⟨-, -, e⟩ <;> rw [e]
  · exact changeRecord_prefix _ _ _
  · exact changeRecord_prefix _ _ _

theorem settle_bounded (c : Nat) (s : State) (h : s.alarm.notices.length ≤ 32) :
    (settle c s).alarm.notices.length ≤ 32 := by
  rcases settle_cases c s with e | ⟨-, -, e⟩ | ⟨-, -, e⟩ <;> rw [e]
  · exact h
  · exact changeRecord_bounded _ _ _ h
  · exact changeRecord_bounded _ _ _ h

/-- A report stores the condition. -/
theorem report_cond (c : Nat) (v : Bool) (s : State) (h : c < s.alarm.records.length) :
    ((report c v s).record c).cond = v := by
  unfold report
  rw [settle_cond _ _ (by simpa using h), record_write _ _ _ h]

/-- A report touches no other record. -/
theorem report_record_ne (c d : Nat) (v : Bool) (s : State) (h : d ≠ c) : (report c v s).record d = s.record d := by
  unfold report
  rw [settle_record_ne _ _ _ h, record_write_ne _ _ _ _ h]

@[simp] theorem report_length (c : Nat) (v : Bool) (s : State) :
    (report c v s).alarm.records.length = s.alarm.records.length := by simp [report]

@[simp] theorem report_evaluated (c : Nat) (v : Bool) (s : State) :
    (report c v s).alarm.evaluated = s.alarm.evaluated := by simp [report]

theorem report_prefix (c : Nat) (v : Bool) (s : State) :
    s.alarm.notices <+: (report c v s).alarm.notices := by
  have h := settle_prefix c (s.onAlarm fun a => a.write c
    { s.record c with cond := v, qual := if (s.record c).cond = v then (s.record c).qual else 0 })
  simpa [report] using h

theorem report_bounded (c : Nat) (v : Bool) (s : State) (h : s.alarm.notices.length ≤ 32) :
    (report c v s).alarm.notices.length ≤ 32 := by
  unfold report
  exact settle_bounded c _ (by simpa using h)

/-- Before the first evaluation a report only writes the condition. -/
theorem report_quiet (c : Nat) (v : Bool) (s : State) (h : s.alarm.evaluated = false) :
    report c v s = s.onAlarm fun a => a.write c
      { s.record c with cond := v, qual := if (s.record c).cond = v then (s.record c).qual else 0 } := by
  unfold report settle; simp [h]

end Sys2Proof.Machine
end

