-- ==== Sys2Proof/Laws/Encodings.lean ====
section
/-! SUPPORT. Widths of encoded fields (R208), the check over joined runs of bytes (R119), and the two bytes of a
word. -/

namespace Sys2Proof.Machine

@[simp] theorem bytesBE_length (n v : Nat) : (bytesBE n v).length = n := by simp [bytesBE]

@[simp] theorem field_length (n v : Nat) : (field n v).length = n := by unfold field; split <;> simp

@[simp] theorem signedField_length (n : Nat) (v : Int) : (signedField n v).length = n := by
  unfold signedField; split <;> simp

@[simp] theorem absentField_length (n : Nat) : (absentField n).length = n := by simp [absentField]

@[simp] theorem optField_length (n : Nat) (v : Option Nat) : (optField n v).length = n := by cases v <;> simp [optField]

@[simp] theorem flagField_length (b : Bool) : (flagField b).length = 1 := rfl

@[simp] theorem halfBytes_length (h : Half) : (halfBytes h).length = 2 := by simp [halfBytes]

/-- The check of a run followed by another goes on from the register of the first. -/
theorem check_append (a b : List Byte) : check (a ++ b) = b.foldl checkByte (check a) := by simp [check]

/-- The high and the low byte of a word. -/
theorem halfBytes_eq (h : Half) : halfBytes h = [BitVec.ofNat 8 (h.toNat / 256), BitVec.ofNat 8 h.toNat] := by
  simp [halfBytes, bytesBE, List.range_succ]

/-- Two bytes of a word read back as the word. -/
theorem wordOf_halfBytes (h : Half) :
    wordOf (BitVec.ofNat 8 (h.toNat / 256)) (BitVec.ofNat 8 h.toNat) = h := by
  apply BitVec.eq_of_toNat_eq
  have hb := h.isLt
  simp only [wordOf, BitVec.toNat_append, BitVec.toNat_ofNat]
  rw [Nat.shiftLeft_eq, Nat.mod_eq_of_lt (show h.toNat / 256 < 2 ^ 8 by omega),
    Nat.mul_comm, ← Nat.two_pow_add_eq_or_of_lt (Nat.mod_lt _ (by norm_num))]
  omega

/-- A run of words read back from its bytes. -/
theorem pairsOf_halfBytes (l : List Half) : pairsOf (l.flatMap halfBytes) = some l := by
  induction l with
  | nil => rfl
  | cons h l ih =>
    rw [List.flatMap_cons, halfBytes_eq, List.cons_append, List.cons_append, List.nil_append, pairsOf, ih,
      wordOf_halfBytes]
    rfl

/-- The bytes of a run of words. -/
theorem flatMap_halfBytes_length (l : List Half) : (l.flatMap halfBytes).length = 2 * l.length := by
  induction l with
  | nil => rfl
  | cons h l ih => simp [ih]; omega

@[simp] theorem withCheck_length (l : List Byte) : (withCheck l).length = l.length + 2 := by simp [withCheck]

/-- The command frame is nine bytes long (R116). -/
theorem commandFrame_length (e : Exchange) : e.commandFrame.length = 9 := by simp [Exchange.commandFrame]

/-- A request frame is six bytes longer than its payload (R209). -/
theorem requestFrame_length (address : Nat) (kind : Byte) (payload : List Byte) :
    (requestFrame address kind payload).length = payload.length + 6 := by
  simp [requestFrame]; omega

end Sys2Proof.Machine
end

