-- ==== Sys2Proof/Laws/Operations.lean ====
section
/-! SUPPORT. What each shared operation can do, said once: cite these in place of unfolding the operation. -/

namespace Sys2Proof.Machine

/-! ## The generator cap (R91, R128) -/

theorem capped_online (s : State) (n : Nat) (h : s.gen.machine = .online) : s.capped n = min n s.nGen := by
  simp [State.capped, State.online, h]

theorem capped_other (s : State) (n : Nat) (h : s.gen.machine ≠ .online) : s.capped n = n := by
  simp [State.capped, State.online, h]

/-- The cap only lowers. -/
theorem capped_le (s : State) (n : Nat) : s.capped n ≤ n := by
  unfold State.capped; split <;> omega

/-! ## The delivered count (R39) -/

theorem decrease_eq (r : StringRec) : r.decrease = r.baseline.getD 0 - r.account := by
  unfold StringRec.decrease; split <;> simp [*]

/-! ## Taking a command -/

theorem whenPowered_on (s : State) (f : State → State) (h : s.powered = true) : whenPowered s f = .next (f s) := by
  simp [whenPowered, h]

theorem whenPowered_off (s : State) (f : State → State) (h : s.powered = false) : whenPowered s f = .next s := by
  simp [whenPowered, h]

theorem onExpiry_due (s : State) (d : State → Bool) (f : State → State) (h : s.powered = true) (hd : d s = true) :
    onExpiry s d f = .next (f s) := by
  simp [onExpiry, whenPowered, h, hd]

theorem onExpiry_early (s : State) (d : State → Bool) (f : State → State) (hd : d s = false) :
    onExpiry s d f = .next s := by
  simp [onExpiry, whenPowered, hd]

/-- A count is due when the event that is taken brings it to its limit, or it stands there. -/
theorem due_iff (limit count : Nat) : due limit count = true ↔ limit ≤ count + 1 := by simp [due]

theorem hears_iff (s : State) :
    s.hears = true ↔ s.link.receiver = .listening ∨ s.link.receiver = .collecting := by
  simp [State.hears]

/-- A request taken: its owner serves it and the answer is in hand. -/
theorem onRequest_on (kind : Byte) (i : Instr) (s : State) (h : s.powered = true) (hh : s.hears = true) :
    onRequest kind i s = .next (holdAnswer kind (serveRequest i s).2 (serveRequest i s).1) := by
  simp [onRequest, whenPowered, h, hh, takeRequest]

/-- A request that meets a request in hand is discarded with the overrun mark (R202). -/
theorem onRequest_inHand (kind : Byte) (i : Instr) (s : State) (h : s.powered = true)
    (hr : s.link.receiver = .inHand) :
    onRequest kind i s = .next { s with link := { s.link with overrun := true } } := by
  simp [onRequest, whenPowered, h, State.hears, hr, discardByte, State.onLink]

/-- A request that meets the receiver DEAF is discarded (R202). -/
theorem onRequest_deaf (kind : Byte) (i : Instr) (s : State) (h : s.powered = true)
    (hr : s.link.receiver = .deaf) : onRequest kind i s = .next s := by
  simp [onRequest, whenPowered, h, State.hears, hr, discardByte]

/-- What the link holds once an answer is in hand (R199). -/
theorem holdAnswer_link (kind : Byte) (a : Answer) (s : State) :
    (holdAnswer kind a s).link =
      { s.link with
        receiver := .inHand, run := [], overrun := false, reply := none
        inHand := some { kind := kind, result := a.result, data := a.data, age := a.age } } := rfl

/-- Every step answers a next state or idles. -/
theorem step_nil (s : State) (h : s.pending = []) : step s = .next s := by simp [step, h]

theorem step_cons (s : State) (c : Instr) (rest : List Instr) (h : s.pending = c :: rest) :
    step s = exec c { s with pending := rest } := by simp [step, h]

/-! ## The stage (R45) -/

theorem changeStage_same (new : Stage) (s : State) (h : s.charge.stage = new) : changeStage new s = s := by
  simp [changeStage, h]

/-- Entering a stage other than TEST. -/
theorem changeStage_ne (new : Stage) (s : State) (h : s.charge.stage ≠ new) (ht : new ≠ .test) :
    changeStage new s = recomputeIm (recomputeIbl (recomputeSetpoint
      ((post .stageChange new.code s.charge.stage.code s).onCharge fun c =>
        { c with stage := new, absorbCount := 0, tailCount := 0, absorbTimer := 0, armed := false }))) := by
  simp [changeStage, h, ht]

/-- Entering TEST also drops the discharge count (R83). -/
theorem changeStage_test (s : State) (h : s.charge.stage ≠ .test) :
    changeStage .test s = dropDischargeCount (recomputeIm (recomputeIbl (recomputeSetpoint
      ((post .stageChange Stage.test.code s.charge.stage.code s).onCharge fun c =>
        { c with stage := .test, absorbCount := 0, tailCount := 0, absorbTimer := 0, armed := false })))) := by
  simp [changeStage, h]

@[simp] theorem recomputeIm_rect (s : State) : (recomputeIm s).rect = { s.rect with im := s.moduleLimit } := rfl
@[simp] theorem recomputeIbl_charge (s : State) : (recomputeIbl s).charge = { s.charge with ibl := batteryLimit s } := rfl
@[simp] theorem recomputeSetpoint_charge (s : State) :
    (recomputeSetpoint s).charge = { s.charge with setpoint := stageSetpoint s s.charge.stage } := rfl

/-! ## Slots, lists and swaps (R87, R88) -/

/-- A slot joins the queue behind every slot that stands before it. -/
theorem queueInsert_eq (s : State) (i : Nat) (l : List Nat) :
    queueInsert s i l =
      (l.takeWhile fun j => !queueBefore s i j) ++ i :: l.dropWhile fun j => !queueBefore s i j := by
  induction l with
  | nil => rfl
  | cons j l ih =>
    by_cases h : queueBefore s i j = true
    · simp [queueInsert, h]
    · simp [queueInsert, h, ih]

theorem mem_queueInsert (s : State) (i j : Nat) (l : List Nat) : j ∈ queueInsert s i l ↔ j = i ∨ j ∈ l := by
  induction l with
  | nil => simp [queueInsert]
  | cons k l ih =>
    simp only [queueInsert]
    split
    · simp
    · simp [ih]; tauto

theorem nodup_queueInsert (s : State) (i : Nat) (l : List Nat) (h : l.Nodup) (hi : i ∉ l) :
    (queueInsert s i l).Nodup := by
  induction l with
  | nil => simp [queueInsert]
  | cons k l ih =>
    simp only [queueInsert]
    split
    · exact List.nodup_cons.2 ⟨hi, h⟩
    · refine List.nodup_cons.2 ⟨?_, ih (List.nodup_cons.1 h).2 fun h' => hi (List.mem_cons_of_mem _ h')⟩
      rw [mem_queueInsert]
      rintro (rfl | h')
      · exact hi (List.mem_cons_self ..)
      · exact (List.nodup_cons.1 h).1 h'

theorem onSlot_slot (i : Nat) (f : Slot → Slot) (s : State) (h : i < s.rect.slots.length) :
    (onSlot i f s).slot i = f (s.slot i) := by
  simp [onSlot, State.slot, State.onRect, List.getD_eq_getElem?_getD, h]

theorem onSlot_slot_ne (i j : Nat) (f : Slot → Slot) (s : State) (h : j ≠ i) : (onSlot i f s).slot j = s.slot j := by
  simp [onSlot, State.slot, State.onRect, List.getD_eq_getElem?_getD, Ne.symm h]

theorem changeSlot_same (i : Nat) (new : SlotState) (s : State) (h : (s.slot i).state = new) :
    changeSlot i new s = s := by simp [changeSlot, h]

@[simp] theorem reportFaults_rect (s : State) : (reportFaults s).rect = s.rect := by simp [reportFaults]

/-- Im formed again, or not, changes nothing else of the scheduler. -/
theorem limit_rect (n : Nat) (u : State) :
    (if u.nRun = n then u else recomputeIm u).rect =
      { u.rect with im := (if u.nRun = n then u else recomputeIm u).rect.im } := by
  split <;> rfl

/-- The roster after a change of a slot's state. -/
theorem changeSlot_rect (i : Nat) (new : SlotState) (s : State) (h : (s.slot i).state ≠ new) :
    (changeSlot i new s).rect =
      { s.rect with
        slots := s.rect.slots.modify i fun x =>
          { x with
            state := new, lastChange := s.stamp, startCount := 0, recovery := 0
            data := if new = .absent then none else x.data }
        running := placeRunning i new s.rect.running
        queue := placeQueue s i new s.rect.queue
        im := (changeSlot i new s).rect.im } := by
  simp only [changeSlot, h, if_false, reportFaults_rect]
  exact limit_rect _ _

/-- Ending a swap where there is none. -/
theorem endSwap_none (outcome : SwapOutcome) (s : State) (h : s.rect.swap = none) : endSwap outcome s = s := by
  simp [endSwap, h]

theorem leaveSwap_none (i : Nat) (s : State) (h : s.rect.swap = none) : leaveSwap i s = s := by simp [leaveSwap, h]

/-- A slot that takes no part in the swap leaves it as it is. -/
theorem leaveSwap_other (i : Nat) (w : Swap) (s : State) (h : s.rect.swap = some w) (h1 : w.incoming ≠ i)
    (h2 : w.outgoing ≠ i) : leaveSwap i s = s := by simp [leaveSwap, h, h1, h2]

/-- What becomes of a held request at a measurement event that begins no swap (R110). -/
theorem dropFreed_rect (s : State) :
    (dropFreed s).rect =
      if s.sup.hold = none ∨ s.rect.requestFreed = true then
        { s.rect with rotationRequest := false, requestFreed := false }
      else s.rect := by
  unfold dropFreed; split <;> rfl

/-! ## Evaluating a start (R129) -/

theorem evaluateStart_shut (s : State) (h : gatesOpen s = false) : evaluateStart s = s := by simp [evaluateStart, h]

theorem evaluateStart_none (s : State) (h : firstCause s = none) : evaluateStart s = s := by
  simp [evaluateStart, h]

theorem evaluateStart_begins (s : State) (b : Basis) (h : gatesOpen s = true) (hb : firstCause s = some b) :
    evaluateStart s = beginCause b s := by simp [evaluateStart, h, hb]

/-- The gates are shut outside IDLE. -/
theorem gatesOpen_idle (s : State) (h : gatesOpen s = true) : s.gen.machine = .idle := by
  simp [gatesOpen] at h; exact h.1.1.1.1.1.2

end Sys2Proof.Machine
end

