-- ==== Sys2Proof/Tests/Slice0.lean ====
section
/-! SUPPORT. Tests: ill-formed commands, the reset state, the manual's worked cases, and for every statement with
hypotheses a witness that meets them. Expected values are the manual's or worked by hand from its rules. -/

namespace Sys2Proof.Tests

open Sys2Proof.Machine

set_option Elab.async false

/-! ## Helpers -/

abbrev base : State := State.reset

/-- Both straps in band 0, every input inactive. -/
def quiet : Pins :=
  { strapA := 4700, strapB := 4700, mainsSense := false, genSense := false, levels := List.replicate 8 false }

/-- The state after a command, or the state itself if the command does not complete. -/
def after (i : Instr) (s : State) : State :=
  match exec i s with
  | .next t => t
  | .fault _ => s
  | .refused _ => s

/-- A setting in force and working. -/
def withSetting (g i v : Nat) (s : State) : State :=
  s.onStore fun x =>
    let w := x.work.set g ((x.work.getD g []).set i v)
    { x with work := w, latched := w }

/-- Readings of a quiet plant. -/
def calm : Readings :=
  { bus := 5400, load := 0, string1 := 0, string2 := 0, string3 := 0, string4 := 0, therm1 := 250, therm2 := 250
    therm3 := 250, therm4 := 250, fuel := 80 }

def someRun (b : Basis) : Run :=
  { basis := b, opening := none, exMark := false, load := false, attempts := 1, warmupEnd := none, runTime := 0
    duration := none, durCount := none, tailMark := false, stopReason := none, reachedOnline := false }

def inState (m : GenState) (r : Run) (count : Nat) (s : State) : State :=
  s.onGen fun g => { g with machine := m, run := some r, stateCount := count }

def inStage (st : Stage) (s : State) : State := s.onCharge fun c => { c with stage := st }

def inMode (m : Mode) (ac : Bool) (s : State) : State := s.onSup fun p => { p with mode := m, ac := ac }

def held (s : State) : State := s.onSup fun p => { p with hold := some { cause := .request, left := 60 } }

/-- With the receiver ready for a request. -/
def hearing (s : State) : State := s.onLink fun l => { l with receiver := .listening }

/-- Every thermistor VALID at `temp`. -/
def warmed (temp : Int) (s : State) : State :=
  s.onMeas fun m =>
    { m with therms := List.replicate 4 { reading := temp, validity := .valid, held := 0, last := some temp } }

/-- Mains QUALIFIED with the mode and AC that follow. -/
def onMains (s : State) : State := inMode .mains true (s.onMeas fun m => { m with mainsQualified := true })

def withSlot (i : Nat) (x : Slot) (s : State) : State := s.onRect fun r => { r with slots := r.slots.set i x }

/-- A placed roster, as a test that can be run. -/
def placed (s : State) : Bool :=
  let commanded := fun i => (s.slot i).state == .starting || (s.slot i).state == .running
  let waits := fun i => (s.slot i).state == .standby
  s.rect.slots.length == 12 && s.bus.links.length == 12 && decide s.rect.running.Nodup && decide s.rect.queue.Nodup &&
    s.rect.running.all (fun i => decide (i < 12) && commanded i) &&
    (List.range 12).all (fun i => !commanded i || s.rect.running.contains i) &&
    s.rect.queue.all (fun i => decide (i < 12) && waits i) &&
    (List.range 12).all (fun i => !waits i || s.rect.queue.contains i) &&
    s.rect.swap.all fun w => decide (w.incoming < 12 ∧ w.outgoing < 12)

/-- A placed swap, as a test that can be run. -/
theorem placed_swap (s : State)
    (h : (s.rect.swap.all fun w => decide (w.incoming ∈ s.rect.running ∧ w.outgoing ∈ s.rect.running ∧
      w.incoming ≠ w.outgoing ∧ (w.phase = .overlap ↔ (s.slot w.incoming).state = .running))) = true) :
    s.SwapPlaced := by
  simpa only [State.SwapPlaced, Option.all_eq_true, decide_eq_true_eq] using h

theorem placed_roster (s : State) (h : placed s = true) : s.RosterPlaced := by
  simp only [placed, Bool.and_eq_true, List.all_eq_true, Bool.or_eq_true, Bool.not_eq_true', decide_eq_true_eq,
    List.mem_range, List.contains_iff_mem, beq_iff_eq, Option.all_eq_true] at h
  obtain ⟨⟨⟨⟨⟨⟨⟨⟨h1, h2⟩, h3⟩, h4⟩, h5⟩, h6⟩, h7⟩, h8⟩, h9⟩ := h
  refine ⟨h1, h2, h3, h4, fun i => ⟨h5 i, ?_⟩, fun i => ⟨h7 i, ?_⟩, h9⟩
  · rintro ⟨hi, hs⟩
    rcases h6 i hi with h | h
    · rcases hs with hs | hs <;> simp [hs] at h
    · exact h
  · rintro ⟨hi, hs⟩
    rcases h8 i hi with h | h
    · simp [hs] at h
    · exact h

/-! ## Ill-formed commands are refused -/

theorem test_start_needs_eight_levels :
    (Instr.powerReturnStart { quiet with levels := List.replicate 7 false }).wellFormed = false := by decide

theorem test_reset_pin_needs_eight_levels :
    (Instr.resetPinStart { quiet with levels := List.replicate 9 false }).wellFormed = false := by decide

theorem test_restart_needs_eight_levels :
    (Instr.restartWarmStart { quiet with levels := [] }).wellFormed = false := by decide

theorem test_order_names_no_block_twice :
    (Instr.measurementEvent calm (.account :: allBlocks.erase .link)).wellFormed = false := by decide

theorem test_order_leaves_no_block_out : (Instr.measurementEvent calm (allBlocks.erase .link)).wellFormed = false := by
  decide

theorem test_status_frame_has_at_most_twelve_bytes :
    (Instr.statusFrame (List.replicate 13 { value := 0, goodStop := true })).wellFormed = false := by decide

theorem test_values_fit_one_frame : (Instr.writeSettings 0 0 47 (List.replicate 47 0)).wellFormed = false := by decide

theorem test_well_formed_commands :
    (Instr.powerReturnStart quiet).wellFormed = true ∧ (Instr.measurementEvent calm allBlocks).wellFormed = true ∧
      (Instr.writeSettings 0 0 46 (List.replicate 46 0)).wellFormed = true := by decide

/-! ## Reset, the queue and the words -/

/-- R1: the reset state is what a cold start makes of a part whose backup domain was lost. -/
theorem test_reset_is_a_cold_start :
    after (.powerReturnStart quiet) { base with powered := false, markerGood := false } = base := by decide +kernel

theorem test_step_takes_the_front :
    step { base with pending := [.plantSupplyLoss, .calendarTick] } =
      exec .plantSupplyLoss { base with pending := [.calendarTick] } := rfl

theorem test_no_word_spells_a_command : decodeTableWord 8 0x24 = none ∧ base.withFetchWord 8 0x24 = base := by
  decide +kernel

/-! ## The manual's worked cases -/

/-- 02_the_charge_account.md, "The cases of one integration step". -/
def account600 (a : Nat) (q : Int) : StringRec :=
  { freshDefaultString with account := a, residue := q }

theorem test_integration_rows :
    ((account600 45210 0).integrate (contribution 95 (-425)) = account600 45209 (-6500)) ∧
      ((account600 45209 (-6500)).integrate (contribution 95 300) = account600 45209 22000) ∧
      ((account600 59999 30000).integrate (contribution 95 500) = account600 60000 0) ∧
      ((account600 60000 0).integrate (contribution 95 (-100)) = account600 60000 (-10000)) ∧
      ((account600 1 (-20000)).integrate (contribution 95 (-300)) = account600 0 (-14000)) ∧
      ((account600 0 (-14000)).integrate (contribution 95 (-300)) = account600 0 0) := by decide

/-- 03_charge_control.md, "Worked setpoint cases". -/
def atTemp (cells : Nat) (tb : Int) : State :=
  (withSetting 0 8 cells base).onCharge fun c => { c with tb := tb, tc := compTemp tb }

theorem test_setpoint_cases :
    stageSetpoint (atTemp 24 386) .float = 5350 ∧ stageSetpoint (atTemp 25 252) .float = 5674 ∧
      stageSetpoint (atTemp 25 249) .float = 5676 ∧ stageSetpoint (atTemp 24 (-52)) .equalize = 5870 ∧
      stageSetpoint (atTemp 24 300) .test = 4560 := by decide +kernel

/-- R58: two strings at 41.5 °C on the generator with a load of 186.0 A. -/
theorem test_battery_limit_on_generator :
    batteryLimit (((atTemp 24 415).onGen fun g => { g with machine := .online }).onMeas fun m =>
      { m with load := 1860 }) = 140 := by decide +kernel

/-- 05_rectifier_roster_and_rotation.md, "Worked count case". -/
def countPlant : State :=
  withSetting 0 15 12 (((onMains base).onCharge fun c => { c with stage := .bulk, ibl := 900 }).onMeas fun m =>
    { m with load := 1860 }) |>.onRect fun r =>
      { r with fitted := 12, slots := List.replicate 12 { blankSlot with state := .standby, answering := .yes } }

theorem test_count_case : upCount countPlant = 8 ∧ downCount countPlant = 10 := by decide +kernel

/-- R198: 22 kΩ at A and 6.8 kΩ at B; the ends of the bands. -/
theorem test_straps :
    strapAddress 22000 6800 = some 49 ∧ strapAddress 3000 470000 = some 11 ∧ strapAddress 5600 5599 = some 12 ∧
      strapAddress 2999 6800 = none ∧ strapAddress 6800 470001 = none := by decide

/-- R119, worked by hand: the preset shifted through zero bytes, the polynomial once its bit leaves. -/
theorem test_check_of_zeros : (check []).toNat = 0x0001 ∧ (check [0]).toNat = 0x0100 ∧ (check [0, 0]).toNat = 0x1021 := by
  decide +kernel

/-- R152, R155: 2000-01-01 is a SATURDAY, 2024-02-29 a THURSDAY. -/
theorem test_weekdays : weekdayOf 2000 1 1 = 5 ∧ weekdayOf 2024 2 29 = 3 ∧ weekdayOf 2099 12 31 = 3 := by decide

/-- R153: out of 2099. -/
theorem test_tick_wraps :
    (({ base.cal with year := 2099, month := 12, day := 31, hour := 23, minute := 59, second := 59, weekday := 3
                      valid := true } : Cal).tick) = base.cal := by decide

/-- R208: 2000-01-01 to 2000-03-01 is 31 and 29 days. -/
theorem test_stamp : ({ base.cal with month := 3, hour := 1 } : Cal).stamp = 60 * 86400 + 3600 := by decide

/-- R116: the first command after reset goes to 0xC0 with tag 0, run off, setpoint 54.12 V and limit 50.0 A. -/
theorem test_first_command_frame :
    (base.bus.exchange.commandFrame).take 7 = [0xC0#8, 0x00#8, 0x00#8, 0x15#8, 0x24#8, 0x01#8, 0xF4#8] := by
  decide +kernel

set_option maxRecDepth 50000 in
/-- R183, R188: the default group 6 is read with its signature, and that signature unlocks it. -/
theorem test_signature_unlocks :
    (after (.unlock 6 (signatureOf relayDefaults)) (hearing base)).store.unlocked = some 6 ∧
      (after (.unlock 6 (signatureOf relayDefaults + 1)) (hearing base)).store.unlocked = none := by decide +kernel

/-- R191, R192: the bus-low threshold may not reach the float voltage of 2270. -/
theorem test_relation_is_kept :
    ((after (.writeSettings 2 9 1 [2150]) ((hearing base).onStore fun x => { x with unlocked := some 2 })).link.inHand.map
      fun h => (h.result, h.data)) = some (.ok, []) ∧
    ((after (.writeSettings 2 9 1 [2150])
      (withSetting 1 0 2150 ((hearing base).onStore fun x => { x with unlocked := some 2 }))).link.inHand.map
        fun h => (h.result, h.data)) = some (.badField, [9#8]) := by decide +kernel

/-- R12, R13: an enabled edge posts its notice with input and direction. -/
theorem test_edge_notice :
    (after (.persistenceExpiry 2) ((withSetting 7 26 3 base).onMeas fun m =>
      { m with inputs := m.inputs.set 2 { level := true, active := false, timer := some 5 } })).alarm.notices.getLast? =
      some { kind := .inputEdge, subject := 3, value := 1, time := 0 } := by decide +kernel

/-- R174: after a start the queue holds START, and then nothing. -/
theorem test_next_notice :
    ((after (.nextNotice 0) (hearing base)).link.inHand.map fun h => h.data) = some [0, 10, 1, 0, 0, 0, 0, 0, 0] ∧
      ((after (.nextNotice 0) (hearing (after (.nextNotice 0) (hearing base)))).link.inHand.map fun h => h.data) = some [1] := by
  decide +kernel

/-- R18: 300 minutes asked with a limit of 240. -/
theorem test_hold_is_clamped :
    (after (.hold 300) (hearing base)).sup.hold = some { cause := .request, left := 14400 } ∧
      ((after (.hold 300) (hearing base)).link.inHand.map fun h => h.result) = some .clamped := by decide +kernel

/-- R199, R204: a request that is no kind of R210, and a length its kind does not take. -/
theorem test_unknown_kind_and_length :
    requestOf 0x0C [] = .inr .unknownKind ∧ requestOf 0x24 [1] = .inr .badLength ∧
      requestOf 0x31 [0, 5] = .inr .badField := by decide

/-- R22, R36: a third string fitted by a completed write begins UNSYNC at its initial charge. -/
theorem test_new_string :
    ((after (.measurementEvent calm allBlocks) (withSetting 0 9 3 base)).stringRec 2).map
      (fun r => (r.account, r.sync)) = some (42000, .unsync) := by decide +kernel

/-- R145: a MANUAL run begins at once with the gates shut, in PRIMING. -/
theorem test_manual_run_begins :
    ((after (.genStart 30 1) (hearing base)).gen.machine, (after (.genStart 30 1) (hearing base)).gen.run.map Run.basis) =
      (.priming, some .manual) := by decide +kernel

/-- R90 to R92: with AC and room in spacing the head of the queue starts at the event. -/
theorem test_module_starts :
    (after (.measurementEvent { calm with load := 1860 } allBlocks)
      ({ countPlant with rect := { countPlant.rect with queue := List.range 12, spacing := 5 }
                         bus := { countPlant.bus with fitted := 12 } })).rect.running = [0] := by decide +kernel


/-- R202: a HOLD that meets a request in hand is discarded, and the overrun mark is set. -/
theorem test_request_in_hand_stands :
    after (.hold 5) (holdAnswer 0x23#8 Answer.ok base) =
      (holdAnswer 0x23#8 Answer.ok base).onLink fun l => { l with overrun := true } := by decide +kernel

/-- R206: no start before the reply to the RESTART is being sent. -/
theorem test_restart_waits_for_its_reply :
    (after (.restartWarmStart quiet) (after .restart (hearing base))).sup.startCause = .supplyReturned ∧
      (after (.restartWarmStart quiet) (after .replyBegin (after .restart (hearing base)))).sup.startCause = .restart := by
  decide +kernel

/-- R205: a copy read at age 59 is returned at age 59, though the snapshot is dropped before the reply. -/
theorem test_copy_keeps_its_age :
    let s := hearing (base.onLink fun l => { l with snapshot := some { makeSnapshot base with age := 59 } })
    let t := after .snapshotDrop (after (.readMeasure 1) s)
    t.link.snapshot = none ∧ (t.link.inHand.map fun h => (digest t h).drop 4) = some [59] := by decide +kernel

/-- R137: a maximum run of 1 h and a duration of 60 min reached at one event give MAX_RUN. -/
theorem test_max_run_comes_first :
    (after .duration (inState .offload
      { someRun .exercise with runTime := 3599, duration := some 60 } 5 (withSetting 3 17 1 base))).gen.run.map
        Run.stopReason = some (some .maxRun) := by decide +kernel

/-- R47, R68: a test aborted for an UNSYNC string at the event that sets the latch leads to FLOAT. -/
theorem test_hot_abort_floats :
    (chargeEvent (warmed 520 (onMains (inStage .test (base.onCharge fun c =>
      { c with test := some { target := 40, acceptedAt := 0, elapsed := 5 } }))))).charge.stage = .float := by
  decide +kernel

/-- R110: a request held under a hold that has ended is dropped at the next event, though a new hold stands. -/
theorem test_freed_request_is_dropped :
    (rectEvent (held (clearHold (held (base.onRect fun r => { r with rotationRequest := true }))))).rect.rotationRequest =
      false := by decide +kernel

/-- R81: an event raised in PROTECT is not integrated, though the mode has left PROTECT by the account unit's turn. -/
theorem test_closing_event_is_not_integrated :
    let s := raiseEvent { calm with string1 := 300, string2 := 300 } (inMode .protect false base)
    (accountEvent (inMode .mains true s)).fittedStrings.map (fun r => (r.account, r.residue)) =
      [(42000, 0), (42000, 0)] := by decide +kernel
/-! ## Witnesses: states that meet the hypotheses of each statement, a boundary value for each clause -/

theorem witness_NothingMovesWithoutSupply : ({ base with powered := false } : State).powered = false := rfl

/-- Reset with a tick waiting, a state in which every invariant holds and from which a step runs. -/
def ticking : State := { base with pending := [.calendarTick] }

theorem witness_StepsKeepTheTablesBounded : ticking.TablesBounded ∧ (∃ t, step ticking = .next t) :=
  ⟨⟨by decide +kernel, by decide +kernel, by decide +kernel⟩, _, rfl⟩

theorem witness_StepsKeepTheModeDerived :
    ticking.ModeDerived ∧ ticking.StageFits ∧ (∃ t, step ticking = .next t) :=
  ⟨⟨by decide +kernel, by decide +kernel⟩, ⟨by decide, by decide, by decide, by decide⟩, _, rfl⟩

theorem witness_StepsKeepTheSettingsOrdered : ticking.SettingsOrdered ∧ (∃ t, step ticking = .next t) :=
  ⟨⟨by decide +kernel, by simp only [SettingsInOrder, CellsInOrder, BudgetInOrder]; decide +kernel, fun _ _ h => nomatch h⟩, _, rfl⟩

theorem witness_StepsKeepTheCalendarLegal : ticking.CalendarLegal ∧ (∃ t, step ticking = .next t) :=
  ⟨by simp only [State.CalendarLegal]; decide +kernel, _, rfl⟩

theorem witness_StepsKeepTheAccountsBounded : ticking.AccountsBounded ∧ (∃ t, step ticking = .next t) := by
  refine ⟨⟨⟨by decide +kernel, by simp only [InitialChargeLegal]; decide +kernel,
    by simp only [InitialChargeLegal]; decide +kernel, ?_, fun _ h => nomatch h⟩, ?_⟩, _, rfl⟩
  · intro m h _
    have e : ticking.store.images[0]? = some { values := groupDefaults 0, good := true } := by decide +kernel
    rw [e] at h
    obtain rfl := Option.some.inj h
    simp only [InitialChargeLegal]; decide +kernel
  · intro r h
    have e : ticking.acct.strings = [some freshDefaultString, some freshDefaultString, none, none] := rfl
    rw [e] at h
    have : r = freshDefaultString := by simpa using h
    subst this
    exact ⟨by decide, by decide, by decide⟩

theorem witness_StepsHonourTheLatching :
    ({ ticking with alarm := { ticking.alarm with evaluated := true } } : State).LatchingHonoured ∧
      (∃ t, step { ticking with alarm := { ticking.alarm with evaluated := true } } = .next t) := by
  refine ⟨fun _ => ?_, _, rfl⟩
  decide +kernel

/-- Slots 0 and 1 running, 2 starting, 3 waiting, 4 in fault, 5 locked out. -/
def mixed : State :=
  onMains (base.onRect fun r =>
    { r with
      slots := [{ blankSlot with state := .running, hours := 500, answering := .yes },
        { blankSlot with state := .running, hours := 300, answering := .yes },
        { blankSlot with state := .starting, startCount := 29, answering := .yes },
        { blankSlot with state := .standby, hours := 10, answering := .yes },
        { blankSlot with
          state := .fault, recovery := 59, answering := .yes
          data := some
            { current := 0, temp := 20, running := false, limiting := false, faultTemp := false, faultOutput := false
              faultFan := false, acFail := false } },
        { blankSlot with state := .lockout, answering := .yes }] ++ List.replicate 6 blankSlot
      running := [0, 1, 2], queue := [3], upFormed := 2, spacing := 5 })

theorem mixed_placed : mixed.RosterPlaced := placed_roster _ (by decide +kernel)

/-- The interval of 168 h one second away; a swap whose overlap ends at the next event. -/
def rotating : State := mixed.onRect fun r => { r with rotation := 604799 }
def swapping (up : Nat) : State :=
  mixed.onRect fun r =>
    { r with swap := some { incoming := 1, outgoing := 0, phase := .overlap, overlap := 29 }, upFormed := up }

theorem witness_StepsKeepTheRosterPlaced :
    ({ mixed with pending := [.startTimeout 2] } : State).RosterPlaced ∧
      ({ mixed with pending := [.startTimeout 2] } : State).QueueOrdered ∧
      ({ mixed with pending := [.startTimeout 2] } : State).SwapPlaced ∧ (swapping 2).SwapPlaced ∧
      (∃ t, step { mixed with pending := [.startTimeout 2] } = .next t) :=
  ⟨placed_roster _ (by decide +kernel), by simp only [State.QueueOrdered]; decide +kernel, placed_swap _ (by decide +kernel),
    placed_swap _ (by decide +kernel), _, rfl⟩

/-- The reply to a RESTART is being sent. -/
def restarting : State := base.onLink fun l => { l with restartDue := true, reply := some [0x5A] }

/-- Both images of Charge and Protection good, with a float voltage below the bus-low level. -/
def disordered : State :=
  base.onStore fun x => { x with images := x.images.set 1 { values := (groupDefaults 1).set 0 2000, good := true } }

theorem witness_StartsBringTheirState :
    (base.powered = true ∧ restarting.powered = true ∧ restarting.link.restartDue = true ∧
      restarting.link.reply ≠ none ∧ base.link.restartDue = false ∧ base.link.reply = none) ∧
      disordered.store.Disordered 2 ∧ ¬ disordered.store.Disordered 3 ∧ ¬ disordered.store.Disordered 7 := by
  simp only [Store.Disordered, CellsInOrder, BudgetInOrder]; decide +kernel

/-- R184: an order broken at a start loads both groups with their defaults. -/
theorem test_disordered_images_are_replaced :
    (let t := after (.powerReturnStart quiet) disordered
     (t.group 1, t.store.damaged)) =
      (groupDefaults 1, [false, true, true, false, false, false, false, false]) := by decide +kernel

theorem witness_StartsKeepOrRenewTheAccounts :
    (base.powered = true ∧ restarting.powered = true ∧ restarting.link.restartDue = true ∧
        restarting.link.reply ≠ none) ∧
      ((after (.powerReturnStart quiet) base).now 0 9 ≤ 2) ∧
      (1 < (after (.powerReturnStart quiet) { base with markerGood := false }).now 0 9 ∧
        ({ base with markerGood := false } : State).markerGood = false) ∧
      1 < (after (.powerReturnStart quiet) base).now 0 9 ∧ base.markerGood = true ∧
      (base.stringRec 1).map StringRec.capacity = some ((after (.powerReturnStart quiet) base).now 0 11) ∧
      base.stringRec 2 = none := by
  decide +kernel

theorem witness_SupplyLossAndCellFailure :
    base.powered = true ∧ ({ base with powered := false } : State).powered = false := ⟨rfl, rfl⟩

theorem witness_EventPresentsTheReadings : base.powered = true := rfl

/-- A charge of the largest current, and a discharge in PROTECT. -/
theorem witness_EventIntegratesTheAccounts :
    (base.powered = true ∧ base.charge.stage ≠ .absorb ∧ 1 < base.now 0 9 ∧
        stringReading { calm with string2 := 10000 } 1 ≤ 10000 ∧
        -10000 ≤ stringReading { calm with string2 := -10000 } 1 ∧
        (base.stringRec 1).map StringRec.capacity = some (base.now 0 11)) ∧
      (inMode .protect false base).sup.mode = .protect ∧ base.charge.test = none ∧ base.now 0 9 ≤ 2 ∧
      (base.stringRec 2 = none ∧ 2 < (withSetting 0 9 3 base).now 0 9) ∧
      (base.stringRec 1).map StringRec.capacity ≠ some ((withSetting 0 11 100 base).now 0 11) ∧
      10000 < stringReading { calm with string2 := 10001 } 1 ∧ (base.stringChannel 1).held < 10 := by decide +kernel

/-- The three clauses: just above Amax, just below 0, and exactly on Amax. -/
theorem witness_IntegrationCarriesAndClamps :
    (let r := account600 60000 35999;
      r.residue < 36000 ∧ -36000 < r.residue ∧ 60000 < (r.account : Int) + (r.residue + 1).tdiv 36000) ∧
      (let r := account600 0 (-35999);
        -36000 < r.residue ∧ (r.account : Int) + (r.residue + -1).tdiv 36000 < 0) ∧
      (let r := account600 59999 35999;
        0 ≤ (r.account : Int) + (r.residue + 1).tdiv 36000 ∧
          (r.account : Int) + (r.residue + 1).tdiv 36000 ≤ 60000) := by decide

def thermHeld (n : Nat) : State :=
  base.onMeas fun m => { m with therms := m.therms.set 3 { reading := 200, validity := .held, held := n, last := some 200 } }

theorem witness_HeldThermistorFallsBack :
    (thermHeld 599).powered = true ∧ ((thermHeld 599).therm 3).validity = .held ∧
      600 ≤ ((thermHeld 599).therm 3).held + 1 ∧ (base.therm 3).validity ≠ .held := by decide

def channelHeld (n : Nat) : State :=
  base.onMeas fun m => { m with strings := m.strings.set 1 { reading := 5, validity := .held, held := n, last := some 5 } }

theorem witness_UnusableChannelUnsyncsItsString :
    (channelHeld 10).powered = true ∧ (channelHeld 10).alarm.records.length = 40 ∧
      ((channelHeld 10).stringChannel 1).validity = .held ∧ 11 ≤ ((channelHeld 10).stringChannel 1).held + 1 ∧
      ((channelHeld 10).stringRec 1).isSome = true := by decide

theorem witness_SensesAndLevelsRunTheirTimers :
    base.powered = true ∧ base.meas.mainsSense ≠ true ∧ base.meas.mainsSense = false ∧ base.meas.genSense ≠ true ∧
      base.meas.genSense = false ∧ (base.input 7).level ≠ true ∧ (base.input 7).level = false := by decide

/-- Mains about to return, and about to fail with no machine ONLINE. -/
def returning : State := base.onMeas fun m => { m with mainsSense := true, mainsTimer := some 120 }
def failing : State := mixed.onMeas fun m => { m with mainsSense := false, mainsTimer := some 2 }

/-- Mains about to fail, or to return, with a run in flight. -/
def failingRun (m : GenState) (b : Basis) : State := inState m (someRun b) 5 failing
def returningRun : State := inState .online (someRun .manual) 5 returning

theorem witness_MainsQualificationChanges :
    (returning.powered = true ∧ returning.alarm.records.length = 40 ∧ returning.meas.mainsQualified = false ∧
        returning.meas.mainsTimer.isSome = true) ∧
      (failing.powered = true ∧ failing.alarm.records.length = 40 ∧ failing.meas.mainsQualified = true ∧
        failing.meas.mainsTimer.isSome = true ∧ failing.gen.machine ≠ .online) ∧
      failing.ModeDerived ∧ failing.RosterPlaced ∧ base.meas.mainsTimer = none ∧
      (returningRun.gen.run = some (someRun .manual) ∧ returningRun.gen.machine = .online ∧
        (someRun .manual).load = false) ∧
      ((failingRun .offload .manual).gen.machine = .offload ∧ (someRun .manual).basis = .manual ∧
        (failingRun .offload .exercise).gen.run = some (someRun .exercise) ∧
        (failingRun .crankRest .exercise).gen.machine = .crankRest ∧ (someRun .remote).basis ≠ .exercise) :=
  ⟨by decide, by decide, ⟨by decide +kernel, by decide +kernel⟩, placed_roster _ (by decide +kernel), by decide,
    by decide, by decide⟩

/-- The second of the generator sense is over, the machine being in `m` with `n` attempts used. -/
def sensed (present : Bool) (m : GenState) (n : Nat) : State :=
  inState m { someRun .remote with attempts := n } 5 (base.onMeas fun x => { x with genSense := present, genTimer := some 1 })

theorem witness_GeneratorAcQualifies :
    (base.powered = true ∧ base.meas.genTimer = none) ∧
      ((sensed true .cranking 1).meas.genTimer.isSome = true ∧ (sensed true .cranking 1).meas.genSense = true ∧
        (sensed true .cranking 1).gen.machine = .cranking) ∧
      ((sensed true .idle 1).gen.machine ≠ .cranking ∧ (sensed true .idle 1).gen.machine ≠ .crankRest) ∧
      ((sensed false .warmup 2).meas.genSense = false ∧ (sensed false .warmup 2).gen.machine = .warmup ∧
        ((sensed false .warmup 2).gen.run.map Run.attempts).getD 0 < (sensed false .warmup 2).inForce 3 14) ∧
      ((sensed false .warmup 3).inForce 3 14 ≤ ((sensed false .warmup 3).gen.run.map Run.attempts).getD 0) ∧
      (sensed false .online 1).gen.machine = .online ∧
      ((sensed false .stopping 1).gen.machine = .stopping ∧ 0 < (sensed false .stopping 1).minRest) ∧
      (sensed false .failed 1).gen.machine = .failed := by decide +kernel

def keyInput : State :=
  (withSetting 7 24 1 (withSetting 7 0 2 base)).onMeas fun m =>
    { m with inputs := m.inputs.set 0 { level := true, active := false, timer := some 9 } }

/-- Input 0 of function `f` about to change from `was`, with a run in `m`, the causes of which are mains failed. -/
def edgeOf (f : Nat) (was : Bool) (m : GenState) : State :=
  let s := inState m (someRun .remote) 10 (withSetting 7 0 f base)
  (s.onGen fun g => { g with mainsFailTimer := some 1800, restCount := 600 }).onMeas fun x =>
    { x with inputs := x.inputs.set 0 { level := !was, active := was, timer := some 9 } }

/-- The function states once the edge has been taken. -/
def afterEdge (s : State) : State :=
  s.onMeas fun m => { m with inputs := m.inputs.modify 0 fun x => { x with active := s.sense 0, timer := none } }

theorem witness_SiteInputEdges :
    (base.powered = true ∧ (base.input 0).timer = none) ∧ keyInput.alarm.records.length = 40 ∧
      (keyInput.input 0).timer.isSome = true ∧
      edgeEnabled keyInput 0 (keyInput.sense 0) = true ∧ keyInput.alarm.notices.length < 32 ∧ keyInput.now 7 0 = 2 ∧
      keyInput.key = false ∧ keyInput.sense 0 = true ∧ keyInput.sup.hold = none ∧
      ((edgeOf 2 true .idle).functionActive 2 = true ∧ (afterEdge (edgeOf 2 true .idle)).functionActive 2 = false) ∧
      ((edgeOf 3 false .warmup).functionActive 3 = false ∧
        (afterEdge (edgeOf 3 false .warmup)).functionActive 3 = true ∧ (edgeOf 3 false .online).gen.machine = .online ∧
        0 < (edgeOf 3 false .online).inForce 3 18 ∧ (edgeOf 3 false .cooldown).gen.machine = .cooldown ∧
        base.meas.genPresent = false) ∧
      ((edgeOf 3 true .idle).functionActive 3 = true ∧ (afterEdge (edgeOf 3 true .idle)).functionActive 3 = false ∧
        gatesOpen (afterEdge (edgeOf 3 true .idle)) = true ∧
        firstCause (afterEdge (edgeOf 3 true .idle)) = some .mainsFail ∧
        gatesOpen (afterEdge (edgeOf 3 true .failed)) = false) ∧
      ((afterEdge (edgeOf 5 false .warmup)).functionActive 5 = true ∧ (edgeOf 5 false .warmup).gen.stateCount = 10 ∧
        (afterEdge (edgeOf 6 false .online)).functionActive 6 = true ∧
        (edgeOf 6 false .priming).gen.machine = .priming) ∧
      ((afterEdge (edgeOf 7 false .idle)).functionActive 7 = true ∧
        (afterEdge (edgeOf 7 true .idle)).functionActive 7 = false) := by decide +kernel

theorem witness_HoldsBeginAndEnd :
    base.powered = true ∧ base.alarm.records.length = 40 ∧ (held base).sup.hold.isSome = true ∧
      base.sup.hold = none ∧ (hearing base).hears = true ∧ (hearing (held base)).sup.hold.isSome = true := by decide

theorem witness_OpenedGatesAndCausesAreEvaluated :
    let waiting := base.onGen fun g =>
      { g with mainsFailTimer := some 1799, busCount := 59, restCount := 599, stopHold := some 1 }
    waiting.powered = true ∧ waiting.inForce 3 2 * 60 ≤ 1799 + 1 ∧
      (base.onGen fun g => { g with mainsFailTimer := none }).gen.mainsFailTimer = none ∧
      waiting.inForce 3 8 ≤ waiting.gen.busCount + 1 ∧ waiting.inForce 3 20 * 60 ≤ waiting.gen.restCount + 1 ∧
      waiting.gen.stopHold = some 1 ∧ base.gen.stopHold = none := by decide +kernel

def counted (st : Stage) : State :=
  inStage st (base.onCharge fun c => { c with absorbCount := 59, tailCount := 599, absorbTimer := 28799 })

/-- At a measurement event in a stage, the bus and the temperature as given, no test in flight. -/
def charging (st : Stage) (bus : Nat) (temp : Int) : State :=
  warmed temp (onMains ((counted st).onMeas fun m => { m with bus := bus }))

def latched (s : State) : State := s.onCharge fun c => { c with latch := true }

/-- Both strings SYNC and full. -/
def full (s : State) : State :=
  s.onAcct fun a => { a with strings := a.strings.map (·.map fun r => { r with sync := .sync, account := 60000 }) }

theorem witness_StageCountsMoveTheStage :
    (base.powered = true ∧ (counted .bulk).charge.stage = .bulk ∧ 60 ≤ (counted .bulk).charge.absorbCount + 1) ∧
      (counted .absorb).charge.stage ≠ .bulk ∧
      ((counted .absorb).charge.stage = .absorb ∧
        (counted .absorb).inForce 1 14 * 3600 ≤ (counted .absorb).charge.absorbTimer + 1 ∧
        600 ≤ (counted .absorb).charge.tailCount + 1 ∧ ((counted .absorb).stringChannel 0).validity = .valid ∧
        (counted .absorb).acct.taken = true) ∧
      base.charge.stage ≠ .absorb ∧ base.alarm.records.length = 40 ∧
      (thermistorAssigned (charging .bulk 5700 250) 0 = true ∧
        ((charging .bulk 5700 250).therm 0).validity = .valid ∧ ∀ i, i < 4 → ((thermHeld 1).therm i).validity = .valid ∨
          ((thermHeld 1).therm i).validity = .held ∨ thermistorAssigned (thermHeld 1) i = false) ∧
      ((charging .bulk 5700 250).charge.test = none ∧
        absorbLevel ((charging .bulk 5700 250).onCharge fun c => { c with tc := 250 }) ≤ 5700 ∧
        (chargeEvent (charging .bulk 5700 250)).charge.tb < (500 : Int)) ∧
      ((charging .bulk 5000 500).inForce 1 7 = 500 ∧ (chargeEvent (charging .bulk 5000 500)).charge.tb = 500 ∧
        ¬ absorbLevel ((charging .bulk 5000 250).onCharge fun c => { c with tc := 250 }) ≤ 5000) ∧
      (tailTest ((charging .absorb 5700 250).onCharge fun c => { c with tc := 250 }) = true ∧
        tailTest ((charging .absorb 5000 250).onCharge fun c => { c with tc := 250 }) = false ∧
        (charging .absorb 5700 250).inForce 1 14 * 3600 ≤ 28799 + 1 ∧
        28800 < (withSetting 1 14 9 (charging .absorb 5000 250)).inForce 1 14 * 3600) ∧
      ((latched (charging .float 5400 450)).charge.latch = true ∧
        (chargeEvent (latched (charging .float 5400 450))).charge.tb = 450 ∧
        returnTest (charging .float 5400 450) = true) ∧
      (rebulkTest (full (charging .float 5400 300)) = false ∧
        returnTest (full (charging .float 5400 300)) = false) := by decide +kernel

theorem witness_SetpointFollowsItsSteps : Stage.float ≠ .test := by decide

def equalizing (e : EqState) (left : Nat) (st : Stage) : State :=
  inStage st (base.onCharge fun c => { c with eq := { c.eq with state := e, remaining := left, duration := 480 } })

theorem witness_EqualizeIsAskedStoppedAndCompleted :
    (hearing base).hears = true ∧ base.powered = true ∧ base.charge.eq.state = .none ∧ (equalizing .pending 0 .float).charge.eq.state = .pending ∧
      (equalizing .suspended 60 .float).charge.eq.state = .suspended ∧
      ((equalizing .running 1 .equalize).charge.eq.state = .running ∧
        (equalizing .running 1 .equalize).charge.stage = .equalize ∧
        (equalizing .running 1 .equalize).charge.eq.remaining ≤ 1) ∧
      base.charge.stage ≠ .equalize ∧
      (let s := full (onMains (warmed 300 (equalizing .pending 0 .float)));
        s.charge.test = none ∧ s.charge.stage = .float ∧ s.store.fresh = [] ∧ s.sup.mode = .mains ∧
          s.sup.hold = none ∧ returnTest s = false ∧ (chargeEvent s).charge.tb = 300 ∧
          (300 : Int) < s.inForce 1 9 ∧ (held s).sup.hold ≠ none) ∧
      ((equalizing .suspended 60 .float).charge.stage = .float) ∧
      (let s := onMains (warmed 420 (equalizing .running 2 .equalize));
        s.charge.test = none ∧ s.charge.stage = .equalize ∧ s.charge.eq.state = .running ∧ 1 < s.charge.eq.remaining ∧
          (s.inForce 1 9 : Int) ≤ (chargeEvent s).charge.tb) ∧
      ((equalizing .none 0 .bulk).charge.stage = .bulk ∧ (equalizing .none 0 .bulk).charge.test = none) := by
  decide +kernel

/-- In FLOAT on mains with both strings SYNC. -/
def ready : State :=
  onMains ((inStage .float base).onAcct fun a => { a with strings := a.strings.map (·.map fun r => { r with sync := .sync }) })

def testing : State :=
  inStage .test (base.onCharge fun c => { c with test := some { target := 40, acceptedAt := 0, elapsed := 120 } })

/-- A test in flight at an event that the account unit has yet to take. -/
def unintegrated : State := testing.onAcct fun a => { a with taken := false }

theorem witness_CapacityTestBeginsAndAborts :
    (ready.powered = true ∧ ready.alarm.records.length = 40 ∧ (hearing ready).hears = true) ∧
      (¬ ((9#8).toNat = 0 ∨ 10 ≤ (9#8).toNat ∧ (9#8).toNat ≤ 80)) ∧
      (10 ≤ (80#8).toNat ∧ (80#8).toNat ≤ 80 ∧ ¬ base.charge.stage = .float) ∧
      ((0#8).toNat = 0 ∧ ready.charge.stage = .float ∧ ready.sup.mode = .mains ∧
        (ready.fittedStrings.all fun r => r.sync == .sync) = true ∧ ready.charge.eq.state ≠ .running ∧
        ready.charge.eq.state ≠ .suspended) ∧
      (testing.charge.test.isSome = true ∧ testing.charge.stage = .test) ∧ base.charge.test = none ∧
      (let drained := fun d : Nat =>
          (full testing).onAcct fun a => { a with strings := a.strings.map (·.map fun r => { r with delivered := some d }) };
        let reached := fun s : State => s.fittedStrings.all fun r => r.delivered.any fun d => decide (r.capacity * 40 ≤ d);
        testing.acct.taken = true ∧ reached (drained 24000) = true ∧ reached (drained 23999) = false ∧
          testing.meas.bus ≤ testing.cells * testing.inForce 1 4 / 10 ∧
          ¬ 5400 ≤ testing.cells * testing.inForce 1 4 / 10 ∧
          (testing.fittedStrings.any fun r => r.sync == .unsync) = true ∧
          ((full testing).fittedStrings.all fun r => r.sync == .sync) = true) ∧
      (unintegrated.charge.test.isSome = true ∧ unintegrated.acct.taken = false ∧
        (accountIntegrate unintegrated).stringRec 0 ≠ none) ∧
      (let down := fun d : Nat => (full unintegrated).onAcct fun a =>
          { a with strings := a.strings.map (·.map fun r => { r with baseline := some (60000 + d) }) };
        let reached := fun s : State =>
          (accountIntegrate s).fittedStrings.all fun r => r.delivered.any fun d => decide (r.capacity * 40 ≤ d);
        reached (down 24000) = true ∧ reached (down 23999) = false) := by
  decide +kernel

/-- R36, R39: a third string fitted in the test counts 0 at the event that fits it. -/
theorem test_newly_fitted_string_counts_0 :
    ((accountIntegrate (withSetting 0 9 3 unintegrated)).stringRec 2).map StringRec.delivered = some (some 0) := by
  decide +kernel

def shedding : State := base.onProt fun p => { p with shedCount := 59, disconnectCount := 29, dischargeCount := 59 }

/-- Shed and disconnected, with mains back. -/
def opened : State :=
  inMode .protect true ((onMains base).onProt fun p =>
    { p with nel := .opened, shedCause := some .voltage, nelCount := 29, bpd := .opened, bpdCount := 59 })

theorem witness_NelOpensAndClosesOnItsCounts :
    (shedding.powered = true ∧ shedding.alarm.records.length = 40 ∧ shedding.sup.mode = .battery ∧
        shedding.prot.nel = .closed ∧ shedding.inForce 2 5 ≤ shedding.prot.shedCount + 1) ∧
      opened.sup.mode ≠ .battery ∧
      (opened.prot.nel = .opened ∧ opened.sup.ac = true ∧ opened.inForce 2 8 ≤ opened.prot.nelCount + 1) ∧
      shedding.prot.nel = .closed ∧
      ((onMains shedding).sup.ac = true ∧ (onMains shedding).charge.stage ≠ .test ∧
        60 ≤ (onMains shedding).prot.dischargeCount + 1) ∧ base.sup.ac = false ∧
      (shedding.meas.bus ≤ shedding.cells * shedding.inForce 2 4 / 10 ∧ shedding.inForce 2 5 ≤ 59 + 1) ∧
      (let high := shedding.onMeas fun m => { m with bus := 5400 };
        ¬ high.meas.bus ≤ high.cells * high.inForce 2 4 / 10 ∧ shedSocTest high = false ∧
          (protectionEvent high).prot.bpd = high.prot.bpd) ∧
      (let back := opened.onMeas fun m => { m with bus := 5400 };
        back.cells * back.inForce 2 7 / 10 ≤ back.meas.bus ∧ back.inForce 2 8 ≤ 29 + 1 ∧ 0 < opened.inForce 2 8 ∧
          ¬ opened.cells * opened.inForce 2 7 / 10 ≤ opened.meas.bus) ∧
      (inMode .battery false opened).sup.ac = false := by decide +kernel

theorem witness_BpdMakesAndEndsProtect :
    (shedding.powered = true ∧ shedding.alarm.records.length = 40 ∧ shedding.sup.mode = .battery ∧
        shedding.prot.bpd = .closed ∧ shedding.inForce 2 1 ≤ shedding.prot.disconnectCount + 1) ∧
      opened.sup.mode ≠ .battery ∧
      (opened.prot.bpd = .opened ∧ opened.sup.ac = true ∧ opened.inForce 2 3 ≤ opened.prot.bpdCount + 1) ∧
      opened.ModeDerived ∧ base.prot.bpd = .closed ∧ shedding.ModeDerived ∧ (onMains base).ModeDerived ∧
      (shedding.meas.bus ≤ shedding.cells * shedding.inForce 2 0 / 10 ∧ shedding.inForce 2 1 ≤ 29 + 1 ∧
        ¬ 5400 ≤ shedding.cells * shedding.inForce 2 0 / 10) ∧
      (let s := (mixed.onProt fun p => { p with bpd := .opened, bpdCount := 59 }).onMeas fun m => { m with bus := 5400 };
        s.sup.ac = true ∧ min (s.inForce 4 3) (s.inForce 0 15) ≤ 2 ∧ s.cells * s.inForce 2 2 / 10 ≤ s.meas.bus ∧
          0 < s.inForce 2 3 ∧ s.inForce 2 3 ≤ 59 + 1) :=
  ⟨by decide +kernel, by decide, by decide +kernel, ⟨by decide +kernel, by decide +kernel⟩, by decide,
    ⟨by decide +kernel, by decide +kernel⟩, ⟨by decide +kernel, by decide +kernel⟩, by decide +kernel,
    by decide +kernel⟩

theorem witness_SlotsLeaveAndReturn :
    (mixed.powered = true ∧ mixed.alarm.records.length = 40 ∧ (hearing mixed).hears = true) ∧ mixed.RosterPlaced ∧
      ((mixed.slot 2).state = .starting ∧ mixed.inForce 4 9 ≤ (mixed.slot 2).startCount + 1) ∧
      (mixed.slot 11).state ≠ .starting ∧
      ((mixed.slot 4).data.any fun d => !countingFault mixed d) = true ∧
      ((mixed.slot 4).state = .fault ∧ mixed.inForce 4 10 ≤ (mixed.slot 4).recovery + 1) ∧
      (mixed.slot 0).state ≠ .fault ∧ mixed.rect.fitted ≤ (6#8).toNat ∧ 11 < (12#8).toNat ∧
      ((5#8).toNat < mixed.rect.fitted ∧ (5#8).toNat ≤ 11 ∧ (mixed.slot (5#8).toNat).state = .lockout) ∧
      (mixed.slot (0#8).toNat).state ≠ .lockout :=
  ⟨by decide, mixed_placed, by decide +kernel, by decide +kernel, by decide +kernel, by decide +kernel,
    by decide +kernel, by decide, by decide, by decide +kernel, by decide +kernel⟩

theorem witness_RotationsBeginAndEnd :
    (rotating.powered = true ∧ rotating.alarm.records.length = 40 ∧ (hearing rotating).hears = true) ∧
      rotating.RosterPlaced ∧
      (rotating.sup.ac = true ∧ rotating.inForce 4 6 ≠ 0 ∧ rotating.inForce 4 6 * 3600 ≤ rotating.rect.rotation + 1) ∧
      base.sup.ac = false ∧ swapPair (onMains base) = none ∧ swapPair mixed = some (3, 0) ∧ mixed.sup.hold = none ∧
      ((held mixed).sup.hold ≠ none ∧ swapPair (held mixed) = some (3, 0)) ∧
      ((swapping 2).rect.swap.map (fun w => (w.phase, w.overlap)) = some (.overlap, 29) ∧
        (swapping 2).inForce 4 8 ≤ 29 + 1 ∧ (swapping 2).alarm.notices.length < 30 ∧ 0 ∈ (swapping 2).rect.running ∧ (swapping 2).nUp < (swapping 2).rect.running.length) ∧
      (swapping 2).RosterPlaced ∧ (swapping 3).rect.running.length ≤ (swapping 3).nUp ∧
      base.rect.swap = none :=
  ⟨by decide, placed_roster _ (by decide +kernel), by decide +kernel, by decide, by decide +kernel,
    by decide +kernel, by decide, by decide +kernel, by decide +kernel, placed_roster _ (by decide +kernel),
    by decide +kernel, by decide⟩

def inPhase (p : Phase) (bytes : List LineByte) (s : State) : State :=
  onExchange (fun e => { e with phase := p, bytes := bytes }) s

theorem witness_BusPhasesFollowTheBytes :
    let b : LineByte := { value := 0xC0, goodStop := true }
    base.powered = true ∧ base.bus.exchange.phase = .sending ∧ (inPhase .window [] base).bus.exchange.phase = .window ∧
      (inPhase .receiving [b] base).bus.exchange.phase = .receiving ∧
      (inPhase .turnaround [] base).bus.exchange.phase = .turnaround ∧
      exec (.moduleReplyByte b) base = .next (after (.moduleReplyByte b) base) ∧
      (List.replicate 12 b).length = 12 := ⟨rfl, rfl, rfl, rfl, rfl, rfl, rfl⟩

/-- The bytes of a good reply to the exchange of a state, with a flags byte. -/
def reply (flags : Nat) (s : State) : List LineByte :=
  let e := s.bus.exchange
  (withCheck ([moduleAddress e.slot, e.tag] ++ field 2 120 ++ field 1 40 ++ field 1 flags ++ field 2 e.setpoint ++
    field 2 e.limit)).map fun v => { value := v, goodStop := true }

/-- The exchange addresses slot `n`, whose link stands as `l`, and its reply has those flags, or is absent. -/
def answered (n : Nat) (l : LinkRec) (flags : Option Nat) : State :=
  let s := onExchange (fun e => { e with slot := n, phase := .turnaround }) mixed
  let s := setLink n l s
  match flags with
  | some f => inPhase .turnaround (reply f s) s
  | none => s

def heardLink : LinkRec := { state := .heard, misses := 2, goods := 0, repeated := false }

theorem witness_TurnaroundCountsTheReply :
    (base.powered = true ∧ base.bus.exchange.phase ≠ .turnaround) ∧
      (let s := answered 2 heardLink (some 1);
        s.powered = true ∧ s.bus.exchange.phase = .turnaround ∧ s.bus.exchange.orphan = false ∧
          s.bus.exchange.good = true) ∧
      (answered 2 heardLink none).bus.exchange.good = false ∧
      (onExchange (fun e => { e with orphan := true }) (answered 2 heardLink none)).bus.exchange.orphan = true ∧
      (let fewer := withSetting 0 15 4 base;
        fewer.alarm.records.length = 40 ∧ fewer.inForce 0 15 ≤ 4 ∧ ¬ fewer.inForce 0 15 ≤ 3 ∧ 5 < fewer.bus.fitted ∧
          (busEvent fewer).linkRec 5 = none) ∧
      (let more := withSetting 0 15 7 base; ¬ more.inForce 0 15 ≤ 6 ∧ ¬ 6 < more.bus.fitted) := by
  decide +kernel

theorem witness_RepliesMoveTheirSlot :
    (let s := answered 2 heardLink (some 1);
      s.powered = true ∧ s.bus.exchange.phase = .turnaround ∧ s.bus.exchange.orphan = false ∧
        s.linkRec s.bus.exchange.slot = some heardLink ∧ s.bus.exchange.good = true ∧
        s.bus.exchange.notReady = false ∧ s.bus.exchange.slot < s.rect.fitted ∧
        (s.slot s.bus.exchange.slot).state ≠ .absent) ∧
      (answered 2 heardLink (some 1)).RosterPlaced ∧
      (let s := answered 2 heardLink (some 64);
        s.bus.exchange.good = true ∧ s.bus.exchange.notReady = true) ∧
      (let l : LinkRec := { state := .lost, misses := 3, goods := 1, repeated := false };
        let s := answered 5 l (some 0);
        s.bus.exchange.good = true ∧ l.state ≠ .heard ∧ 1 ≤ l.goods ∧ s.linkRec 5 = some l) ∧
      ((answered 5 unheardLink (some 0)).bus.exchange.good = true ∧ unheardLink.goods = 0) ∧
      ((answered 2 heardLink none).bus.exchange.good = false ∧ heardLink.state ≠ .lost ∧ 2 ≤ heardLink.misses) ∧
      unheardLink.misses < 2 :=
  ⟨by decide +kernel, placed_roster _ (by decide +kernel), by decide +kernel, by decide +kernel, by decide +kernel,
    by decide +kernel, by decide⟩

theorem witness_CrankSequence :
    let r := someRun .mainsFail
    let prime := inState .priming r 4 base
    let rest := inState .crankRest r 9 base
    let crank := fun n => inState .cranking { r with attempts := n } 7 base
    (prime.powered = true ∧ prime.alarm.records.length = 40 ∧ prime.gen.run = some r ∧ prime.gen.machine = .priming ∧
        prime.inForce 3 11 ≤ prime.gen.stateCount + 1) ∧
      rest.gen.machine ≠ .priming ∧
      (rest.gen.machine = .crankRest ∧ rest.inForce 3 13 ≤ rest.gen.stateCount + 1) ∧ prime.gen.machine ≠ .crankRest ∧
      ((crank 2).gen.machine = .cranking ∧ (crank 2).inForce 3 12 ≤ (crank 2).gen.stateCount + 1 ∧
        (crank 2).meas.genPresent = false ∧ 2 < (crank 2).inForce 3 14 ∧ ¬ 3 < (crank 3).inForce 3 14) ∧
      ((crank 2).onMeas fun m => { m with genPresent := true }).meas.genPresent = true ∧
      (let marked := { r with exMark := true, attempts := 3 };
        let owed := (inState .cranking marked 7 base).onCal fun c => { c with exState := .waiting, exWindow := 0 };
        marked.warmupEnd = none ∧ marked.exMark = true ∧ owed.gen.run = some marked ∧ owed.cal.exState = .waiting ∧
          owed.cal.exWindow = 0 ∧ base.cal.exState ≠ .waiting ∧ r.exMark = false) := by decide +kernel

theorem witness_WarmupEndsByTheBasis :
    let r := someRun .mainsFail
    let arming := inState .warmup r 9 base
    let ending := inState .warmup r 29 mixed
    let oil := fun s : State => (withSetting 7 0 5 s).onMeas fun m =>
      { m with inputs := m.inputs.set 0 { level := true, active := true, timer := none } }
    ((arming.powered = true ∧ arming.gen.run = some r ∧ arming.gen.machine = .warmup ∧
        10 ≤ arming.gen.stateCount + 1 ∧ arming.engineFaultInput = false ∧ (oil arming).engineFaultInput = true) ∧
      base.gen.machine ≠ .warmup ∧
      (ending.inForce 3 15 ≤ ending.gen.stateCount + 1 ∧ (oil ending).engineFaultInput = true ∧
        10 ≤ max (ending.inForce 3 15) ending.gen.stateCount ∧ ending.engineFaultInput = false)) ∧
      placed ending = true ∧ (after .warmupEnd ending).gen.machine = .online ∧
      (let marked := { someRun .exercise with exMark := true };
        let owed := (inState .warmup marked 29 mixed).onCal fun c => { c with exState := .waiting, exWindow := 1 };
        owed.gen.run = some marked ∧ marked.exMark = true ∧ owed.cal.exState ≠ .none ∧ ending.cal.exState = .none ∧
          r.exMark = false ∧ owed.alarm.records.length = 40 ∧
          (after .warmupEnd owed).cal.last.map LastExercise.outcome = some .served) := by decide +kernel

theorem witness_RunsAreStopped :
    let long := { someRun .mainsFail with runTime := 43199 }
    let exercise := { someRun .exercise with runTime := 899, duration := some 15 }
    let manual := { someRun .manual with duration := some 600, durCount := some 35999 }
    let s := inState .online long 5 base
    let ripe := inState .online { someRun .mainsFail with runTime := 1800 } 5 (onMains base)
    (s.powered = true ∧ s.gen.run = some long ∧ s.gen.machine = .online ∧
        s.inForce 3 17 * 3600 ≤ long.runTime + 1 ∧ 0 < s.inForce 3 18 ∧ (withSetting 3 18 0 s).inForce 3 18 = 0) ∧
      (exercise.duration.any fun d => decide (d * 60 ≤ exercise.runTime + 1)) = true ∧
      (manual.duration.any fun d => manual.durCount.any fun n => decide (d * 60 ≤ n + 1)) = true ∧
      (inState .offload exercise 5 base).gen.machine = .offload ∧ exercise.basis = .exercise ∧ manual.basis = .manual ∧
      (base.gen.machine = .idle ∧ base.gen.run = none ∧ (hearing base).hears = true) ∧
      (withSetting 3 0 0 base).inForce 3 0 ≠ 1 ∧ base.inForce 3 0 = 1 ∧
      (inState .priming long 0 base).gen.machine = .priming ∧ (inState .cooldown long 0 base).gen.machine = .cooldown ∧
      (s.engineFaultInput = false ∧ ¬ s.inForce 3 17 * 3600 ≤ long.runTime) ∧
      (ripe.meas.mainsQualified = true ∧ ripe.inForce 3 16 * 60 ≤ 1800) ∧
      (s.gen.fuelEmpty = false ∧ s.meas.fuel ≤ s.inForce 3 24 ∧ s.gen.failReason = none ∧ 0 < s.inForce 3 19 ∧
        s.alarm.records.length = 40) := by
  decide +kernel

/-- A tank that is not empty, the generator not fitted by a write that the event takes, and an oil-pressure input. -/
def fuelled (s : State) : State := s.onMeas fun m => { m with fuel := 80 }
def unfitted (s : State) : State := (withSetting 3 0 0 (fuelled s)).onStore fun x => { x with fresh := [3] }
def oily (s : State) : State :=
  (withSetting 7 0 5 (fuelled s)).onMeas fun m =>
    { m with inputs := m.inputs.set 0 { level := true, active := true, timer := none } }

theorem witness_RunsAreStopped_event :
    let r := someRun .mainsFail
    let due := fun m n => fuelled (inState m r n base)
    let failed := fuelled (base.onGen fun g => { g with
      machine := .failed, failReason := some .startFail, rearmMinutes := 239, rearmSeconds := 59 })
    (¬ (fuelled base).meas.fuel ≤ base.inForce 3 24 ∧ (fuelled base).gen.machine = .idle) ∧
      (3 ∈ (unfitted base).store.fresh ∧ (unfitted base).inForce 3 0 = 0 ∧ 3 ∉ base.store.fresh) ∧
      ((unfitted (inState .online r 5 base)).gen.machine = .online ∧
        (genEvent (unfitted (inState .online r 5 base))).gen.run.map Run.stopReason = some (some .notFitted)) ∧
      ((unfitted (inState .priming r 0 base)).gen.machine = .priming ∧ (unfitted failed).gen.machine = .failed) ∧
      (failed.inForce 3 22 ≠ 0 ∧ failed.inForce 3 22 ≤ 239 + 1 ∧ ¬ failed.inForce 3 22 ≤ 239) ∧
      ((due .priming 4).inForce 3 11 ≤ 4 + 1 ∧ (due .cranking 7).inForce 3 12 ≤ 7 + 1 ∧
        (due .crankRest 9).inForce 3 13 ≤ 9 + 1 ∧ (due .warmup 29).inForce 3 15 ≤ 29 + 1 ∧
        (due .cooldown 179).inForce 3 18 ≤ 179 + 1 ∧ (due .stopping 29).inForce 3 19 ≤ 29 + 1) ∧
      (due .priming 4).engineFaultInput = false ∧ (due .priming 4).gen.run ≠ none ∧
      (oily (inState .warmup r 9 base)).engineFaultInput = true ∧ 10 ≤ 9 + 1 := by decide +kernel

theorem witness_CooldownStoppingAndFailedEnd :
    let r := { someRun .mainsFail with stopReason := some .mainsReturn }
    let cool := inState .cooldown r 179 base
    let stopping := (inState .stopping r 29 base).onMeas fun m => { m with genPresent := true }
    let failed := base.onGen fun g => { g with
      machine := .failed, failReason := some .startFail, rearmMinutes := 239, rearmSeconds := 59 }
    (cool.powered = true ∧ cool.alarm.records.length = 40 ∧ cool.gen.machine = .cooldown ∧ cool.gen.run = some r ∧
        cool.inForce 3 18 ≤ cool.gen.stateCount + 1) ∧
      base.gen.machine ≠ .cooldown ∧
      (stopping.gen.machine = .stopping ∧ stopping.inForce 3 19 ≤ stopping.gen.stateCount + 1 ∧
        stopping.meas.genPresent = true ∧ base.gen.machine ≠ .stopping) ∧
      (failed.gen.machine = .failed ∧ failed.inForce 3 22 ≠ 0 ∧
        failed.inForce 3 22 * 60 ≤ failed.gen.rearmMinutes * 60 + failed.gen.rearmSeconds + 1 ∧
        failed.gen.restCount < failed.inForce 3 20 * 60) ∧ base.gen.machine ≠ .failed := by decide +kernel

theorem witness_GenStartBeginsOrConverts :
    (base.powered = true ∧ (hearing base).hears = true ∧ (0#16).toNat = 0) ∧ 1 < (2#8).toNat ∧
      (¬ ((600#16).toNat = 0 ∨ 1 < (1#8).toNat) ∧ (inState .stopping (someRun .remote) 0 base).gen.machine = .stopping) ∧
      (¬ (base.inForce 3 0 ≠ 1 ∨ base.functionActive 3 = true ∨ base.gen.fuelEmpty = true ∨
        base.gen.machine = .cooldown ∨ base.gen.machine = .stopping) ∧ base.gen.machine = .idle) ∧
      (base.onGen fun g => { g with machine := .failed }).gen.machine = .failed ∧
      ((inState .offload (someRun .exercise) 5 base).gen.machine ≠ .idle ∧
        (inState .offload (someRun .exercise) 5 base).gen.run = some (someRun .exercise)) := by decide +kernel

theorem witness_MonthsHaveTheirDays :
    2000 ≤ 2099 ∧ 4 ∣ 2000 ∧ ¬ 4 ∣ 2099 ∧ (4 ∈ [4, 6, 9, 11]) ∧ 12 ∈ [1, 3, 5, 7, 8, 10, 12] := by decide

/-- The last second of a date, its weekday that of the date. -/
def lastSecond (y m d : Nat) : State :=
  base.onCal fun c => { c with
    year := y, month := m, day := d, hour := 23, minute := 59, second := 59, weekday := weekdayOf y m d, valid := true }

/-- The second before a due moment on TUESDAY 2024-02-27 at 10:00, with the exercise enabled for every day. -/
def beforeDue : State :=
  (withSetting 3 27 1 (withSetting 3 28 7 (withSetting 3 29 10 (withSetting 3 30 0 base)))).onCal fun c => { c with
    year := 2024, month := 2, day := 27, hour := 9, minute := 59, second := 59, weekday := 1, valid := true }

theorem witness_TicksAdvanceTheTime_due :
    let running := inState .offload (someRun .remote) 5 beforeDue
    let closing := beforeDue.onCal fun c => { c with exState := .waiting, exWindow := 1 }
    let again := running.onCal fun c => { c with exState := .waiting, exWindow := 7, handAgain := true }
    ((after .calendarTick beforeDue).cal.exState = .waiting ∧ (after .calendarTick beforeDue).cal.exWindow =
        3600 * base.now 3 32 ∧ beforeDue.gen.machine = .idle ∧ beforeDue.cal.exState = .none) ∧
      ((after .calendarTick running).cal.last.map LastExercise.outcome = some .counted ∧ running.gen.machine ≠ .idle ∧
        running.gen.machine ≠ .failed) ∧
      (closing.cal.exState ≠ .none ∧ closing.cal.exWindow ≤ 1 ∧ closing.cal.runMark = false ∧
        (after .calendarTick closing).cal.missed = true) ∧
      (again.cal.handAgain = true ∧ again.cal.exState ≠ .none ∧ again.cal.handAgain = true ∧
        (calendarEvent again).cal.last.map LastExercise.outcome = some .counted) := by decide +kernel

theorem witness_TicksAdvanceTheTime_day :
    let counted := fun n st => (withSetting 1 15 90 (lastSecond 2024 2 28)).onCharge fun c =>
      { c with eq := { c.eq with state := st, dayCount := n, daysWaiting := 14 } }
    ((counted 89 .none).inForce 1 15 ≠ 0 ∧ (counted 89 .none).inForce 1 15 ≤ min 65535 (89 + 1) ∧
        ¬ (counted 88 .none).inForce 1 15 ≤ min 65535 (88 + 1)) ∧
      ((after .calendarTick (counted 89 .none)).charge.eq.state = .pending ∧
        ((after .calendarTick (counted 0 .suspended)).record 14).cond = true) := by decide +kernel

theorem witness_TicksAdvanceTheTime :
    (lastSecond 2099 12 31).CalendarLegal ∧ (lastSecond 2024 2 28).CalendarLegal ∧ base.CalendarLegal ∧
      beforeDue.CalendarLegal ∧
      (base.powered = true ∧ ({ base with powered := false } : State).powered = false ∧ base.markerGood = true ∧
        ({ base with powered := false, markerGood := false } : State).markerGood = false) :=
  ⟨by simp only [State.CalendarLegal]; decide +kernel, by simp only [State.CalendarLegal]; decide +kernel,
    by simp only [State.CalendarLegal]; decide +kernel, by simp only [State.CalendarLegal]; decide +kernel, by decide⟩

theorem witness_TheWindowCloses :
    let waiting := fun mark : Bool => base.onCal fun c => { c with exState := .waiting, exWindow := 1, runMark := mark }
    (waiting true).powered = true ∧ (waiting true).alarm.records.length = 40 ∧ (waiting true).cal.exState ≠ .none ∧
      (waiting true).cal.exWindow ≤ 1 ∧ (waiting true).cal.runMark = true ∧ (waiting false).cal.runMark = false ∧
      base.cal.exState = .none := by decide

theorem witness_ClockIsSetAndAligned :
    (base.powered = true ∧ base.alarm.records.length = 40 ∧ (hearing base).hears = true) ∧
      (29#8).toNat ≤ daysInMonth (2024#16).toNat (2#8).toNat ∧ ¬ (29#8).toNat ≤ daysInMonth (2023#16).toNat (2#8).toNat ∧
      base.cal.valid = false ∧ (lastSecond 2024 2 28).cal.valid = true ∧
      ((lastSecond 2024 2 28).onCal fun c => { c with second := 29 }).cal.second ≤ 29 ∧
      ((lastSecond 2024 2 28).onCal fun c => { c with second := 30 }).CalendarLegal ∧
      (lastSecond 2099 12 31).CalendarLegal ∧ 30 ≤ (lastSecond 2099 12 31).cal.second ∧ base.cal.exState = .none ∧
      ((lastSecond 2024 2 28).onCal fun c => { c with exState := .waiting }).cal.exState ≠ .none :=
  ⟨by decide, by decide, by decide, by decide, by decide, by decide, by simp only [State.CalendarLegal]; decide +kernel,
    by simp only [State.CalendarLegal]; decide +kernel, by decide, by decide, by decide⟩

/-- The table evaluated, with one record as given. -/
def withRecord (c : Nat) (r : AlarmRec) : State :=
  base.onAlarm fun a => { a with evaluated := true, records := a.records.set c r }

theorem witness_RecordsAreRaisedAndCleared :
    let raising := withRecord 1 { blankAlarm true with qual := 4 }
    let clearing := withRecord 1 { blankAlarm false with state := .activeNew, qual := 4 }
    (base.powered = true ∧ base.alarm.records.length = 40 ∧ base.alarm.evaluated = false) ∧
      (raising.alarm.evaluated = true ∧ (raising.record 1).state = .idle ∧ (raising.record 1).cond = true ∧
        raising.inForce 5 (4 * 1 + 2) ≤ (raising.record 1).qual + 1) ∧
      ((clearing.record 1).state = .activeNew ∧ (clearing.record 1).cond = false ∧
        clearing.inForce 5 (4 * 1 + 3) ≤ (clearing.record 1).qual + 1) ∧
      (raising.record 39).cond = false ∧ raising.alarm.notices.length ≤ 32 ∧
      (let lit := fun t : State => t.alarm.records.any fun r => r.state == .activeNew || r.state == .goneUnseen
       let stays := (withRecord 0 { blankAlarm true with state := .activeNew }).onAlarm fun a => { a with lampLit := false };
       (lit raising, lit (alarmEvent raising), lit stays, lit (alarmEvent stays)) = (false, true, true, true)) := by
  decide +kernel

/-- R178: a record raised while none is unseen begins the flashing with a lit half, one raised while another is unseen
leaves the phase. -/
theorem test_flashing_begins_lit_and_keeps_its_phase :
    let due := (withRecord 1 { blankAlarm true with qual := 4 }).onAlarm fun a => { a with lampLit := false }
    let other := due.onAlarm fun a => { a with records := a.records.set 0 { blankAlarm true with state := .activeNew } }
    ((after (.qualificationCountExpiry 1) due).alarm.lampLit,
      (after (.qualificationCountExpiry 1) other).alarm.lampLit) = (true, false) := by decide +kernel

theorem witness_AcknowledgementAndReset :
    let s := withRecord 3 { blankAlarm true with state := .activeNew }
    let u := withRecord 3 { blankAlarm false with state := .goneUnseen }
    let settled := fun s : State => ∀ c, c < 40 →
      ((s.record c).state = .activeNew → (s.record c).cond = true ∨ 0 < s.inForce 5 (4 * c + 3)) ∧
        ((s.record c).state = .goneUnseen → (s.record c).cond = false ∨ 0 < s.inForce 5 (4 * c + 2))
    (s.powered = true ∧ (hearing s).hears = true ∧ s.alarm.records.length = 40 ∧ s.alarm.notices.length ≤ 32) ∧
      settled s ∧ settled u ∧
      ((0#8).toNat = 0 ∧ (39#8).toNat ≤ 39) ∧ ((1#8).toNat = 1 ∧ (3#8).toNat ≤ 3) ∧
      ¬ ((0#8).toNat = 0 ∧ (40#8).toNat ≤ 39 ∨ (0#8).toNat = 1 ∧ (40#8).toNat ≤ 3) := by decide +kernel

theorem witness_RelaysAndLampShowTheTable :
    let s := withRecord 3 { blankAlarm true with state := .activeNew }
    s.powered = true ∧ s.alarm.records.length = 40 ∧ s.alarm.evaluated = true ∧
      (s.alarm.records.any fun r => r.state == .activeNew || r.state == .goneUnseen) = true ∧
      base.alarm.evaluated = false ∧ ({ base with powered := false } : State).powered = false := by decide

theorem witness_NoticesQueueAndAreTaken :
    let n : Notice := { kind := .start, subject := 0, value := 0, time := 0 }
    let full := base.onAlarm fun a => { a with notices := List.replicate 32 n }
    let empty := fun b : Bool => base.onAlarm fun a => { a with notices := [], resync := b }
    (full.powered = true ∧ (hearing full).hears = true ∧ n.time = full.stamp ∧ full.alarm.notices.length ≤ 32 ∧
        full.alarm.notices = n :: List.replicate 31 n ∧ (List.replicate 31 n).length = 31) ∧
      ((empty true).alarm.notices = [] ∧ (empty true).alarm.resync = true) ∧
      (empty false).alarm.resync = false := by decide +kernel

def unlockedAt (g : Nat) : State := base.onStore fun x => { x with unlocked := some g, idle := 599 }

def writing (w : StoreWrite) : State := base.onStore fun x => { x with write := some w }

set_option maxRecDepth 50000 in
theorem witness_LocksOpenAndClose :
    (base.powered = true ∧ (hearing base).hears = true ∧ 7 < (8#8).toNat) ∧ (writing (.modeTable 0 .keyed)).store.write ≠ none ∧
      (¬ (7 < (7#8).toNat ∨ base.store.write ≠ none)) ∧
      (base.onStore fun x => { x with sealed := List.replicate 8 true }).store.sealed.getD 7 false = true ∧
      ¬ (base.store.sealed.getD 7 false = true ∨ base.store.modes.getD 7 .keyed = .permanent ∨
        base.store.modes.getD 7 .keyed = .keyed ∧ base.functionActive 2 = false) ∧
      (0#16) ≠ check ((base.store.work.getD 7 []).flatMap (bytesBE 2)) ∧
      (unlockedAt 7).store.unlocked = some (7#8).toNat ∧ base.store.unlocked ≠ some (7#8).toNat ∧
      (unlockedAt 7).store.unlocked ≠ none ∧ 600 ≤ (unlockedAt 7).store.idle + 1 ∧ base.store.unlocked = none ∧
      ((unlockedAt 7).onStore fun x => { x with idle := 598 }).store.idle + 1 < 600 := by decide +kernel

/-- Bus-low to 2150 keeps the order with a float of 2270, and breaks it with a float of 2150. -/
theorem witness_WritesAreJudged :
    let s := unlockedAt 2
    let tight := withSetting 1 0 2150 s
    (s.powered = true ∧ (hearing s).hears = true ∧ s.store.work.length = 8) ∧ (0#8).toNat = 0 ∧
      (¬ ((1#8).toNat = 0 ∨ 40 < (1#8).toNat ∨ ([2150#16].length ≠ (1#8).toNat))) ∧ groupSize 2 < 15 + 1 ∧
      (¬ (7 < 2 ∨ groupSize 2 < 9 + 1)) ∧ (writing (.modeTable 0 .keyed)).store.write ≠ none ∧
      base.store.unlocked ≠ some 2 ∧ (s.store.write = none ∧ s.store.unlocked = some 2) ∧
      (settingInRange (s.now 0 14) 2 9 2151 = false ∧ settingInRange (s.now 0 14) 2 9 2150 = true) ∧
      badRelationIndex s 2 9 [2150] = none ∧ badRelationIndex tight 2 9 [2150] = some 9 ∧
      tight.now 1 0 ≤ 2150 ∧
      (after (.writeSettings 2#8 9#8 1#8 [2150#16]) (hearing tight)).link.inHand.map InHand.data = some [9#8] ∧
      (after (.writeSettings 2#8 9#8 1#8 [2151#16]) (hearing s)).link.inHand.map InHand.data = some [9#8] ∧
      (after (.writeSettings 2#8 15#8 1#8 [0#16]) (hearing s)).link.inHand.map InHand.data = some [15#8] := by
  decide +kernel

set_option maxRecDepth 50000 in
/-- A write of group 7 in flight that moves the ACTIVE input 1 from one function to another. -/
def moving (old new : Nat) (m : GenState) (h : Option Hold) : State :=
  let s := withSetting 7 0 old (inState m (someRun .remote) 12 base)
  { s with
    meas := { s.meas with genPresent := true, inputs := s.meas.inputs.modify 0 fun x => { x with level := true, active := true } }
    sup := { s.sup with hold := h }, gen := { s.gen with restCount := 3600, mainsFailTimer := some 9000 }
    store := { s.store with write := some (.group 7 ((s.store.work.getD 7 []).set 0 new)) } }

/-- The functions that are active before and after the write completes. -/
def movedFunctions (s : State) : List Nat × List Nat :=
  let f := fun t : State => (List.range' 1 7).filter t.functionActive
  (f s, f (after .storeWriteComplete s))

theorem witness_StoreWritesComplete_functions :
    let key : Option Hold := some { cause := .key, left := 60 }
    let opens := after .storeWriteComplete (moving 3 0 .idle none)
    [movedFunctions (moving 0 2 .idle none), movedFunctions (moving 2 7 .online key), movedFunctions (moving 7 3 .priming none),
        movedFunctions (moving 3 0 .idle none), movedFunctions (moving 0 5 .warmup none),
        movedFunctions (moving 4 6 .cooldown none)] =
      [([], [2]), ([2], [7]), ([7], [3]), ([3], []), ([], [5]), ([4], [6])] ∧
    ((moving 3 0 .idle none).meas.inputs.length = 8 ∧ opens.gen.run.map Run.basis = some .mainsFail) ∧
    (let u : State := { moving 3 0 .idle none with meas := opens.meas, sup := opens.sup, store := opens.store };
      gatesOpen u = true ∧ firstCause u = some .mainsFail) ∧
    (0 < (moving 0 3 .offload none).inForce 3 18 ∧ (moving 0 3 .offload none).gen.machine = .offload) ∧
    (moving 0 5 .warmup none).gen.stateCount = 12 := by decide +kernel

/-- R14, R94: a write that lowers the budget in ONLINE stops modules and ends the swap (log 60). -/
theorem test_a_write_that_stops_modules_ends_the_swap :
    let p := (inState .online (someRun .remote) 5 (swapping 0)).onStore fun x =>
      { x with write := some (.group 3 ((groupDefaults 3).set 25 500)) }
    let t := after .storeWriteComplete p
    p.rect.swap.isSome = true ∧ 1 < p.nRun ∧
      (t.nGen, t.nRun, t.rect.swap, t.rect.lastSwap.map LastSwap.outcome) = (1, 1, none, some .abandoned) := by
  decide +kernel

theorem witness_StoreWritesComplete :
    let s := writing (.group 6 (groupDefaults 6))
    let m := writing (.modeTable 7 .permanent)
    s.powered = true ∧ s.alarm.records.length = 40 ∧ s.store.write = some (.group 6 (groupDefaults 6)) ∧
      6 < s.store.work.length ∧ (after .storeWriteComplete s).alarm.resync = false ∧
      m.store.write = some (.modeTable 7 .permanent) ∧ base.store.write = none ∧
      (let p := inState .online (someRun .remote) 5 (mixed.onStore fun x => { x with write := some (.group 3 (groupDefaults 3)) });
        p.gen.machine = .online ∧ placed p = true) ∧
      (let v := ((groupDefaults 2).set 12 30);
        v.getD 12 0 ≠ base.now 2 12 ∧ (returning.meas.mainsTimer.any fun n => decide (v.getD 12 0 ≤ n)) = true) ∧
      (withRecord 3 { blankAlarm false with state := .goneUnseen }).alarm.evaluated = true ∧
      base.meas.inputs.length = 8 ∧ (groupDefaults 7).getD 0 0 = base.now 7 0 := by decide +kernel

theorem witness_SettingsAndSignaturesAreRead :
    base.powered = true ∧ (hearing base).hears = true ∧ (1#8) ≠ 0#8 ∧ groupSize 5 = 162 ∧
      ¬ ((40#8).toNat = 0 ∨ 40 < (40#8).toNat ∨ 7 < (5#8).toNat ∨ groupSize (5#8).toNat < (122#8).toNat + (40#8).toNat) ∧
      groupSize 5 < (123#8).toNat + (40#8).toNat ∧ (7#8).toNat ≤ 7 ∧ 7 < (8#8).toNat := by decide +kernel

/-- R195, R208: the idle count of the unlocked group, and absent of any other. -/
theorem test_idle_count_of_a_group_not_unlocked_is_absent :
    let s := base.onStore fun x => { x with unlocked := some 3, idle := 258 }
    (idleField s 3, idleField s 4, idleField base 3) = ([1#8, 2#8], [0xFF#8, 0xFF#8], [0xFF#8, 0xFF#8]) := by
  decide +kernel

def receiving (r : Receiver) (run : List LineByte) (s : State) : State :=
  s.onLink fun l => { l with receiver := r, run := run }

theorem witness_ReceiverTakesBytesAndReplies :
    let taken := holdAnswer 0x24#8 Answer.ok base
    let replying := after .replyBegin taken
    (base.powered = true ∧ (receiving .listening [] base).link.receiver = .listening ∧
        (receiving .collecting [] base).link.receiver = .collecting ∧ taken.link.receiver = .inHand ∧
        base.link.receiver = .deaf ∧ base.link.receiver ≠ .inHand ∧ taken.link.receiver ≠ .deaf) ∧
      taken.link.inHand.isSome = true ∧ taken.link.reply = none ∧ base.link.inHand = none ∧
      replying.link.reply.isSome = true ∧ replying.link.restartDue = false ∧ restarting.link.restartDue = true ∧
      (requestSpelling (.hold 3)).isSome = true ∧ (∀ c, c < 40 → base.now 5 (4 * c) ≤ 3) ∧
      base.alarm.notices.length ≤ 32 ∧ taken.link.inHand.bind InHand.age = none ∧ taken.link.snapshot = none ∧
      (makeSnapshot base).age < 60 := by decide +kernel

set_option maxRecDepth 50000 in
theorem witness_ClosedRunsAreTakenOrDiscarded :
    let run := requestFrame 0 0x3F#8 []
    let s := receiving .collecting run base
    (s.powered = true ∧ s.link.receiver = .collecting ∧ frameOk s.link.address s.link.run = true) ∧
      frameOk 0 (receiving .collecting (run.take 3) base).link.run = false ∧ (run.take 3).length ≤ 3 := by
  decide +kernel

set_option maxRecDepth 50000 in
theorem witness_RunsSpellTheirRequests :
    let i : Instr := .writeSettings 5 0 46 (List.replicate 46 255)
    let payload : List Byte := [5, 0, 46] ++ (List.replicate 46 (255#16)).flatMap halfBytes
    let s := receiving .collecting (requestFrame 0 0x32#8 payload) base
    i.wellFormed = true ∧ requestSpelling i = some (0x32#8, payload) ∧ s.powered = true ∧
      s.link.receiver = .collecting ∧ s.link.address < 256 ∧ s.link.run = requestFrame s.link.address 0x32#8 payload := by
  decide +kernel

/-- R199, R191: frames that spell no request, each a witness of one clause of RunsSpellTheirRequests. -/
theorem witness_RunsSpellTheirRequests_refused :
    let answer := fun (kind : Byte) (payload : List Byte) =>
      (after .runClose (receiving .collecting (requestFrame base.link.address kind payload) base)).link.inHand.map InHand.result
    (base.link.address < 256 ∧ base.powered = true) ∧
      [answer 0x0C#8 [], answer 0x21#8 [0], answer 0x32#8 [1, 0], answer 0x32#8 [1, 0, 0],
        answer 0x32#8 [1, 0, 41], answer 0x32#8 [1, 0, 1, 0], answer 0x31#8 [7, 5]] =
        [some .unknownKind, some .badLength, some .badLength, some .badLength, some .badLength, some .badLength,
          some .badField] := by decide +kernel

theorem witness_ReadsAnswerFromTheTables :
    base.powered = true ∧ (hearing base).hears = true ∧ (4#8).toNat ≤ 4 ∧ 4 < (5#8).toNat ∧
      (1 ≤ (6#8).toNat ∧ (6#8).toNat ≤ 6 ∧ (6#8).toNat + (6#8).toNat ≤ 12) ∧
      ¬ (1 ≤ (6#8).toNat ∧ (6#8).toNat ≤ 6 ∧ (7#8).toNat + (6#8).toNat ≤ 12) ∧
      (1 ≤ (10#8).toNat ∧ (10#8).toNat ≤ 10 ∧ (30#8).toNat + (10#8).toNat ≤ 40) ∧ ¬ (11#8).toNat ≤ 10 ∧
      (23#8).toNat ≤ 23 ∧ 23 < (24#8).toNat ∧ (2#8) ≠ 0#8 ∧ (2#8) ≠ 1#8 ∧ base.link.snapshot = none ∧
      (base.stringRec 0).isSome = true ∧ base.stringRec 3 = none ∧ base.meas.bus < 256 ^ 2 ∧
      (-((256 ^ 2 : Nat) : Int) ≤ 2 * (-10000) ∧ 2 * (10000 : Int) < ((256 ^ 2 : Nat) : Int)) ∧ base.now 5 0 < 4 ∧
      (base.alarm.notices ≠ [] ∧ base.gen.log[0]? = none ∧
        (after (.genStart 1 0) (hearing base)).gen.log[0]?.isSome = true) ∧
      ((base.slot 0).data = none ∧ 0 ∉ base.rect.queue ∧ 0 ∉ base.rect.running) := by decide +kernel

theorem witness_SnapshotsKeepTheirMoment :
    let kept := fun age => base.onLink fun l => { l with snapshot := some { makeSnapshot base with age := age } }
    base.powered = true ∧ (kept 59).powered = true ∧ (hearing (kept 59)).hears = true ∧
      (hearing (kept 59)).link.snapshot = some { makeSnapshot base with age := 59 } ∧ 60 ≤ 59 + 1 ∧ 58 + 1 < 60 ∧
      base.link.snapshot = none ∧
      ∃ h : InHand, (holdAnswer 0x02#8 { Answer.ok with age := some 59 } base).link.inHand = some h ∧ h.age = some 59 :=
  ⟨rfl, rfl, rfl, rfl, by decide, by decide, rfl, _, rfl, rfl⟩

theorem witness_StationAddressHoldsBetweenStarts :
    (restarting.powered = true ∧ restarting.link.restartDue = true ∧ restarting.link.reply ≠ none) ∧
    (11 < 12 ∧ 0 < 12 ∧ 270000 ≤ 470000 ∧ 470000 < 470001 ∧ 3000 ≤ 3000) ∧
      ({ quiet with strapA := 2999 } : Pins).strapA < 3000 ∧ 470000 < ({ quiet with strapB := 470001 } : Pins).strapB := by
  decide

/-- Two running slots, three waiting in order, with the rotation due; n_up and n_down follow the load. -/
def rotary (load : Nat) : State :=
  (onMains base).onRect (fun r =>
    { r with
      slots := [{ blankSlot with state := .running, hours := 5000, answering := .yes },
        { blankSlot with state := .running, hours := 300, answering := .yes },
        { blankSlot with state := .standby, hours := 10, answering := .yes },
        { blankSlot with state := .standby, hours := 20, answering := .yes },
        { blankSlot with state := .standby, hours := 20, answering := .yes }] ++ List.replicate 7 blankSlot
      running := [0, 1], queue := [2, 3, 4], spacing := 60, dwell := 4000, rotation := 604799 })
    |>.onMeas fun m => { m with load := load }

/-- A swap at the end of its overlap, a start at its timeout and a recovery at its time. -/
def turning : State :=
  (rotary 0).onRect fun r =>
    { r with
      slots := [{ blankSlot with state := .running, hours := 5000, answering := .yes },
        { blankSlot with state := .running, hours := 300, answering := .yes },
        { blankSlot with state := .starting, hours := 10, answering := .yes, startCount := 29 },
        { blankSlot with state := .fault, answering := .yes, recovery := 59, data := some default }] ++
          List.replicate 8 blankSlot
      running := [0, 1, 2], queue := [], swap := some ⟨1, 0, .overlap, 29⟩ }

theorem witness_EventsSetTheModuleCount :
    ((rotary 0).alarm.records.length = 40 ∧ (rotary 0).rect.fitted = (rotary 0).inForce 0 15 ∧
        (rotary 0).inForce 0 15 ≤ 12 ∧ (rotary 0).rect.swap = none ∧ (rotary 0).sup.ac = true ∧
        (inMode .battery false (rotary 0)).sup.ac = false) ∧
      (∀ i, i < 12 → ((rotary 0).slot i).state ≠ .starting ∧ ((rotary 0).slot i).state ≠ .fault) ∧
      (rotary 0).RosterPlaced ∧ (rotary 0).QueueOrdered ∧
      ((rotary 1860).nRun < (rectEvent (rotary 1860)).nUp ∧
        (rotary 1860).inForce 4 4 ≤ (rotary 1860).rect.spacing + 1 ∧ (rotary 1860).rect.queue ≠ []) ∧
      (let s := held (withSetting 4 2 0 (withSetting 4 3 1 (rotary 0)));
        max (rectEvent s).nDown (rectEvent s).nUp < s.nRun ∧ s.inForce 4 5 ≤ s.rect.dwell + 1 ∧
          s.sup.hold ≠ none) ∧
      (let s := withSetting 4 3 2 (withSetting 4 2 0 (rotary 0));
        ¬ s.nRun < (rectEvent s).nUp ∧ ¬ max (rectEvent s).nDown (rectEvent s).nUp < s.nRun ∧
          s.sup.hold = none ∧ s.inForce 4 6 * 3600 ≤ min 2592000 (s.rect.rotation + 1) ∧
          (s.slot 2).state = .standby ∧ (s.slot 0).state = .running ∧
          ((rectEvent s).slot 2).hours + s.inForce 4 7 < ((rectEvent s).slot 0).hours) ∧
      (turning.alarm.records.length = 40 ∧ turning.rect.fitted = turning.inForce 0 15 ∧
        turning.RosterPlaced ∧ turning.QueueOrdered ∧ turning.SwapPlaced ∧ (rotary 0).SwapPlaced ∧ turning.sup.ac = true ∧ 1 < turning.inForce 4 10 ∧
        turning.inForce 4 9 ≤ (turning.slot 2).startCount + 1 ∧ turning.inForce 4 10 ≤ (turning.slot 3).recovery + 1 ∧
        turning.inForce 4 8 ≤ 29 + 1 ∧ turning.rect.swap = some ⟨1, 0, .overlap, 29⟩) :=
  ⟨by decide +kernel, by decide +kernel, placed_roster _ (by decide +kernel),
    by simp only [State.QueueOrdered]; decide +kernel, by decide +kernel, by decide +kernel, by decide +kernel,
    by decide +kernel, by decide +kernel, placed_roster _ (by decide +kernel),
    by simp only [State.QueueOrdered]; decide +kernel, placed_swap _ (by decide +kernel), placed_swap _ (by decide +kernel),
    by decide +kernel⟩

theorem witness_EventsSetTheModuleCount_limit :
    let s := rotary 901
    let whole := s.meas.load + s.charge.ibl
    let q := (whole + 1) / 2
    s.charge.stage ≠ .test ∧ s.rect.running ≠ [] ∧ whole ≤ s.rect.running.length * q ∧
      s.rect.running.length * q < whole + s.rect.running.length ∧ base.rect.running = [] := by decide +kernel

/-- R99, R100, R108: at one event a start times out, a module recovers and, n_run being 2 and n_up 2, a swap is absorbed. -/
theorem test_event_ends_start_recovery_and_overlap :
    (let t := rectEvent turning
     ((t.slot 2).state, (t.slot 2).faults, (t.slot 3).state, t.rect.swap, t.rect.lastSwap.map LastSwap.outcome)) =
      (.fault, 1, .standby, none, some .absorbed) := by decide +kernel

/-- R128: entering ONLINE caps n_up at once, and the cap ends with it. -/
theorem test_online_caps_n_up :
    (let s := (rotary 0).onRect fun r => { r with upFormed := 9 }
     (s.nUp, (genEnter .online s).nUp, (genEnter .cooldown (genEnter .online s)).nUp)) = (9, 4, 9) := by
  decide +kernel

end Sys2Proof.Tests
end

section
/-! SUPPORT. The setting store at a start (R184, R186, R187, R193): what each group and the mode table hold after
it. -/

namespace Sys2Proof.Machine

/-! ## The groups and their damage (R184) -/

/-- Every damaged group of eight stands at its defaults. -/
structure Store.DamagedAtDefaults (x : Store) : Prop where
  groups : x.work.length = 8
  marks : x.damaged.length = 8
  defaults : ∀ g, g < 8 → x.damaged.getD g false = true → x.work.getD g [] = groupDefaults g

theorem load_work (x : Store) : x.load.work = (List.range 8).map x.verified := by
  refine List.map_congr_left fun g _ => ?_
  unfold Store.verified
  cases x.images[g]? with
  | none => rfl
  | some m => cases h : m.good <;> simp [Option.filter, h]

theorem load_work_getD (x : Store) (g : Nat) (h : g < 8) : x.load.work.getD g [] = x.verified g := by
  simp [load_work, h]

theorem load_damaged_getD (x : Store) (g : Nat) (h : g < 8) :
    x.load.damaged.getD g false = !(x.images[g]?).any Image.good := by
  simp [Store.load, h]

theorem load_damagedAtDefaults (x : Store) : x.load.DamagedAtDefaults where
  groups := by simp [load_work]
  marks := by simp [Store.load]
  defaults g h hd := by
    rw [load_damaged_getD x g h] at hd
    rw [load_work_getD x g h, Store.verified]
    cases hm : x.images[g]? with
    | none => rfl
    | some m =>
      have hbad : m.good = false := by simpa [hm] using hd
      simp [Option.filter, hbad]

/-- R192: groups 1 and 2 are broken exactly where the cell thresholds are out of order. -/
theorem pairBroken_cells (work : List (List Nat)) : pairBroken work 1 2 = true ↔ ¬ CellsInOrder work := by
  rw [← Bool.not_eq_false, not_iff_not]
  simp [pairBroken, relations, Relation.holds, CellsInOrder]

/-- R192: groups 0 and 3 are broken exactly where the generator budget is below the module rating. -/
theorem pairBroken_budget (work : List (List Nat)) : pairBroken work 0 3 = true ↔ ¬ BudgetInOrder work := by
  simp [pairBroken, relations, Relation.holds, BudgetInOrder]

/-- A group spoilt unless it is damaged already. -/
def Store.spoilt (g : Nat) (x : Store) : Store := if x.damaged.getD g false then x else x.spoil g

theorem Store.DamagedAtDefaults.spoilt_work {x : Store} (hx : x.DamagedAtDefaults) {a : Nat} (ha : a < 8) (g : Nat) :
    (x.spoilt a).work.getD g [] = if g = a then groupDefaults g else x.work.getD g [] := by
  have hlen := hx.groups
  by_cases hd : x.damaged.getD a false = true
  · rw [Store.spoilt, if_pos hd]
    split
    · next h => rw [h]; exact hx.defaults a ha hd
    · rfl
  · rw [Store.spoilt, if_neg hd]
    by_cases h : g = a
    · simp [Store.spoil, h, hlen, ha]
    · simp [Store.spoil, List.getD_eq_getElem?_getD, h, Ne.symm h]

theorem Store.DamagedAtDefaults.spoilt_damaged {x : Store} (hx : x.DamagedAtDefaults) {a : Nat} (ha : a < 8)
    (g : Nat) : (x.spoilt a).damaged.getD g false = (decide (g = a) || x.damaged.getD g false) := by
  have hlen := hx.marks
  by_cases hd : x.damaged.getD a false = true
  · rw [Store.spoilt, if_pos hd]
    by_cases h : g = a
    · simp only [h, hd, decide_true, Bool.true_or]
    · simp [h]
  · rw [Store.spoilt, if_neg hd]
    by_cases h : g = a
    · simp [Store.spoil, h, hlen, ha]
    · simp [Store.spoil, List.getD_eq_getElem?_getD, h, Ne.symm h]

theorem Store.DamagedAtDefaults.spoilt {x : Store} (hx : x.DamagedAtDefaults) {a : Nat} (ha : a < 8) :
    (x.spoilt a).DamagedAtDefaults where
  groups := by unfold Store.spoilt; split <;> simp [Store.spoil, hx.groups]
  marks := by unfold Store.spoilt; split <;> simp [Store.spoil, hx.marks]
  defaults g hg hd := by
    rw [hx.spoilt_work ha]
    rw [hx.spoilt_damaged ha] at hd
    split
    · rfl
    · next h => exact hx.defaults g hg (by simpa [h] using hd)

/-- R184: a broken pair is spoilt group by group. -/
theorem Store.DamagedAtDefaults.resolve_eq {x : Store} (hx : x.DamagedAtDefaults) {a b : Nat} (ha : a < 8)
    (hab : b ≠ a) : x.resolve a b = if pairBroken x.work a b = true then (x.spoilt a).spoilt b else x := by
  have hmark : (x.spoilt a).damaged.getD b false = x.damaged.getD b false := by
    rw [hx.spoilt_damaged ha]; simp [hab]
  rw [Store.spoilt, hmark]
  rfl

theorem Store.DamagedAtDefaults.resolve {x : Store} (hx : x.DamagedAtDefaults) {a b : Nat} (ha : a < 8)
    (hb : b < 8) (hab : b ≠ a) : (x.resolve a b).DamagedAtDefaults := by
  rw [hx.resolve_eq ha hab]
  split
  · exact (hx.spoilt ha).spoilt hb
  · exact hx

theorem Store.DamagedAtDefaults.resolve_work {x : Store} (hx : x.DamagedAtDefaults) {a b : Nat} (ha : a < 8)
    (hb : b < 8) (hab : b ≠ a) (g : Nat) :
    (x.resolve a b).work.getD g [] =
      if pairBroken x.work a b = true ∧ (g = a ∨ g = b) then groupDefaults g else x.work.getD g [] := by
  rw [hx.resolve_eq ha hab]
  by_cases h : pairBroken x.work a b = true
  · simp only [h, if_true, true_and, (hx.spoilt ha).spoilt_work hb, hx.spoilt_work ha]
    by_cases hga : g = a <;> by_cases hgb : g = b <;> simp [hga, hgb]
  · simp [h]

theorem Store.DamagedAtDefaults.resolve_damaged {x : Store} (hx : x.DamagedAtDefaults) {a b : Nat} (ha : a < 8)
    (hb : b < 8) (hab : b ≠ a) (g : Nat) :
    (x.resolve a b).damaged.getD g false =
      (decide (pairBroken x.work a b = true ∧ (g = a ∨ g = b)) || x.damaged.getD g false) := by
  rw [hx.resolve_eq ha hab]
  by_cases h : pairBroken x.work a b = true
  · simp only [h, if_true, true_and, (hx.spoilt ha).spoilt_damaged hb, hx.spoilt_damaged ha]
    by_cases hga : g = a <;> by_cases hgb : g = b <;> simp [hga, hgb]
  · simp [h]

/-- Resolving groups 1 and 2 leaves groups 0 and 3 to be judged as they were loaded. -/
theorem Store.DamagedAtDefaults.budget_after_cells {x : Store} (hx : x.DamagedAtDefaults) :
    BudgetInOrder (x.resolve 1 2).work ↔ BudgetInOrder x.work := by
  have hw := hx.resolve_work (a := 1) (b := 2) (by omega) (by omega) (by omega)
  simp only [BudgetInOrder, hw]
  simp

/-! ### What the whole store holds after a start -/

@[simp] theorem loadModes_work (x : Store) : x.loadModes.work = x.work := by
  unfold Store.loadModes; split <;> [skip; split] <;> rfl

@[simp] theorem loadModes_damaged (x : Store) : x.loadModes.damaged = x.damaged := by
  unfold Store.loadModes; split <;> [skip; split] <;> rfl

@[simp] theorem resolve_copies (a b : Nat) (x : Store) :
    (x.resolve a b).copyA = x.copyA ∧ (x.resolve a b).copyB = x.copyB := by
  unfold Store.resolve
  dsimp only
  constructor <;> ((repeat' split) <;> rfl)

theorem loadModes_modes (x : Store) :
    x.loadModes.modes =
      (if x.copyA.good then x.copyA.modes else if x.copyB.good then x.copyB.modes else List.replicate 8 .keyed) ∧
      x.loadModes.tableDamaged = (!x.copyA.good && !x.copyB.good) := by
  unfold Store.loadModes
  cases x.copyA.good <;> cases x.copyB.good <;> simp

theorem storeStart_work (x : Store) : x.start.work = ((x.load.resolve 1 2).resolve 0 3).work := by
  simp [Store.start]

theorem storeStart_damaged (x : Store) : x.start.damaged = ((x.load.resolve 1 2).resolve 0 3).damaged := by
  simp [Store.start]

/-- R186. -/
theorem storeStart_modes (x : Store) :
    x.start.modes =
      (if x.copyA.good then x.copyA.modes else if x.copyB.good then x.copyB.modes else List.replicate 8 .keyed) ∧
      x.start.tableDamaged = (!x.copyA.good && !x.copyB.good) := by
  have h := loadModes_modes ((x.load.resolve 1 2).resolve 0 3)
  simp only [resolve_copies] at h
  exact h

/-- The store with another write in flight, or with none. -/
def Store.withWrite (w : Option StoreWrite) (x : Store) : Store := { x with write := w }

theorem load_withWrite (w : Option StoreWrite) (x : Store) : (x.withWrite w).load = x.load.withWrite w := rfl

theorem resolve_withWrite (a b : Nat) (w : Option StoreWrite) (x : Store) :
    (x.withWrite w).resolve a b = (x.resolve a b).withWrite w := by
  have hwork : (x.withWrite w).work = x.work := rfl
  have hmarks : (x.withWrite w).damaged = x.damaged := rfl
  unfold Store.resolve
  rw [hwork, hmarks]
  by_cases hp : pairBroken x.work a b = true
  · by_cases ha : x.damaged.getD a false = true <;> by_cases hb : x.damaged.getD b false = true <;>
      simp only [hp, ha, hb] <;> rfl
  · simp only [hp]
    rfl

theorem loadModes_withWrite (w : Option StoreWrite) (x : Store) :
    (x.withWrite w).loadModes = x.loadModes.withWrite w := by
  unfold Store.loadModes Store.withWrite
  dsimp only
  split <;> [skip; split] <;> rfl

/-- R193: a start takes nothing of a store write in flight. -/
theorem storeStart_withWrite (w : Option StoreWrite) (x : Store) : (x.withWrite w).start = x.start := by
  unfold Store.start
  rw [load_withWrite, resolve_withWrite, resolve_withWrite, loadModes_withWrite]
  rfl

theorem disordered_iff (x : Store) (g : Nat) :
    x.Disordered g ↔ (pairBroken x.load.work 1 2 = true ∧ (g = 1 ∨ g = 2)) ∨
      (pairBroken x.load.work 0 3 = true ∧ (g = 0 ∨ g = 3)) := by
  rw [pairBroken_cells, pairBroken_budget, load_work, Store.Disordered]
  tauto

/-- The second pair is judged as it was loaded. -/
theorem pairBroken_after_cells {x : Store} (hx : x.DamagedAtDefaults) :
    pairBroken (x.resolve 1 2).work 0 3 = pairBroken x.work 0 3 := by
  rw [Bool.eq_iff_iff, pairBroken_budget, pairBroken_budget, hx.budget_after_cells]

/-- R184: the groups after a start. -/
theorem storeStart_group (x : Store) (g : Nat) (hg : g < 8) :
    (x.Disordered g → x.start.work.getD g [] = groupDefaults g ∧ x.start.damaged.getD g false = true) ∧
      (¬ x.Disordered g → x.start.work.getD g [] = x.verified g ∧
        x.start.damaged.getD g false = !(x.images[g]?).any Image.good) := by
  have hl := load_damagedAtDefaults x
  have hc := hl.resolve (a := 1) (b := 2) (by omega) (by omega) (by omega)
  rw [storeStart_work, storeStart_damaged, hc.resolve_work (by omega) (by omega) (by omega),
    hc.resolve_damaged (by omega) (by omega) (by omega), pairBroken_after_cells hl,
    hl.resolve_work (by omega) (by omega) (by omega), hl.resolve_damaged (by omega) (by omega) (by omega),
    load_work_getD x g hg, load_damaged_getD x g hg, disordered_iff]
  constructor
  · rintro (h | h) <;> simp [h]
  · rw [not_or]
    rintro ⟨h1, h2⟩
    simp [h1, h2]

end Sys2Proof.Machine
end

section
/-! SUPPORT. What follows the blocks' own starts: the reports of conditions before the first evaluation (R165, R179),
an exercise missed over the start (R163), and the evaluation of the start gates (R129). -/

namespace Sys2Proof.Machine

/-! ## Reports before the first evaluation (R165, R179) -/

/-- `b` is the alarm unit `a` but for the conditions, the counts and the lamp, the table not being evaluated. -/
structure Alarm.Quiet (a b : Alarm) : Prop where
  evaluated : b.evaluated = false
  notices : b.notices = a.notices
  resync : b.resync = a.resync
  records : ∀ c, (b.records.getD c (blankAlarm false)).state = (a.records.getD c (blankAlarm false)).state ∧
    (b.records.getD c (blankAlarm false)).occurrences = (a.records.getD c (blankAlarm false)).occurrences

theorem Alarm.Quiet.refl {a : Alarm} (h : a.evaluated = false) : a.Quiet a :=
  ⟨h, rfl, rfl, fun _ => ⟨rfl, rfl⟩⟩

theorem Alarm.Quiet.trans {a b c : Alarm} (h₁ : a.Quiet b) (h₂ : b.Quiet c) : a.Quiet c where
  evaluated := h₂.evaluated
  notices := h₂.notices.trans h₁.notices
  resync := h₂.resync.trans h₁.resync
  records i := ⟨(h₂.records i).1.trans (h₁.records i).1, (h₂.records i).2.trans (h₁.records i).2⟩

/-- Writing a record that keeps its state and occurrences is quiet. -/
theorem Alarm.quiet_write (s : State) (c : Nat) (r : AlarmRec) (h : s.alarm.evaluated = false)
    (hs : r.state = (s.record c).state) (ho : r.occurrences = (s.record c).occurrences) :
    s.alarm.Quiet (s.alarm.write c r) where
  evaluated := h
  notices := rfl
  resync := rfl
  records d := by
    by_cases hd : d = c
    · subst hd
      by_cases hl : d < s.alarm.records.length
      · simpa [hl, State.record] using And.intro hs ho
      · simp [hl]
    · simp [List.getD_eq_getElem?_getD, Ne.symm hd]

theorem report_quietly (c : Nat) (v : Bool) (s : State) (h : s.alarm.evaluated = false) :
    s.alarm.Quiet (report c v s).alarm := by
  rw [report_quiet c v s h]
  exact Alarm.quiet_write s c _ h rfl rfl

/-- A report after quiet ones. -/
theorem Alarm.Quiet.report {a : Alarm} {s : State} (h : a.Quiet s.alarm) (c : Nat) (v : Bool) :
    a.Quiet (report c v s).alarm := h.trans (report_quietly c v s h.evaluated)

theorem Alarm.Quiet.foldl_report {a : Alarm} (c : Nat → Nat) (v : State → Nat → Bool) (l : List Nat) {s : State}
    (h : a.Quiet s.alarm) : a.Quiet (l.foldl (fun s i => Machine.report (c i) (v s i) s) s).alarm := by
  induction l generalizing s with
  | nil => exact h
  | cons i l ih => exact ih (h.report (c i) (v s i))

theorem Alarm.Quiet.measurementReport {a : Alarm} {s : State} (h : a.Quiet s.alarm) :
    a.Quiet (measurementReport s).alarm :=
  Alarm.Quiet.foldl_report (alStringFault + ·) (fun s i => (s.stringChannel i).validity == .unusable) _ (h.report _ _)

theorem Alarm.Quiet.reportLockout {a : Alarm} {s : State} (h : a.Quiet s.alarm) : a.Quiet (reportLockout s).alarm :=
  (((h.report _ _).report _ _).report _ _).report _ _

/-- R165: the reports of a start. -/
theorem reportAll_quiet (s : State) (h : s.alarm.evaluated = false) : s.alarm.Quiet (reportAll s).alarm :=
  Alarm.Quiet.refl h
    |>.report alMainsFail _ |>.report alLoadShed _ |>.report alBatteryDisconnected _
    |>.report alAccountLow _ |>.report alAccountUnsync _ |>.measurementReport
    |>.report alEqualizeOverdue _ |>.report alCapacityLow _ |>.report alRectFail _ |>.report alRectMultiFail _
    |>.report alRectLost _ |>.report alModuleBusFail _ |>.reportLockout |>.report alGenRunning _
    |>.report alFuelLow _ |>.report alFuelEmpty _ |>.report alExerciseMissed _ |>.report alSettingsLost _
    |>.report alClockLost _ |>.report alHoldActive _

@[simp] theorem reportAll_frame (s : State) :
    (reportAll s).powered = s.powered ∧ (reportAll s).markerGood = s.markerGood ∧
    (reportAll s).meas = s.meas ∧ (reportAll s).sup = s.sup ∧ (reportAll s).acct = s.acct ∧
    (reportAll s).charge = s.charge ∧ (reportAll s).prot = s.prot ∧ (reportAll s).rect = s.rect ∧
    (reportAll s).bus = s.bus ∧ (reportAll s).gen = s.gen ∧ (reportAll s).cal = s.cal ∧ (reportAll s).store = s.store ∧
    (reportAll s).link = s.link := by
  simp [reportAll]

/-! ## An exercise owed across a start (R163) -/

theorem exerciseMissed_quiet (s : State) (h : s.alarm.evaluated = false) :
    s.alarm.Quiet (exerciseMissed s).alarm :=
  report_quietly _ _ (dropCause (s.onCal _)) h

theorem windowClosed_quiet (s : State) (h : s.alarm.evaluated = false) : s.alarm.Quiet (windowClosed s).alarm := by
  unfold windowClosed
  split
  · exact exerciseMissed_quiet s h
  · exact Alarm.Quiet.refl h

@[simp] theorem exerciseMissed_cal (s : State) :
    (exerciseMissed s).cal =
      { s.cal.noExercise with
        runMark := false, missed := true, last := some { date := s.cal.exDue, outcome := .missed } } := by
  simp [exerciseMissed, dropCause]

@[simp] theorem exerciseMissed_gen (s : State) : (exerciseMissed s).gen = { s.gen with exercise := none } := by
  simp [exerciseMissed, dropCause]

/-- R163: the exercise record moves, the time of day does not. -/
theorem windowClosed_clock (s : State) :
    (windowClosed s).stamp = s.stamp ∧ (windowClosed s).cal.valid = s.cal.valid ∧
      (windowClosed s).cal.weekday = s.cal.weekday := by
  unfold windowClosed
  split
  · simp only [State.stamp, exerciseMissed_cal]
    exact ⟨rfl, rfl, rfl⟩
  · exact ⟨rfl, rfl, rfl⟩

theorem windowClosed_none (s : State) (h : s.cal.exState = .none) : windowClosed s = s := by
  simp [windowClosed, h]

theorem windowClosed_gen (s : State) :
    (windowClosed s).gen = { s.gen with exercise := (windowClosed s).gen.exercise } := by
  unfold windowClosed
  split
  · simp
  · rfl

@[simp] theorem exerciseStart_frame (s : State) :
    (exerciseStart s).powered = s.powered ∧ (exerciseStart s).markerGood = s.markerGood ∧
    (exerciseStart s).meas = s.meas ∧ (exerciseStart s).sup = s.sup ∧ (exerciseStart s).acct = s.acct ∧
    (exerciseStart s).charge = s.charge ∧ (exerciseStart s).prot = s.prot ∧ (exerciseStart s).rect = s.rect ∧
    (exerciseStart s).bus = s.bus ∧ (exerciseStart s).store = s.store ∧ (exerciseStart s).link = s.link := by
  simp [exerciseStart]

theorem exerciseStart_quiet (s : State) (h : s.alarm.evaluated = false) : s.alarm.Quiet (exerciseStart s).alarm :=
  windowClosed_quiet s h

theorem exerciseStart_gen (s : State) : ∃ exercise, (exerciseStart s).gen = { s.gen with exercise := exercise } :=
  ⟨_, windowClosed_gen s⟩

theorem exerciseStart_clock (s : State) :
    (exerciseStart s).stamp = s.stamp ∧ (exerciseStart s).cal.valid = s.cal.valid ∧
      (exerciseStart s).cal.weekday = s.cal.weekday :=
  windowClosed_clock s

/-- R163: with no exercise owed nothing is missed, and nothing is to be handed. -/
theorem exerciseStart_cal_none (s : State) (h : s.cal.exState = .none) :
    (exerciseStart s).cal = { s.cal with handAgain := false } := by
  simp [exerciseStart, windowClosed_none s h, h]

/-- The mark of a run on the calendar leaves its time. -/
theorem clock_of_runMark (c d : Cal) (h : d = { c with runMark := d.runMark }) :
    d.stamp = c.stamp ∧ d.valid = c.valid ∧ d.weekday = c.weekday := by
  rw [h]
  exact ⟨rfl, rfl, rfl⟩

/-! ## What a run begun at a start leaves (R129 to R132) -/

/-- Outside ONLINE the machine enters a state other than ONLINE with its reports alone. -/
theorem genEnter_offline (new : GenState) (s : State) (h : s.online = false) (hn : new ≠ .online) :
    genEnter new s =
      reportLockout (report alGenRunning new.inRun (s.onGen fun g => { g with machine := new, stateCount := 0 })) := by
  have hm : (s.onGen fun g => { g with machine := new, stateCount := 0 }).online = s.online := by
    rw [h]; simpa [State.online] using hn
  unfold genEnter
  simp only [hn, if_false, hm, if_true]
  rfl

/-- The generator does not carry the plant nor show AC, and the alarm table is not evaluated: so it is at a start. -/
structure State.Starting (s : State) : Prop where
  offline : s.online = false
  absent : s.meas.genPresent = false
  unevaluated : s.alarm.evaluated = false

/-- `t` is `s` but for a run that has begun in it: of the generator controller its machine, its run and its log. -/
structure RunBeginsIn (s t : State) : Prop where
  frame : t.powered = s.powered ∧ t.markerGood = s.markerGood ∧ t.meas = s.meas ∧ t.sup = s.sup ∧
    t.acct = s.acct ∧ t.charge = s.charge ∧ t.prot = s.prot ∧ t.rect = s.rect ∧ t.bus = s.bus ∧ t.store = s.store ∧
    t.link = s.link
  starting : t.Starting
  gen : t.gen =
    { s.gen with machine := t.gen.machine, stateCount := t.gen.stateCount, run := t.gen.run, log := t.gen.log }
  cal : t.cal = { s.cal with runMark := t.cal.runMark }
  alarm : ∃ l, ({ s.alarm with notices := s.alarm.notices ++ l } : Alarm).Quiet t.alarm

theorem RunBeginsIn.refl {s : State} (h : s.Starting) : RunBeginsIn s s where
  frame := by simp
  starting := h
  gen := rfl
  cal := rfl
  alarm := ⟨[], by simpa using Alarm.Quiet.refl h.unevaluated⟩

theorem RunBeginsIn.trans {s t u : State} (h₁ : RunBeginsIn s t) (h₂ : RunBeginsIn t u) : RunBeginsIn s u where
  frame := by simp [h₂.frame, h₁.frame]
  starting := h₂.starting
  gen := h₂.gen.trans (by rw [h₁.gen])
  cal := h₂.cal.trans (by rw [h₁.cal])
  alarm := by
    obtain ⟨l, hl⟩ := h₁.alarm
    obtain ⟨m, hm⟩ := h₂.alarm
    refine ⟨l ++ m, hm.evaluated, ?_, hm.resync.trans hl.resync, fun c => ?_⟩
    · rw [hm.notices, hl.notices, List.append_assoc]
    · exact ⟨(hm.records c).1.trans (hl.records c).1, (hm.records c).2.trans (hl.records c).2⟩

theorem RunBeginsIn.genEnter {s t : State} (h : RunBeginsIn s t) (new : GenState) (hn : new ≠ .online) :
    RunBeginsIn s (genEnter new t) := by
  have quiet := (report_quietly alGenRunning new.inRun (t.onGen fun g => { g with machine := new, stateCount := 0 })
    h.starting.unevaluated).reportLockout
  rw [genEnter_offline new t h.starting.offline hn]
  exact h.trans
    { frame := by simp
      starting := ⟨by simpa [State.online] using hn, by simpa using h.starting.absent, quiet.evaluated⟩
      gen := by simp
      cal := by simp
      alarm := ⟨[], by simpa using quiet⟩ }

/-- The run in flight and its record are written. -/
theorem RunBeginsIn.onGen {s t : State} (h : RunBeginsIn s t) (f : Gen → Gen)
    (hf : f t.gen = { t.gen with run := (f t.gen).run, log := (f t.gen).log }) : RunBeginsIn s (t.onGen f) := by
  have machine : (f t.gen).machine = t.gen.machine := by rw [hf]
  exact h.trans
    { frame := by simp
      starting := ⟨by simpa [State.online, machine] using h.starting.offline, h.starting.absent,
        h.starting.unevaluated⟩
      gen := by rw [State.onGen_gen, hf]
      cal := rfl
      alarm := ⟨[], by simpa using Alarm.Quiet.refl h.starting.unevaluated⟩ }

theorem RunBeginsIn.exerciseRunBegins {s t : State} (h : RunBeginsIn s t) : RunBeginsIn s (exerciseRunBegins t) :=
  h.trans
    { frame := by simp
      starting := ⟨h.starting.offline, h.starting.absent, h.starting.unevaluated⟩
      gen := rfl
      cal := rfl
      alarm := ⟨[], by simpa using Alarm.Quiet.refl h.starting.unevaluated⟩ }

theorem RunBeginsIn.post {s t : State} (h : RunBeginsIn s t) (kind : NoticeKind) (subject value : Nat)
    (room : t.alarm.notices.length < 32) : RunBeginsIn s (post kind subject value t) := by
  rw [post_room _ _ _ _ room]
  exact h.trans
    { frame := by simp
      starting := ⟨h.starting.offline, h.starting.absent, h.starting.unevaluated⟩
      gen := rfl
      cal := rfl
      alarm := ⟨_, Alarm.Quiet.refl h.starting.unevaluated⟩ }

/-- R132: with generator AC absent CRANKING is entered. -/
theorem RunBeginsIn.enterCranking {s t : State} (h : RunBeginsIn s t) : RunBeginsIn s (enterCranking t) := by
  unfold Machine.enterCranking
  simp only [h.starting.absent, Bool.false_eq_true, if_false]
  exact ((h.onGen _ rfl).onGen _ rfl).genEnter .cranking (by decide)

theorem RunBeginsIn.enterPriming {s t : State} (h : RunBeginsIn s t) : RunBeginsIn s (enterPriming t) := by
  have primed := h.genEnter .priming (by decide)
  unfold Machine.enterPriming
  dsimp only
  split
  · exact primed.enterCranking
  · exact primed

/-- R129, R148: a run begun at a start. -/
theorem beginRun_begins (basis : Basis) (opening : Option Basis) (load : Bool) (duration : Option Nat) (s : State)
    (h : s.Starting) (room : s.alarm.notices.length < 32) : RunBeginsIn s (beginRun basis opening load duration s) := by
  unfold beginRun
  dsimp only
  split
  · exact (((RunBeginsIn.refl h).onGen _ rfl).exerciseRunBegins.post _ _ _ room).enterPriming
  · exact (((RunBeginsIn.refl h).onGen _ rfl).post _ _ _ room).enterPriming

/-- R129: the evaluation of the start gates at a start begins a run or does nothing. -/
theorem evaluateStart_runBeginsIn (s : State) (h : s.Starting) (room : s.alarm.notices.length < 32) :
    RunBeginsIn s (evaluateStart s) := by
  unfold evaluateStart
  split
  · split
    · next b _ =>
      cases b with
      | exercise => simp only [beginCause]; split <;> exact beginRun_begins _ _ _ _ s h room
      | _ => exact beginRun_begins _ _ _ _ s h room
    · exact RunBeginsIn.refl h
  · exact RunBeginsIn.refl h

end Sys2Proof.Machine
end

section
/-! SUPPORT. The starts of the blocks (R1, R3, R8 to R11, R17, R71, R86, R113, R126, R151, R163, R180, R198, R207):
what each leaves of the other blocks and what it brings to its own, and from them what stands after the whole start. -/

namespace Sys2Proof.Machine

/-! ## What each block's start leaves of the other blocks -/

@[simp] theorem protStart_frame (cold : Bool) (s : State) :
    (protStart cold s).powered = s.powered ∧ (protStart cold s).markerGood = s.markerGood ∧
    (protStart cold s).meas = s.meas ∧ (protStart cold s).sup = s.sup ∧ (protStart cold s).acct = s.acct ∧
    (protStart cold s).charge = s.charge ∧ (protStart cold s).rect = s.rect ∧ (protStart cold s).bus = s.bus ∧
    (protStart cold s).gen = s.gen ∧ (protStart cold s).cal = s.cal ∧ (protStart cold s).alarm = s.alarm ∧
    (protStart cold s).store = s.store ∧ (protStart cold s).link = s.link := by
  simp [protStart]

@[simp] theorem calStart_frame (cold : Bool) (s : State) :
    (calStart cold s).powered = s.powered ∧ (calStart cold s).markerGood = s.markerGood ∧
    (calStart cold s).meas = s.meas ∧ (calStart cold s).sup = s.sup ∧ (calStart cold s).acct = s.acct ∧
    (calStart cold s).charge = s.charge ∧ (calStart cold s).prot = s.prot ∧ (calStart cold s).rect = s.rect ∧
    (calStart cold s).bus = s.bus ∧ (calStart cold s).gen = s.gen ∧ (calStart cold s).alarm = s.alarm ∧
    (calStart cold s).store = s.store ∧ (calStart cold s).link = s.link := by
  simp [calStart]

@[simp] theorem rectStart_frame (cold : Bool) (s : State) :
    (rectStart cold s).powered = s.powered ∧ (rectStart cold s).markerGood = s.markerGood ∧
    (rectStart cold s).meas = s.meas ∧ (rectStart cold s).sup = s.sup ∧ (rectStart cold s).acct = s.acct ∧
    (rectStart cold s).charge = s.charge ∧ (rectStart cold s).prot = s.prot ∧ (rectStart cold s).bus = s.bus ∧
    (rectStart cold s).gen = s.gen ∧ (rectStart cold s).cal = s.cal ∧ (rectStart cold s).alarm = s.alarm ∧
    (rectStart cold s).store = s.store ∧ (rectStart cold s).link = s.link := by
  simp [rectStart]

@[simp] theorem measStart_frame (cold blank : Bool) (p : Pins) (s : State) :
    (measStart cold blank p s).powered = s.powered ∧ (measStart cold blank p s).markerGood = s.markerGood ∧
    (measStart cold blank p s).sup = s.sup ∧ (measStart cold blank p s).acct = s.acct ∧
    (measStart cold blank p s).charge = s.charge ∧ (measStart cold blank p s).prot = s.prot ∧
    (measStart cold blank p s).rect = s.rect ∧ (measStart cold blank p s).bus = s.bus ∧
    (measStart cold blank p s).gen = s.gen ∧ (measStart cold blank p s).cal = s.cal ∧
    (measStart cold blank p s).alarm = s.alarm ∧ (measStart cold blank p s).store = s.store ∧
    (measStart cold blank p s).link = s.link := by
  simp [measStart]

@[simp] theorem genStart_frame (cold : Bool) (s : State) :
    (genStart cold s).powered = s.powered ∧ (genStart cold s).markerGood = s.markerGood ∧
    (genStart cold s).meas = s.meas ∧ (genStart cold s).sup = s.sup ∧ (genStart cold s).acct = s.acct ∧
    (genStart cold s).charge = s.charge ∧ (genStart cold s).prot = s.prot ∧ (genStart cold s).rect = s.rect ∧
    (genStart cold s).bus = s.bus ∧ (genStart cold s).cal = s.cal ∧ (genStart cold s).alarm = s.alarm ∧
    (genStart cold s).store = s.store ∧ (genStart cold s).link = s.link := by
  simp [genStart, closeAtStart]

@[simp] theorem acctStart_frame (cold : Bool) (s : State) :
    (acctStart cold s).powered = s.powered ∧ (acctStart cold s).markerGood = s.markerGood ∧
    (acctStart cold s).meas = s.meas ∧ (acctStart cold s).sup = s.sup ∧ (acctStart cold s).charge = s.charge ∧
    (acctStart cold s).prot = s.prot ∧ (acctStart cold s).rect = s.rect ∧ (acctStart cold s).bus = s.bus ∧
    (acctStart cold s).gen = s.gen ∧ (acctStart cold s).cal = s.cal ∧ (acctStart cold s).alarm = s.alarm ∧
    (acctStart cold s).store = s.store ∧ (acctStart cold s).link = s.link := by
  simp [acctStart]

@[simp] theorem chargeStart_frame (cold : Bool) (s : State) :
    (chargeStart cold s).powered = s.powered ∧ (chargeStart cold s).markerGood = s.markerGood ∧
    (chargeStart cold s).meas = s.meas ∧ (chargeStart cold s).sup = s.sup ∧ (chargeStart cold s).acct = s.acct ∧
    (chargeStart cold s).prot = s.prot ∧ (chargeStart cold s).rect = s.rect ∧ (chargeStart cold s).bus = s.bus ∧
    (chargeStart cold s).gen = s.gen ∧ (chargeStart cold s).cal = s.cal ∧ (chargeStart cold s).alarm = s.alarm ∧
    (chargeStart cold s).store = s.store ∧ (chargeStart cold s).link = s.link := by
  simp [chargeStart]

@[simp] theorem supStart_frame (cold : Bool) (cause : StartCause) (s : State) :
    (supStart cold cause s).powered = s.powered ∧ (supStart cold cause s).markerGood = s.markerGood ∧
    (supStart cold cause s).meas = s.meas ∧ (supStart cold cause s).acct = s.acct ∧
    (supStart cold cause s).charge = s.charge ∧ (supStart cold cause s).prot = s.prot ∧
    (supStart cold cause s).rect = s.rect ∧ (supStart cold cause s).bus = s.bus ∧
    (supStart cold cause s).gen = s.gen ∧ (supStart cold cause s).cal = s.cal ∧
    (supStart cold cause s).alarm = s.alarm ∧ (supStart cold cause s).store = s.store ∧
    (supStart cold cause s).link = s.link := by
  simp [supStart]

@[simp] theorem alarmStart_frame (cold : Bool) (s : State) :
    (alarmStart cold s).powered = s.powered ∧ (alarmStart cold s).markerGood = s.markerGood ∧
    (alarmStart cold s).meas = s.meas ∧ (alarmStart cold s).sup = s.sup ∧ (alarmStart cold s).acct = s.acct ∧
    (alarmStart cold s).charge = s.charge ∧ (alarmStart cold s).prot = s.prot ∧ (alarmStart cold s).rect = s.rect ∧
    (alarmStart cold s).bus = s.bus ∧ (alarmStart cold s).gen = s.gen ∧ (alarmStart cold s).cal = s.cal ∧
    (alarmStart cold s).store = s.store ∧ (alarmStart cold s).link = s.link := by
  simp [alarmStart]

/-! ## What each block's start brings to its own block -/

@[simp] theorem storeStart_latched (x : Store) : x.start.latched = x.start.work := rfl

/-- R95: with no module running Im is the rating. -/
theorem recomputeIm_rect_idle (s : State) (h : s.rect.running = []) :
    (recomputeIm s).rect = { s.rect with im := s.inForce 0 14 } := by
  simp [State.moduleLimit, State.nRun, h, State.rm]

/-- R113. -/
theorem rectStart_rect (cold : Bool) (s : State) :
    (rectStart cold s).rect =
      { slots := s.rect.slots.map (Slot.start cold s.stamp), running := [], queue := [], fitted := s.inForce 0 15
        spacing := 0, dwell := 0, settle := 0, rotation := if cold then 0 else s.rect.rotation
        rotationRequest := false, requestFreed := false, swap := none, lastSwap := none, upFormed := 0
        downFormed := 0, im := s.inForce 0 14 } := by
  unfold rectStart
  rw [recomputeIm_rect_idle _ rfl]
  rfl

theorem rectStart_slot (cold : Bool) (s : State) (i : Nat) :
    ((rectStart cold s).slot i).state = .absent ∧ ((rectStart cold s).slot i).answering = .unknown ∧
      ((rectStart cold s).slot i).faults = 0 ∧ ((rectStart cold s).slot i).data = none ∧
      ((rectStart cold s).slot i).hours = if cold then 0 else (s.slot i).hours := by
  simp only [State.slot, rectStart_rect, List.getD_eq_getElem?_getD, List.getElem?_map]
  cases s.rect.slots[i]? <;> simp [Slot.start, blankSlot]

theorem closeAtStart_gen (s : State) : ∃ log, (closeAtStart s).gen = { s.gen with log := log } := by
  unfold closeAtStart
  split
  · exact ⟨_, rfl⟩
  · exact ⟨s.gen.log, rfl⟩

/-- R151. -/
theorem genStart_gen (cold : Bool) (s : State) : ∃ log, (genStart cold s).gen =
    let failed := !cold && s.gen.machine == .failed
    { machine := if failed then .failed else .idle
      stateCount := 0, run := none
      failReason := if failed then s.gen.failReason else none
      rearmMinutes := if failed then s.gen.rearmMinutes else 0
      rearmSeconds := 0, restCount := 0, stopHold := none, mainsFailTimer := some 0, spent := false, busCount := 0
      fuelLow := false, fuelEmpty := false, exercise := none, log := log } := by
  obtain ⟨log, hlog⟩ := closeAtStart_gen s
  simp only [genStart, State.onGen_gen, hlog]
  exact ⟨_, rfl⟩

/-- R3, R8 to R10: the senses, the timers and the fuel level kept. -/
theorem measStart_meas (cold blank : Bool) (p : Pins) (s : State) :
    let m := (measStart cold blank p s).meas
    m.mainsSense = p.mainsSense ∧ m.mainsQualified = false ∧ m.mainsTimer = timerIf p.mainsSense ∧
      m.genSense = p.genSense ∧ m.genPresent = false ∧ m.genTimer = timerIf p.genSense ∧
      m.lastFuel = (if cold then 0 else s.meas.lastFuel) ∧ m.strings = startChannels blank s ∧
      m.therms = s.meas.therms.map (Channel.start blank) ∧ m.inputs = (List.range 8).map (startInput s p) := by
  simp only [measStart, State.onMeas_meas, startFuel]
  split <;> simp

theorem timerIf_isSome (runs : Bool) : (timerIf runs).isSome = runs := by cases runs <;> rfl

/-- R3: a channel at a start has neither hold nor last value. -/
theorem channelStart_forgets (blank : Bool) (c : Channel) : (c.start blank).last = none ∧ (c.start blank).held = 0 := by
  cases blank <;> exact ⟨rfl, rfl⟩

theorem startChannels_getD (blank : Bool) (s : State) (i : Nat) (hi : i < 4) :
    (startChannels blank s).getD i blankChannel =
      if i < s.stringsFitted then (s.stringChannel i).start blank else unfittedChannel := by
  simp [startChannels, hi]

theorem measStart_channels (cold blank : Bool) (p : Pins) (s : State) (i : Nat) (hi : i < 4) :
    let t := measStart cold blank p s
    (t.stringChannel i).last = none ∧ (t.stringChannel i).held = 0 ∧ (t.therm i).last = none ∧ (t.therm i).held = 0 ∧
      (s.stringsFitted ≤ i → t.stringChannel i = unfittedChannel) := by
  obtain ⟨-, -, -, -, -, -, -, hstrings, htherms, -⟩ := measStart_meas cold blank p s
  have therm : ((measStart cold blank p s).therm i).last = none ∧ ((measStart cold blank p s).therm i).held = 0 := by
    simp only [State.therm, htherms, List.getD_eq_getElem?_getD, List.getElem?_map]
    cases s.meas.therms[i]? with
    | none => exact ⟨rfl, rfl⟩
    | some c => exact channelStart_forgets blank c
  simp only [State.stringChannel, hstrings, startChannels_getD blank s i hi]
  split
  · next h => exact ⟨(channelStart_forgets ..).1, (channelStart_forgets ..).2, therm.1, therm.2, fun h' => by omega⟩
  · exact ⟨rfl, rfl, therm.1, therm.2, fun _ => rfl⟩

theorem measStart_input (cold blank : Bool) (p : Pins) (s : State) (n : Nat) (hn : n < 8) :
    ((measStart cold blank p s).input n).active = false ∧
      ((measStart cold blank p s).input n).level = p.levels.getD n false := by
  obtain ⟨-, -, -, -, -, -, -, -, -, hinputs⟩ := measStart_meas cold blank p s
  simp [State.input, hinputs, hn, startInput]

/-- R71. -/
theorem chargeStart_charge (cold : Bool) (s : State) : ∃ setpoint ibl, (chargeStart cold s).charge =
    { stage := .discharge, setpoint := setpoint, ibl := ibl, tb := s.inForce 1 6, tc := compTemp (s.inForce 1 6)
      latch := false, absorbCount := 0, tailCount := 0, absorbTimer := 0, armed := false
      eq := s.charge.eq.start cold, test := none } := ⟨_, _, rfl⟩

/-- R15, R17, R21: with mains NOT_QUALIFIED and the machine not ONLINE. -/
theorem supStart_sup (cold : Bool) (cause : StartCause) (v : State) (ho : v.online = false)
    (hq : v.meas.mainsQualified = false) : (supStart cold cause v).sup =
      { mode := if v.prot.bpd = .opened then .protect else .battery, ac := false, hold := none
        startKind := if cold then .cold else .warm, startCause := cause } := by
  simp [supStart, deriveMode, deriveAc, ho, hq]

/-- R126: the links and the first exchange. -/
theorem busStart_linkRec (s : State) (i : Nat) (hi : i < 12) :
    (busStart s).linkRec i = if i < s.inForce 0 15 then some unheardLink else none := by
  simp only [busStart, beginExchange, State.onBus_bus, State.linkRec, markRepeat]
  simp [hi]
  split <;> rfl

theorem busStart_exchange (s : State) : (busStart s).bus.exchange =
    { slot := 0, tag := 0, run := (s.slot 0).state.commanded, setpoint := s.charge.setpoint, limit := s.rect.im
      phase := .sending, bytes := [], cut := false, trailing := false, orphan := false } := rfl

/-- R179, R180: the alarm unit after a start. -/
theorem alarmStart_alarm (cold : Bool) (s : State) : (alarmStart cold s).alarm =
    { records := s.alarm.records.map (AlarmRec.start cold)
      notices := [{ kind := .start, subject := s.sup.startKind.code, value := startValue s, time := s.stamp }]
      resync := false, evaluated := false, lampLit := true } := by
  unfold alarmStart
  rw [post_room _ _ _ _ (by simp)]
  rfl

theorem alarmStart_record (cold : Bool) (s : State) (c : Nat) :
    ((alarmStart cold s).record c).state = (if cold then .idle else (s.record c).state) ∧
      ((alarmStart cold s).record c).occurrences = if cold then 0 else (s.record c).occurrences := by
  simp only [State.record, alarmStart_alarm, List.getD_eq_getElem?_getD, List.getElem?_map]
  cases s.alarm.records[c]? <;> cases cold <;> exact ⟨rfl, rfl⟩

/-! ## The stages of a start -/

/-- The store, the calendar, the protection unit and the scheduler have made their start. -/
def rosterStarted (s : State) : State :=
  let cold := !s.markerGood
  rectStart cold (protStart cold (calStart cold
    (({ s with powered := true, markerGood := true } : State).onStore Store.start)))

/-- So have the measurement unit and the generator controller. -/
def supplyStarted (blank : Bool) (p : Pins) (s : State) : State :=
  let cold := !s.markerGood
  genStart cold (measStart cold blank p (rosterStarted s))

/-- So have the account unit, the charge controller and the module bus controller. -/
def batteryStarted (blank : Bool) (p : Pins) (s : State) : State :=
  let cold := !s.markerGood
  busStart (chargeStart cold (acctStart cold (supplyStarted blank p s)))

/-- Every block has made its start, and no condition is reported yet. -/
def blocksStarted (cause : StartCause) (blank : Bool) (p : Pins) (s : State) : State :=
  let cold := !s.markerGood
  alarmStart cold (linkStart p (supStart cold cause (batteryStarted blank p s)))

/-- The state in which the start gates are evaluated: every condition is reported and a missed exercise withdrawn. -/
def conditionsReported (cause : StartCause) (blank : Bool) (p : Pins) (s : State) : State :=
  exerciseStart (reportAll (blocksStarted cause blank p s))

theorem makeStart_eq (cause : StartCause) (blank : Bool) (p : Pins) (s : State) :
    makeStart cause blank p s = evaluateStart (conditionsReported cause blank p s) := rfl

/-- R193, log 30: a loss of supply before the start leaves nothing for it to find. -/
theorem makeStart_loseSupply (cause : StartCause) (blank : Bool) (p : Pins) (s : State) :
    makeStart cause blank p (loseSupply s) = makeStart cause blank p s := by
  have hbase : ({ loseSupply s with powered := true, markerGood := true } : State).onStore Store.start =
      ({ s with powered := true, markerGood := true } : State).onStore Store.start :=
    congrArg (fun x => ({ s with powered := true, markerGood := true, store := x } : State))
      (storeStart_withWrite none s.store)
  have hmark : (loseSupply s).markerGood = s.markerGood := rfl
  unfold makeStart
  rw [hbase, hmark]

/-! ## What the stages bring -/

section
variable (cause : StartCause) (blank : Bool) (p : Pins) (s : State)

@[simp] theorem rosterStarted_frame :
    (rosterStarted s).powered = true ∧ (rosterStarted s).markerGood = true ∧ (rosterStarted s).meas = s.meas ∧
    (rosterStarted s).charge = s.charge ∧ (rosterStarted s).gen = s.gen ∧ (rosterStarted s).alarm = s.alarm ∧
    (rosterStarted s).store = s.store.start := by
  simp [rosterStarted]

@[simp] theorem supplyStarted_frame :
    (supplyStarted blank p s).powered = true ∧ (supplyStarted blank p s).markerGood = true ∧
    (supplyStarted blank p s).prot = (rosterStarted s).prot ∧ (supplyStarted blank p s).rect = (rosterStarted s).rect ∧
    (supplyStarted blank p s).cal = (rosterStarted s).cal ∧ (supplyStarted blank p s).charge = s.charge ∧
    (supplyStarted blank p s).alarm = s.alarm ∧ (supplyStarted blank p s).store = s.store.start := by
  simp [supplyStarted]

@[simp] theorem batteryStarted_frame :
    (batteryStarted blank p s).powered = true ∧ (batteryStarted blank p s).markerGood = true ∧
    (batteryStarted blank p s).meas = (supplyStarted blank p s).meas ∧
    (batteryStarted blank p s).gen = (supplyStarted blank p s).gen ∧
    (batteryStarted blank p s).prot = (rosterStarted s).prot ∧
    (batteryStarted blank p s).rect = (rosterStarted s).rect ∧ (batteryStarted blank p s).cal = (rosterStarted s).cal ∧
    (batteryStarted blank p s).alarm = s.alarm ∧ (batteryStarted blank p s).store = s.store.start := by
  simp [batteryStarted]

@[simp] theorem blocksStarted_frame :
    (blocksStarted cause blank p s).powered = true ∧ (blocksStarted cause blank p s).markerGood = true ∧
    (blocksStarted cause blank p s).meas = (supplyStarted blank p s).meas ∧
    (blocksStarted cause blank p s).gen = (supplyStarted blank p s).gen ∧
    (blocksStarted cause blank p s).acct = (batteryStarted blank p s).acct ∧
    (blocksStarted cause blank p s).charge = (batteryStarted blank p s).charge ∧
    (blocksStarted cause blank p s).bus = (batteryStarted blank p s).bus ∧
    (blocksStarted cause blank p s).prot = (rosterStarted s).prot ∧
    (blocksStarted cause blank p s).rect = (rosterStarted s).rect ∧
    (blocksStarted cause blank p s).cal = (rosterStarted s).cal ∧
    (blocksStarted cause blank p s).store = s.store.start := by
  simp [blocksStarted]

/-- R86. -/
theorem rosterStarted_prot : (rosterStarted s).prot =
    { nel := if s.markerGood then s.prot.nel else .closed
      shedCause := if s.markerGood then s.prot.shedCause else none
      bpd := if s.markerGood then s.prot.bpd else .closed
      shedCount := 0, nelCount := 0, disconnectCount := 0, bpdCount := 0, dischargeCount := 0 } := by
  cases h : s.markerGood <;> simp [rosterStarted, protStart, h]

/-- R163. -/
theorem rosterStarted_cal : (rosterStarted s).cal =
    if s.markerGood then { s.cal with runMark := false, handAgain := false } else coldCalendar := by
  cases h : s.markerGood <;> simp [rosterStarted, calStart, h]

/-- R113. -/
theorem rosterStarted_rect : (rosterStarted s).rect =
    { slots := (rosterStarted s).rect.slots, running := [], queue := [], fitted := (rosterStarted s).inForce 0 15
      spacing := 0, dwell := 0, settle := 0, rotation := if s.markerGood then s.rect.rotation else 0
      rotationRequest := false, requestFreed := false, swap := none, lastSwap := none, upFormed := 0
      downFormed := 0, im := (rosterStarted s).inForce 0 14 } := by
  cases h : s.markerGood <;> simp [rosterStarted, rectStart_rect, State.inForce, h]

theorem rosterStarted_slot (i : Nat) : 
    let x := (rosterStarted s).slot i
    x.state = .absent ∧ x.answering = .unknown ∧ x.faults = 0 ∧ x.data = none ∧
      x.hours = if s.markerGood then (s.slot i).hours else 0 := by
  have h := rectStart_slot (!s.markerGood) (protStart (!s.markerGood) (calStart (!s.markerGood)
    (({ s with powered := true, markerGood := true } : State).onStore Store.start))) i
  cases hm : s.markerGood <;> simpa [rosterStarted, State.slot, hm] using h

/-- R151. -/
theorem supplyStarted_machine : (supplyStarted blank p s).gen.machine =
    if s.markerGood ∧ s.gen.machine = .failed then .failed else .idle := by
  obtain ⟨log, h⟩ := genStart_gen (!s.markerGood) (measStart (!s.markerGood) blank p (rosterStarted s))
  simp only [supplyStarted, h]
  simp

theorem supplyStarted_meas : (supplyStarted blank p s).meas =
    (measStart (!s.markerGood) blank p (rosterStarted s)).meas := by simp [supplyStarted]

theorem supplyStarted_offline : (supplyStarted blank p s).online = false := by
  simp only [State.online, supplyStarted_machine]
  split <;> rfl

theorem batteryStarted_charge : ∃ setpoint ibl, (batteryStarted blank p s).charge =
    { stage := .discharge, setpoint := setpoint, ibl := ibl, tb := (rosterStarted s).inForce 1 6
      tc := compTemp ((rosterStarted s).inForce 1 6), latch := false, absorbCount := 0, tailCount := 0
      absorbTimer := 0, armed := false, eq := s.charge.eq.start (!s.markerGood), test := none } := by
  obtain ⟨setpoint, ibl, h⟩ := chargeStart_charge (!s.markerGood) (acctStart (!s.markerGood) (supplyStarted blank p s))
  refine ⟨setpoint, ibl, ?_⟩
  simpa [batteryStarted, State.inForce] using h

theorem supplyStarted_unqualified : (supplyStarted blank p s).meas.mainsQualified = false := by
  obtain ⟨-, unqualified, -⟩ := measStart_meas (!s.markerGood) blank p (rosterStarted s)
  rw [supplyStarted_meas, unqualified]

theorem blocksStarted_sup : (blocksStarted cause blank p s).sup =
    { mode := if (rosterStarted s).prot.bpd = .opened then .protect else .battery, ac := false, hold := none
      startKind := if s.markerGood then .warm else .cold, startCause := cause } := by
  have hsup := supStart_sup (!s.markerGood) cause (batteryStarted blank p s)
    (by simpa [State.online] using supplyStarted_offline blank p s) (by simpa using supplyStarted_unqualified blank p s)
  cases hm : s.markerGood <;> simpa [blocksStarted, hm] using hsup

/-- R198, R207. -/
theorem blocksStarted_link : (blocksStarted cause blank p s).link =
    { address := (strapAddress p.strapA p.strapB).getD 240, strapFault := (strapAddress p.strapA p.strapB).isNone
      rate := (blocksStarted cause blank p s).now 7 36, receiver := .deaf, run := [], inHand := none, reply := none
      overrun := false, snapshot := none, restartDue := false } := by
  simp [blocksStarted, linkStart, State.now]

/-- R179, R180. -/
theorem blocksStarted_notices : (blocksStarted cause blank p s).alarm.notices =
    [{ kind := .start, subject := if s.markerGood then 0 else 1
       value := 256 * cause.code + (if (strapAddress p.strapA p.strapB).isNone then 1 else 0) +
         (if (rosterStarted s).cal.valid then 2 else 0)
       time := (rosterStarted s).stamp }] := by
  have hsup := blocksStarted_sup cause blank p s
  have hlink := blocksStarted_link cause blank p s
  simp only [blocksStarted, alarmStart_frame] at hsup hlink
  simp only [blocksStarted, alarmStart_alarm, startValue, hsup, hlink, bitAt, State.stamp]
  cases s.markerGood <;> simp [StartKind.code]

theorem blocksStarted_unevaluated :
    (blocksStarted cause blank p s).alarm.resync = false ∧ (blocksStarted cause blank p s).alarm.evaluated = false := by
  simp only [blocksStarted, alarmStart_alarm, and_self]

theorem blocksStarted_record (c : Nat) :
    ((blocksStarted cause blank p s).record c).state = (if s.markerGood then (s.record c).state else .idle) ∧
      ((blocksStarted cause blank p s).record c).occurrences =
        if s.markerGood then (s.record c).occurrences else 0 := by
  have h := alarmStart_record (!s.markerGood)
    (linkStart p (supStart (!s.markerGood) cause (batteryStarted blank p s))) c
  cases hm : s.markerGood <;> simpa [blocksStarted, State.record, hm] using h

theorem batteryStarted_linkRec (i : Nat) (hi : i < 12) :
    (batteryStarted blank p s).linkRec i = if i < (rosterStarted s).inForce 0 15 then some unheardLink else none := by
  have h := busStart_linkRec (chargeStart (!s.markerGood) (acctStart (!s.markerGood) (supplyStarted blank p s))) i hi
  simpa [batteryStarted, State.inForce] using h

/-- R126. -/
theorem batteryStarted_exchange : (batteryStarted blank p s).bus.exchange =
    { slot := 0, tag := 0, run := false, setpoint := (batteryStarted blank p s).charge.setpoint
      limit := (rosterStarted s).rect.im, phase := .sending, bytes := [], cut := false, trailing := false
      orphan := false } := by
  obtain ⟨absent, -⟩ := rosterStarted_slot s 0
  have idle : ((rosterStarted s).slot 0).state.commanded = false := by rw [absent]; rfl
  simpa [batteryStarted, busStart_exchange, State.slot] using idle

/-! ## The whole start -/

theorem conditionsReported_quiet :
    (blocksStarted cause blank p s).alarm.Quiet (conditionsReported cause blank p s).alarm := by
  have reported := reportAll_quiet _ (blocksStarted_unevaluated cause blank p s).2
  exact reported.trans (exerciseStart_quiet _ reported.evaluated)

theorem conditionsReported_gen : ∃ exercise, (conditionsReported cause blank p s).gen =
    { (supplyStarted blank p s).gen with exercise := exercise } := by
  obtain ⟨exercise, h⟩ := exerciseStart_gen (reportAll (blocksStarted cause blank p s))
  exact ⟨exercise, by simpa [conditionsReported] using h⟩

theorem conditionsReported_clock :
    (conditionsReported cause blank p s).stamp = (rosterStarted s).stamp ∧
      (conditionsReported cause blank p s).cal.valid = (rosterStarted s).cal.valid ∧
      (conditionsReported cause blank p s).cal.weekday = (rosterStarted s).cal.weekday := by
  have h := exerciseStart_clock (reportAll (blocksStarted cause blank p s))
  simpa [State.stamp, conditionsReported] using h

/-- R163: with no exercise owed nothing is missed. -/
theorem conditionsReported_cal_cold (h : s.markerGood = false) :
    (conditionsReported cause blank p s).cal = coldCalendar := by
  have cold : (rosterStarted s).cal = coldCalendar := by simp [rosterStarted_cal, h]
  have none_owed : (reportAll (blocksStarted cause blank p s)).cal.exState = .none := by simp [cold, coldCalendar]
  rw [conditionsReported, exerciseStart_cal_none _ none_owed]
  simp [cold, coldCalendar]

theorem conditionsReported_starting : (conditionsReported cause blank p s).Starting where
  offline := by
    obtain ⟨exercise, hgen⟩ := conditionsReported_gen cause blank p s
    have offline := supplyStarted_offline blank p s
    simpa only [State.online, hgen] using offline
  absent := by
    have h : (conditionsReported cause blank p s).meas = (supplyStarted blank p s).meas := by simp [conditionsReported]
    obtain ⟨-, -, -, -, absent, -⟩ := measStart_meas (!s.markerGood) blank p (rosterStarted s)
    rw [h, supplyStarted_meas, absent]
  unevaluated := (conditionsReported_quiet cause blank p s).evaluated

theorem makeStart_begins :
    RunBeginsIn (conditionsReported cause blank p s) (makeStart cause blank p s) := by
  rw [makeStart_eq]
  refine evaluateStart_runBeginsIn _ (conditionsReported_starting cause blank p s) ?_
  rw [(conditionsReported_quiet cause blank p s).notices, blocksStarted_notices]
  exact (by decide : 1 < 32)

@[simp] theorem makeStart_frame :
    (makeStart cause blank p s).powered = true ∧ (makeStart cause blank p s).markerGood = true ∧
    (makeStart cause blank p s).meas = (supplyStarted blank p s).meas ∧
    (makeStart cause blank p s).sup = (blocksStarted cause blank p s).sup ∧
    (makeStart cause blank p s).acct = (batteryStarted blank p s).acct ∧
    (makeStart cause blank p s).charge = (batteryStarted blank p s).charge ∧
    (makeStart cause blank p s).prot = (rosterStarted s).prot ∧
    (makeStart cause blank p s).rect = (rosterStarted s).rect ∧
    (makeStart cause blank p s).bus = (batteryStarted blank p s).bus ∧
    (makeStart cause blank p s).store = s.store.start ∧
    (makeStart cause blank p s).link = (blocksStarted cause blank p s).link := by
  simp [(makeStart_begins cause blank p s).frame, conditionsReported]

/-- The settings a block reads at its start are those that stand after it. -/
theorem rosterStarted_inForce (g i : Nat) :
    (rosterStarted s).inForce g i = (makeStart cause blank p s).now g i := by
  simp [State.inForce, State.now]

/-- R151: the generator controller as the gates are evaluated. -/
theorem conditionsReported_gen_eq : ∃ log exercise, (conditionsReported cause blank p s).gen =
    let failed := s.markerGood && s.gen.machine == .failed
    { machine := if failed then .failed else .idle
      stateCount := 0, run := none
      failReason := if failed then s.gen.failReason else none
      rearmMinutes := if failed then s.gen.rearmMinutes else 0
      rearmSeconds := 0, restCount := 0, stopHold := none, mainsFailTimer := some 0, spent := false, busCount := 0
      fuelLow := false, fuelEmpty := false, exercise := exercise, log := log } := by
  obtain ⟨log, hstart⟩ := genStart_gen (!s.markerGood) (measStart (!s.markerGood) blank p (rosterStarted s))
  obtain ⟨exercise, hgen⟩ := conditionsReported_gen cause blank p s
  refine ⟨log, exercise, ?_⟩
  rw [hgen]
  simp only [supplyStarted, hstart]
  simp

theorem makeStart_gen :
    let g := (makeStart cause blank p s).gen
    g.mainsFailTimer = some 0 ∧ g.spent = false ∧ g.stopHold = none ∧ g.fuelLow = false ∧ g.fuelEmpty = false ∧
      g.busCount = 0 := by
  obtain ⟨log, exercise, hgen⟩ := conditionsReported_gen_eq cause blank p s
  have h := (makeStart_begins cause blank p s).gen
  rw [h, hgen]
  exact ⟨rfl, rfl, rfl, rfl, rfl, rfl⟩

/-- R129: with a minimum rest to come no run begins. -/
theorem makeStart_machine (h : 0 < (makeStart cause blank p s).now 3 20) :
    (makeStart cause blank p s).gen.machine = (if s.markerGood ∧ s.gen.machine = .failed then .failed else .idle) ∧
      (makeStart cause blank p s).gen.run = none := by
  obtain ⟨log, exercise, hgen⟩ := conditionsReported_gen_eq cause blank p s
  have minRest : (conditionsReported cause blank p s).minRest = (makeStart cause blank p s).now 3 20 * 60 := by
    simp [State.minRest, State.inForce, State.now, conditionsReported]
  have shut : gatesOpen (conditionsReported cause blank p s) = false := by
    have resting : ¬ (conditionsReported cause blank p s).minRest ≤ 0 := by omega
    simp [gatesOpen, hgen, resting]
  rw [makeStart_eq, evaluateStart_shut _ shut, hgen]
  simp

/-- R163: the time of day goes on over a start. -/
theorem makeStart_clock :
    (makeStart cause blank p s).stamp = (rosterStarted s).stamp ∧
      (makeStart cause blank p s).cal.valid = (rosterStarted s).cal.valid ∧
      (makeStart cause blank p s).cal.weekday = (rosterStarted s).cal.weekday := by
  obtain ⟨stamp, valid, weekday⟩ := clock_of_runMark _ _ (makeStart_begins cause blank p s).cal
  obtain ⟨stamp', valid', weekday'⟩ := conditionsReported_clock cause blank p s
  exact ⟨stamp.trans stamp', valid.trans valid', weekday.trans weekday'⟩

/-- R180: the records after a start. -/
theorem makeStart_record (c : Nat) :
    ((makeStart cause blank p s).record c).state = (if s.markerGood then (s.record c).state else .idle) ∧
      ((makeStart cause blank p s).record c).occurrences = if s.markerGood then (s.record c).occurrences else 0 := by
  obtain ⟨l, begun⟩ := (makeStart_begins cause blank p s).alarm
  obtain ⟨state, occurrences⟩ := begun.records c
  obtain ⟨state', occurrences'⟩ := (conditionsReported_quiet cause blank p s).records c
  have started := blocksStarted_record cause blank p s c
  simp only [State.record] at started ⊢
  rw [state, state', occurrences, occurrences']
  exact started

/-- R180: the START notice stays at the head of the queue. -/
theorem makeStart_notices :
    (makeStart cause blank p s).alarm.notices.head? = (blocksStarted cause blank p s).alarm.notices.head? ∧
      (makeStart cause blank p s).alarm.resync = false ∧ (makeStart cause blank p s).alarm.evaluated = false := by
  obtain ⟨l, begun⟩ := (makeStart_begins cause blank p s).alarm
  have reported := conditionsReported_quiet cause blank p s
  have blank_unit := (blocksStarted_unevaluated cause blank p s).1
  refine ⟨?_, ?_, begun.evaluated⟩
  · rw [begun.notices, reported.notices, blocksStarted_notices]
    rfl
  · rw [begun.resync, reported.resync, blank_unit]

end

/-- R163: the calendar of a cold start. -/
theorem makeStart_cal_cold (cause : StartCause) (blank : Bool) (p : Pins) (s : State) (h : s.markerGood = false) :
    (makeStart cause blank p s).cal = { coldCalendar with runMark := (makeStart cause blank p s).cal.runMark } := by
  rw [← conditionsReported_cal_cold cause blank p s h]
  exact (makeStart_begins cause blank p s).cal

/-- Every clause of `Started`, from what the stages of the start brought to its block. -/
theorem makeStart_started (cause : StartCause) (blank : Bool) (p : Pins) (s : State) :
    Started cause p s (makeStart cause blank p s) where
  supply := by simp
  kind := by simp [blocksStarted_sup]
  mode := by simp [blocksStarted_sup]
  hold := by simp [blocksStarted_sup]
  contactors := by simp [rosterStarted_prot]
  stage := by
    obtain ⟨setpoint, ibl, h⟩ := batteryStarted_charge blank p s
    rw [rosterStarted_inForce cause blank p s] at h
    simp only [makeStart_frame, h, and_self]
  equalizeCold hm := by
    obtain ⟨setpoint, ibl, h⟩ := batteryStarted_charge blank p s
    simp [h, EqRec.start, hm]
  equalizeWarm hm := by
    obtain ⟨setpoint, ibl, h⟩ := batteryStarted_charge blank p s
    simp only [makeStart_frame, h, EqRec.start, hm]
    cases s.charge.eq with
    | mk state => cases state <;> simp
  qualification := by
    obtain ⟨mains, unqualified, mainsTimer, gen, absent, genTimer, -⟩ :=
      measStart_meas (!s.markerGood) blank p (rosterStarted s)
    simp [supplyStarted_meas, mains, unqualified, mainsTimer, gen, absent, genTimer, timerIf_isSome]
  inputs n hn := by
    have h := measStart_input (!s.markerGood) blank p (rosterStarted s) n hn
    simpa [State.input, supplyStarted_meas] using h
  fuel := by
    obtain ⟨-, -, -, -, -, -, fuel, -⟩ := measStart_meas (!s.markerGood) blank p (rosterStarted s)
    simp only [makeStart_frame, supplyStarted_meas, fuel, rosterStarted_frame]
    cases s.markerGood <;> rfl
  channels i hi := by
    obtain ⟨last, held, last', held', -⟩ := measStart_channels (!s.markerGood) blank p (rosterStarted s) i hi
    simp only [State.stringChannel, State.therm, makeStart_frame, supplyStarted_meas]
    exact ⟨last, held, last', held'⟩
  unfitted i hi h := by
    obtain ⟨-, -, -, -, unfitted⟩ := measStart_channels (!s.markerGood) blank p (rosterStarted s) i hi
    simp only [State.stringChannel, makeStart_frame, supplyStarted_meas]
    exact unfitted (by rw [State.stringsFitted, rosterStarted_inForce cause blank p s]; exact h)
  roster := by
    have h := rosterStarted_rect s
    rw [rosterStarted_inForce cause blank p s, rosterStarted_inForce cause blank p s] at h
    simp only [makeStart_frame]
    rw [h]
    simp
  slots i hi := by
    obtain ⟨state, answering, faults, data, hours⟩ := rosterStarted_slot s i
    have same : (makeStart cause blank p s).slot i = (rosterStarted s).slot i := by simp [State.slot]
    rw [same]
    exact ⟨state, answering, faults, data, hours⟩
  links i hi := by
    have h := batteryStarted_linkRec blank p s i hi
    rw [rosterStarted_inForce cause blank p s] at h
    simpa [State.linkRec] using h
  exchange := by simp [batteryStarted_exchange]
  generator := makeStart_gen cause blank p s
  machine := makeStart_machine cause blank p s
  clockWarm hm := by
    have h := makeStart_clock cause blank p s
    simp only [State.stamp, rosterStarted_cal, hm, if_true] at h
    exact h
  clockCold hm := by
    have cal := makeStart_cal_cold cause blank p s hm
    obtain ⟨stamp, -⟩ := clock_of_runMark _ _ cal
    refine ⟨stamp, ?_⟩
    rw [cal]
    exact ⟨rfl, rfl, rfl, rfl, rfl⟩
  records c _ := makeStart_record cause blank p s c
  notices := by
    obtain ⟨head, resync, evaluated⟩ := makeStart_notices cause blank p s
    obtain ⟨stamp, valid, -⟩ := makeStart_clock cause blank p s
    have strap : (makeStart cause blank p s).link.strapFault = (strapAddress p.strapA p.strapB).isNone := by
      simp [blocksStarted_link]
    refine ⟨?_, resync, evaluated⟩
    rw [head, blocksStarted_notices, strap, stamp, valid]
    rfl
  locks := by simp [Store.start]
  groups g hg := by simpa [State.group] using storeStart_group s.store g hg
  modes := by simpa using storeStart_modes s.store
  station := by simp [blocksStarted_link, State.now]
  receiver := by simp [blocksStarted_link]

end Sys2Proof.Machine
end

section
/-! The statements about the scope of the part: its starts and its supply. -/

namespace Sys2Proof.Machine

/-- A request without the supply finds no link unit to take it (R1). -/
theorem onRequest_off (kind : Byte) (i : Instr) (s : State) (h : s.powered = false) : onRequest kind i s = .next s :=
  whenPowered_off s (fun s => if s.hears then takeRequest kind (serveRequest i) s else discardByte s) h

end Sys2Proof.Machine

open Sys2Proof Sys2Proof.Machine

/-- Settles O3: every command but the three exceptions is one that waits for the supply, the requests among them. -/
theorem nothingMovesWithoutSupply : Obligations.NothingMovesWithoutSupply := by
  intro i s h
  cases i with
  | powerReturnStart => trivial
  | calendarTick => trivial
  | backupCellFailure => trivial
  | status | readMeasure | readString | readRoster | readAlarms | nextNotice | readRunlog | readClock | readSettings
  | readSignature | snapshot | setClock | alignClock | ackAlarm | resetLatch | hold | release | genStart | genStop
  | equalizeStart | equalizeStop | capacityTestStart | capacityTestAbort | rectifierLockout | rectifierRestore
  | rotateNow | unlock | lockGroupRelock | lockGroupSeal | lockGroupMode | writeSettings | restart =>
    exact onRequest_off _ _ s h
  | _ => exact whenPowered_off s _ h

/-- Settles O14, from the supply rules of the two commands. -/
theorem supplyLossAndCellFailure : Obligations.SupplyLossAndCellFailure := by
  intro s
  refine ⟨fun on => whenPowered_on s loseSupply on, fun off => ?_, fun on => ?_⟩
  · exact congrArg Host.Outcome.next (if_neg (by simp [off]))
  · exact congrArg Host.Outcome.next (if_pos on)

/-- Settles O12: all three are `makeStart`, which is `Started` with and without a loss of supply before it. -/
theorem startsBringTheirState : Obligations.StartsBringTheirState := by
  intro p s
  refine ⟨⟨_, rfl, ?_⟩, fun on => ⟨_, whenPowered_on s _ on, ?_⟩, fun on due reply => ?_, fun on idle => ?_⟩
  · rw [makeStart_loseSupply]
    exact makeStart_started .supplyReturned true p s
  · exact makeStart_started .resetPin false p s
  · have replying : restartReplying s = true := by simp [restartReplying, due, Option.isSome_iff_ne_none, reply]
    refine ⟨makeStart .restart false p s, ?_, makeStart_started .restart false p s⟩
    exact (whenPowered_on s _ on).trans (congrArg Host.Outcome.next (if_pos replying))
  · have silent : restartReplying s ≠ true := by
      rcases idle with h | h <;> simp [restartReplying, h]
    exact (whenPowered_on s _ on).trans (congrArg Host.Outcome.next (if_neg silent))
end

section
/-! SUPPORT. What the operations of the blocks leave of the plant mode, its inputs, the hold, the clock and the alarm
unit, and that they keep the mode derived (R15) and the stage fitting it (R45). -/

namespace Sys2Proof.Machine

/-! ## The alarm unit under reports of given codes -/

/-- From `s` to `t` the alarm unit has taken notices and reports of conditions among `codes` alone. -/
structure AlarmsWithin (codes : List Nat) (s t : State) : Prop where
  record : ∀ c, c ∉ codes → t.record c = s.record c
  length : t.alarm.records.length = s.alarm.records.length
  evaluated : t.alarm.evaluated = s.alarm.evaluated
  notices : s.alarm.notices <+: t.alarm.notices

theorem AlarmsWithin.of_eq {codes : List Nat} {s t : State} (h : t.alarm = s.alarm) : AlarmsWithin codes s t where
  record c _ := by simp [State.record, h]
  length := by rw [h]
  evaluated := by rw [h]
  notices := by rw [h]

theorem AlarmsWithin.trans {codes : List Nat} {s t u : State} (h₁ : AlarmsWithin codes s t)
    (h₂ : AlarmsWithin codes t u) : AlarmsWithin codes s u where
  record c hc := (h₂.record c hc).trans (h₁.record c hc)
  length := h₂.length.trans h₁.length
  evaluated := h₂.evaluated.trans h₁.evaluated
  notices := h₁.notices.trans h₂.notices

theorem AlarmsWithin.mono {codes more : List Nat} {s t : State} (h : AlarmsWithin codes s t) (hc : codes ⊆ more) :
    AlarmsWithin more s t :=
  { h with record := fun c hm => h.record c fun hn => hm (hc hn) }

theorem post_within (codes : List Nat) (kind : NoticeKind) (subject value : Nat) (s : State) :
    AlarmsWithin codes s (post kind subject value s) where
  record c _ := post_record kind subject value c s
  length := by simp
  evaluated := by simp
  notices := post_prefix kind subject value s

theorem report_within {codes : List Nat} (c : Nat) (v : Bool) (s : State) (hc : c ∈ codes) :
    AlarmsWithin codes s (report c v s) where
  record d hd := report_record_ne c d v s fun e => hd (e ▸ hc)
  length := report_length c v s
  evaluated := report_evaluated c v s
  notices := report_prefix c v s

/-! ## Operations that leave the plant mode and its inputs -/

/-- From `s` to `t` the source supervisor, the measurements, the calendar, the BPD and the generator machine stand, and
the alarm unit has taken reports of `codes` alone. -/
structure Stands (codes : List Nat) (s t : State) : Prop extends AlarmsWithin codes s t where
  sup : t.sup = s.sup
  meas : t.meas = s.meas
  cal : t.cal = s.cal
  bpd : t.prot.bpd = s.prot.bpd
  machine : t.gen.machine = s.gen.machine

theorem Stands.of_eq {codes : List Nat} {s t : State}
    (h : t.alarm = s.alarm ∧ t.sup = s.sup ∧ t.meas = s.meas ∧ t.cal = s.cal ∧ t.prot.bpd = s.prot.bpd ∧
      t.gen.machine = s.gen.machine) : Stands codes s t :=
  let ⟨alarm, sup, meas, cal, bpd, machine⟩ := h
  ⟨.of_eq alarm, sup, meas, cal, bpd, machine⟩

theorem Stands.refl {codes : List Nat} (s : State) : Stands codes s s := 
  .of_eq ⟨rfl, rfl, rfl, rfl, rfl, rfl⟩

theorem Stands.trans {codes : List Nat} {s t u : State} (h₁ : Stands codes s t) (h₂ : Stands codes t u) :
    Stands codes s u :=
  ⟨h₁.toAlarmsWithin.trans h₂.toAlarmsWithin, h₂.sup.trans h₁.sup, h₂.meas.trans h₁.meas, h₂.cal.trans h₁.cal,
    h₂.bpd.trans h₁.bpd, h₂.machine.trans h₁.machine⟩

theorem Stands.mono {codes more : List Nat} {s t : State} (h : Stands codes s t) (hc : codes ⊆ more) :
    Stands more s t :=
  { h with toAlarmsWithin := h.toAlarmsWithin.mono hc }

theorem Stands.foldl {codes : List Nat} {α : Type} (f : State → α → State) (l : List α) (s : State)
    (h : ∀ s a, Stands codes s (f s a)) : Stands codes s (l.foldl f s) := by
  induction l generalizing s with
  | nil => exact .refl s
  | cons a l ih => exact (h s a).trans (ih (f s a))

/-- A branch of which both sides stand. -/
theorem Stands.ite {codes : List Nat} {s t u : State} (p : Prop) [Decidable p] (ht : p → Stands codes s t)
    (hu : ¬ p → Stands codes s u) : Stands codes s (if p then t else u) := by
  split
  · exact ht ‹_›
  · exact hu ‹_›

theorem post_stands (codes : List Nat) (kind : NoticeKind) (subject value : Nat) (s : State) :
    Stands codes s (post kind subject value s) :=
  { post_within codes kind subject value s with
    sup := by simp, meas := by simp, cal := by simp, bpd := by simp, machine := by simp }

theorem report_stands {codes : List Nat} (c : Nat) (v : Bool) (s : State) (hc : c ∈ codes) :
    Stands codes s (report c v s) :=
  { report_within c v s hc with
    sup := by simp, meas := by simp, cal := by simp, bpd := by simp, machine := by simp }

/-- The conditions that a change of the plant mode or of AC available can have reported: BATTERY_DISCHARGE, RECT_FAIL,
RECT_MULTI_FAIL, RECT_SHORTFALL (R83, R91, R102). -/
abbrev modeCodes : List Nat := [alBatteryDischarge, alRectFail, alRectMultiFail, alRectShortfall]

/-! ### The charge controller -/

theorem recomputeIbl_stands (codes : List Nat) (s : State) : Stands codes s (recomputeIbl s) := .of_eq (by simp)
theorem suspendEqualize_stands (codes : List Nat) (s : State) : Stands codes s (suspendEqualize s) := .of_eq (by simp)
theorem writeResults_stands (codes : List Nat) (outcome : TestOutcome) (target minutes : Nat) (s : State) :
    Stands codes s (writeResults outcome target minutes s) := .of_eq (by simp)

theorem dropDischargeCount_stands (s : State) : Stands modeCodes s (dropDischargeCount s) :=
  Stands.trans (t := s.onProt fun p => { p with dischargeCount := 0 }) (.of_eq (by simp)) (report_stands _ _ _ (by decide))

theorem changeStage_stands (new : Stage) (s : State) : Stands modeCodes s (changeStage new s) := by
  unfold changeStage
  refine .ite _ (fun _ => .refl s) fun _ => ?_
  have entered (u : State) (h : Stands modeCodes s u) : Stands modeCodes s (recomputeIm (recomputeIbl (recomputeSetpoint
      (u.onCharge fun c =>
        { c with stage := new, absorbCount := 0, tailCount := 0, absorbTimer := 0, armed := false })))) :=
    h.trans (.of_eq (by simp))
  have posted := entered _ (post_stands modeCodes .stageChange new.code s.charge.stage.code s)
  exact .ite _ (fun _ => posted.trans (dropDischargeCount_stands _)) fun _ => posted

theorem endTest_stands (outcome : TestOutcome) (next : Stage) (s : State) :
    Stands modeCodes s (endTest outcome next s) := by
  unfold endTest
  split
  · exact .refl s
  · next t _ =>
    exact ((writeResults_stands modeCodes outcome t.target (t.elapsed / 60) s).trans
      (post_stands modeCodes .testEnd outcome.code (t.elapsed / 60) _)).trans
        (Stands.trans (t := State.onCharge _ _) (.of_eq (by simp)) (changeStage_stands next _))

theorem chargeModeChange_stands (old : Mode) (s : State) : Stands modeCodes s (chargeModeChange old s) := by
  have entered (new : Stage) (u : State) : Stands modeCodes u (recomputeIbl (changeStage new u)) :=
    (changeStage_stands new u).trans (recomputeIbl_stands _ _)
  have ended (next : Stage) : Stands modeCodes s (recomputeIbl (endTest .aborted next s)) :=
    (endTest_stands .aborted next s).trans (recomputeIbl_stands _ _)
  have suspended := suspendEqualize_stands modeCodes s
  unfold chargeModeChange
  split
  · exact (suspended.trans (endTest_stands .aborted .discharge _)).trans (entered .discharge _)
  · exact (suspended.trans (endTest_stands .aborted .discharge _)).trans (entered .discharge _)
  · split
    · exact entered _ s
    · exact entered _ s
    · exact recomputeIbl_stands _ s
    · exact recomputeIbl_stands _ s
  · split
    · exact entered _ s
    · exact entered _ s
    · exact recomputeIbl_stands _ s
    · split
      · exact suspended.trans (entered .float _)
      · exact ended _
      all_goals exact recomputeIbl_stands _ s

/-! ### The scheduler -/

theorem reportFaults_stands (s : State) : Stands modeCodes s (reportFaults s) :=
  (report_stands alRectFail _ s (by decide)).trans (report_stands alRectMultiFail _ _ (by decide))

theorem changeSlot_stands (i : Nat) (new : SlotState) (s : State) : Stands modeCodes s (changeSlot i new s) := by
  unfold changeSlot
  refine .ite _ (fun _ => .refl s) fun _ => ?_
  refine Stands.trans ?_ (reportFaults_stands _)
  refine .ite _ (fun _ => .of_eq (by simp)) fun _ => .of_eq (by simp)

theorem endSwap_stands (codes : List Nat) (outcome : SwapOutcome) (s : State) :
    Stands codes s (endSwap outcome s) := by
  unfold endSwap
  split
  · exact .refl s
  · exact Stands.trans (t := State.onRect _ _) (.of_eq (by simp)) (post_stands codes .rotation _ _ _)

theorem acLost_stands (s : State) : Stands modeCodes s (acLost s) :=
  ((endSwap_stands _ _ s).trans (.foldl _ _ _ fun s i => changeSlot_stands i .standby s)).trans
    (report_stands alRectShortfall _ _ (by decide))

theorem stopOne_stands (s : State) : Stands modeCodes s (stopOne s) := by
  unfold stopOne
  split
  · exact .refl s
  · exact changeSlot_stands _ _ s

theorem trimToGen_stands (s : State) : Stands modeCodes s (trimToGen s) := by
  unfold trimToGen
  exact .ite _ (fun _ => (endSwap_stands _ _ s).trans (.foldl _ _ _ fun s _ => stopOne_stands s)) fun _ => .refl s

theorem schedulerAcChange_stands (oldAc : Bool) (s : State) : Stands modeCodes s (schedulerAcChange oldAc s) := by
  unfold schedulerAcChange
  exact .ite _ (fun _ => acLost_stands s) fun _ => .ite _ (fun _ => .of_eq (by simp)) fun _ => .refl s

theorem protectionModeChange_stands (s : State) : Stands modeCodes s (protectionModeChange s) := by
  unfold protectionModeChange
  have discarded : Stands modeCodes s
      (if s.sup.mode = .battery then s
      else s.onProt fun p => { p with shedCount := 0, disconnectCount := 0 }) :=
    .ite _ (fun _ => .refl s) fun _ => .of_eq (by simp)
  refine .ite _ (fun _ => discarded) fun _ => discarded.trans ?_
  exact Stands.trans (t := State.onProt _ _) (.of_eq (by simp)) (dropDischargeCount_stands _)

/-- The blocks acting on a mode change neither the mode nor its inputs. -/
theorem actOnMode_stands (old : Sup) (s : State) : Stands modeCodes s (actOnMode old s) := by
  have charged : Stands modeCodes s (if s.sup.mode = old.mode then s else chargeModeChange old.mode s) :=
    .ite _ (fun _ => .refl s) fun _ => chargeModeChange_stands _ s
  unfold actOnMode
  refine (charged.trans ?_).trans (schedulerAcChange_stands _ _)
  exact .ite _ (fun _ => .refl _) fun _ => protectionModeChange_stands _

/-! ## The stage and the plant mode (R45, R48 to R50) -/

@[simp] theorem changeStage_stage (new : Stage) (s : State) : (changeStage new s).charge.stage = new := by
  unfold changeStage
  split
  · assumption
  · simp

@[simp] theorem changeStage_record (new : Stage) (s : State) :
    (changeStage new s).charge.test = s.charge.test ∧ (changeStage new s).charge.eq = s.charge.eq ∧
      (changeStage new s).charge.latch = s.charge.latch := by
  unfold changeStage
  split <;> simp

/-- R69: after the end of a test none is in flight; a test that was ends in the stage that follows it. -/
theorem endTest_charge (outcome : TestOutcome) (next : Stage) (s : State) :
    (endTest outcome next s).charge.test = none ∧ (endTest outcome next s).charge.eq = s.charge.eq ∧
      (endTest outcome next s).charge.stage = if s.charge.test.isSome then next else s.charge.stage := by
  unfold endTest
  split
  · next h => simp [h]
  · next h => simp [h]

/-- R47: a rule that would move to BULK. -/
theorem bulkOrFloat_eq (s : State) : bulkOrFloat s = if s.charge.latch = true then .float else .bulk := rfl

/-- R45, R48, R50, R60, R66: the stage, the test and the equalize record fit the plant mode `m`. -/
def Charge.Fits (m : Mode) (c : Charge) : Prop :=
  (c.stage = .discharge ↔ m = .battery ∨ m = .protect) ∧ (c.stage = .equalize ∨ c.stage = .test → m = .mains) ∧
    (c.test.isSome = true ↔ c.stage = .test) ∧ (c.eq.state = .running ↔ c.stage = .equalize)

theorem stageFits_iff (s : State) : s.StageFits ↔ s.charge.Fits s.sup.mode := Iff.rfl

/-- Neither a test nor an equalize is in flight. -/
def Charge.Plain (c : Charge) : Prop := c.test = none ∧ c.eq.state ≠ .running

/-- The stages in which a battery is charged with neither a test nor an equalize in flight. -/
def Stage.charges : Stage → Bool
  | .bulk | .absorb | .float => true
  | .discharge | .equalize | .test => false

theorem bulkOrFloat_charges (s : State) : (bulkOrFloat s).charges = true := by
  rw [bulkOrFloat_eq]
  split <;> rfl

theorem Charge.Plain.fits_discharge {c : Charge} {m : Mode} (h : c.Plain) (stage : c.stage = .discharge)
    (mode : m = .battery ∨ m = .protect) : c.Fits m := by
  obtain ⟨test, eq⟩ := h
  simp [Charge.Fits, stage, mode, test, eq]

theorem Charge.Plain.fits_charging {c : Charge} {m : Mode} (h : c.Plain) (stage : c.stage.charges = true)
    (mode : m = .mains ∨ m = .generator) : c.Fits m := by
  obtain ⟨test, eq⟩ := h
  cases hs : c.stage <;> rcases mode with rfl | rfl <;> simp_all [Charge.Fits, Stage.charges]

/-- Outside TEST and EQUALIZE neither is in flight. -/
theorem Charge.Fits.plain {c : Charge} {m : Mode} (h : c.Fits m) (notTest : c.stage ≠ .test)
    (notEqualize : c.stage ≠ .equalize) : c.Plain := by
  obtain ⟨-, -, test, eq⟩ := h
  exact ⟨by simpa [notTest] using test, by simpa [notEqualize] using eq⟩

theorem Charge.Fits.plain_of_mode {c : Charge} {m : Mode} (h : c.Fits m) (mode : m ≠ .mains) : c.Plain :=
  h.plain (fun t => mode (h.2.1 (.inr t))) fun e => mode (h.2.1 (.inl e))

/-- In MAINS and GENERATOR a stage that is neither EQUALIZE nor TEST charges. -/
theorem Charge.Fits.charges {c : Charge} {m : Mode} (h : c.Fits m) (mode : m = .mains ∨ m = .generator)
    (plain : c.Plain) : c.stage.charges = true := by
  obtain ⟨discharge, -, test, eq⟩ := h
  obtain ⟨noTest, notRunning⟩ := plain
  cases hs : c.stage <;> rcases mode with rfl | rfl <;> simp_all [Stage.charges]

/-- R48 to R50: the charge controller, whose stage fitted the mode before, brings it to fit the mode now in force. -/
theorem chargeModeChange_fits (old : Mode) (s : State) (h : s.charge.Fits old) (ne : s.sup.mode ≠ old) :
    (chargeModeChange old s).StageFits := by
  have mode : (chargeModeChange old s).sup.mode = s.sup.mode := by simp
  rw [stageFits_iff, mode]
  have suspended : (suspendEqualize s).charge.eq.state ≠ .running ∧
      (suspendEqualize s).charge.test = s.charge.test ∧ (suspendEqualize s).charge.stage = s.charge.stage := by
    unfold suspendEqualize
    split <;> simp_all
  have entered (new : Stage) (u : State) (plain : u.charge.Plain) (charges : new.charges = true)
      (now : s.sup.mode = .mains ∨ s.sup.mode = .generator) :
      (recomputeIbl (changeStage new u)).charge.Fits s.sup.mode :=
    Charge.Plain.fits_charging (by simpa [Charge.Plain] using plain) (by simpa using charges) now
  have returned : (if returnTest s then bulkOrFloat s else .float : Stage).charges = true := by
    split
    · exact bulkOrFloat_charges s
    · rfl
  have discharged (now : s.sup.mode = .battery ∨ s.sup.mode = .protect) :
      (recomputeIbl (changeStage .discharge (endTest .aborted .discharge (suspendEqualize s)))).charge.Fits
        s.sup.mode := by
    refine Charge.Plain.fits_discharge ?_ (by simp) now
    simpa [Charge.Plain, endTest_charge] using suspended.1
  cases hm : s.sup.mode with
  | battery => simpa [chargeModeChange, hm] using discharged (.inl hm)
  | protect => simpa [chargeModeChange, hm] using discharged (.inr hm)
  | mains =>
    have now := Or.inl (b := s.sup.mode = .generator) hm
    cases old with
    | mains => exact absurd hm ne
    | battery => simpa [chargeModeChange, hm] using entered _ s (h.plain_of_mode (by decide)) returned now
    | protect =>
      simpa [chargeModeChange, hm] using entered _ s (h.plain_of_mode (by decide)) (bulkOrFloat_charges s) now
    | generator =>
      have plain := h.plain_of_mode (by decide)
      simpa [chargeModeChange, hm] using
        Charge.Plain.fits_charging (c := (recomputeIbl s).charge) plain (h.charges (.inr rfl) plain) now
  | generator =>
    have now := Or.inr (a := s.sup.mode = .mains) hm
    cases old with
    | generator => exact absurd hm ne
    | battery => simpa [chargeModeChange, hm] using entered _ s (h.plain_of_mode (by decide)) returned now
    | protect =>
      simpa [chargeModeChange, hm] using entered _ s (h.plain_of_mode (by decide)) (bulkOrFloat_charges s) now
    | mains =>
      by_cases equalize : s.charge.stage = .equalize
      · have noTest : s.charge.test = none := by simpa [equalize] using h.2.2.1
        have plain : (suspendEqualize s).charge.Plain := ⟨suspended.2.1.trans noTest, suspended.1⟩
        simpa [chargeModeChange, hm, equalize] using entered .float _ plain rfl now
      · by_cases test : s.charge.stage = .test
        · have inFlight : s.charge.test.isSome = true := h.2.2.1.2 test
          have notRunning : s.charge.eq.state ≠ .running := by simpa [equalize] using h.2.2.2
          have fits : (recomputeIbl (endTest .aborted (bulkOrFloat s) s)).charge.Fits s.sup.mode :=
            Charge.Plain.fits_charging (by simpa [Charge.Plain, endTest_charge] using notRunning)
              (by simpa [endTest_charge, inFlight] using bulkOrFloat_charges s) now
          simpa [chargeModeChange, hm, test] using fits
        · have plain := h.plain test equalize
          have fits := Charge.Plain.fits_charging (c := (recomputeIbl s).charge) plain
            (h.charges (.inl rfl) plain) now
          cases hs : s.charge.stage <;> simp_all [chargeModeChange]

/-! ## The mode derived again (R15, R16) -/

@[simp] theorem supervise_sup (s : State) :
    (supervise s).sup = { s.sup with mode := deriveMode s, ac := deriveAc s } := by
  unfold supervise
  dsimp only
  split <;> simp

theorem supervise_within (codes : List Nat) (s : State) : AlarmsWithin codes s (supervise s) := by
  unfold supervise
  dsimp only
  split
  · exact .of_eq rfl
  · exact (AlarmsWithin.of_eq (by simp)).trans (post_within codes _ _ _ _)

@[simp] theorem rederive_sup (s : State) :
    (rederive s).sup = { s.sup with mode := deriveMode s, ac := deriveAc s } := by
  simp [rederive]

/-- The mode and AC available follow from the BPD, the machine and the mains qualification. -/
theorem derive_congr {s t : State} (bpd : t.prot.bpd = s.prot.bpd) (machine : t.gen.machine = s.gen.machine)
    (mains : t.meas.mainsQualified = s.meas.mainsQualified) :
    deriveMode t = deriveMode s ∧ deriveAc t = deriveAc s := by
  simp [deriveMode, deriveAc, State.online, bpd, machine, mains]

theorem Stands.derive {codes : List Nat} {s t : State} (h : Stands codes s t) :
    deriveMode t = deriveMode s ∧ deriveAc t = deriveAc s :=
  derive_congr h.bpd h.machine (by rw [h.meas])

/-- Acting on the mode keeps the stage fitting, if it fitted the mode before. -/
theorem actOnMode_fits (old : Sup) (s : State) (h : s.charge.Fits old.mode) : (actOnMode old s).StageFits := by
  have charged : (if s.sup.mode = old.mode then s else chargeModeChange old.mode s).StageFits := by
    split
    · next same => rwa [stageFits_iff, same]
    · next ne => exact chargeModeChange_fits _ _ h ne
  have kept : (actOnMode old s).charge = (if s.sup.mode = old.mode then s else chargeModeChange old.mode s).charge ∧
      (actOnMode old s).sup = s.sup := by
    simp [actOnMode]
  rw [stageFits_iff, kept.1, kept.2]
  simpa [stageFits_iff] using charged

theorem rederive_bpd (s : State) : (rederive s).prot.bpd = s.prot.bpd := by
  simpa [rederive] using (actOnMode_stands s.sup (supervise s)).bpd

/-- R15: whatever they were, the mode and AC available are derived. -/
theorem rederive_derived (s : State) : (rederive s).ModeDerived := by
  have same := derive_congr (s := s) (rederive_bpd s) (by simp) (by simp)
  simp [State.ModeDerived, same]

theorem rederive_fits (s : State) (h : s.StageFits) : (rederive s).StageFits :=
  actOnMode_fits s.sup (supervise s) (by simpa [stageFits_iff] using h)

theorem rederive_within (s : State) : AlarmsWithin modeCodes s (rederive s) :=
  (supervise_within modeCodes s).trans (actOnMode_stands s.sup (supervise s)).toAlarmsWithin

/-! ## Steps that keep the mode derived and the stage fitting it -/

/-- From `s` to `t` a derived mode stays derived and a stage that fits goes on to fit. -/
structure ModeStep (s t : State) : Prop where
  derived : s.ModeDerived → t.ModeDerived
  fits : s.StageFits → t.StageFits

theorem ModeStep.refl (s : State) : ModeStep s s := ⟨id, id⟩

theorem ModeStep.trans {s t u : State} (h₁ : ModeStep s t) (h₂ : ModeStep t u) : ModeStep s u :=
  ⟨h₂.derived ∘ h₁.derived, h₂.fits ∘ h₁.fits⟩

theorem ModeStep.ite {s t u : State} (p : Prop) [Decidable p] (ht : p → ModeStep s t) (hu : ¬ p → ModeStep s u) :
    ModeStep s (if p then t else u) := by
  split
  · exact ht ‹_›
  · exact hu ‹_›

theorem ModeStep.foldl {α : Type} (f : State → α → State) (l : List α) (s : State)
    (h : ∀ s a, ModeStep s (f s a)) : ModeStep s (l.foldl f s) := by
  induction l generalizing s with
  | nil => exact .refl s
  | cons a l ih => exact (h s a).trans (ih (f s a))

/-- What leaves the mode, its inputs and the charge controller's state keeps both. -/
theorem ModeStep.of_eq {s t : State}
    (same : t.sup.mode = s.sup.mode ∧ t.sup.ac = s.sup.ac ∧ t.prot.bpd = s.prot.bpd ∧ t.gen.machine = s.gen.machine ∧
      t.meas.mainsQualified = s.meas.mainsQualified ∧ t.charge.stage = s.charge.stage ∧
      t.charge.test.isSome = s.charge.test.isSome ∧
      (t.charge.eq.state = .running ↔ s.charge.eq.state = .running)) : ModeStep s t := by
  obtain ⟨mode, ac, bpd, machine, mains, stage, test, eq⟩ := same
  obtain ⟨sameMode, sameAc⟩ := derive_congr bpd machine mains
  exact ⟨fun h => ⟨by rw [mode, sameMode, h.1], by rw [ac, sameAc, h.2]⟩,
    fun h => by simpa [State.StageFits, mode, stage, test, eq] using h⟩

theorem Stands.modeStep {codes : List Nat} {s t : State} (h : Stands codes s t) (fits : s.StageFits → t.StageFits) :
    ModeStep s t where
  derived d := by rw [State.ModeDerived, h.sup, h.derive.1, h.derive.2]; exact d
  fits := fits

/-! ### Steps of the generator controller -/

/-- The conditions that the generator controller's operations on a run can have reported: those of a change of the
mode, the lockout conditions, GEN_RUNNING and EXERCISE_MISSED (R141, R144, R158). -/
abbrev runCodes : List Nat :=
  modeCodes ++ [alGenStartFail, alGenStopFail, alGenEngineFault, alGenRunning, alGenLockout, alExerciseMissed]

/-- The two calendars show the same time. -/
def Cal.SameTime (c d : Cal) : Prop := d.stamp = c.stamp ∧ d.valid = c.valid ∧ d.weekday = c.weekday

theorem Cal.SameTime.refl (c : Cal) : c.SameTime c := ⟨rfl, rfl, rfl⟩

theorem Cal.SameTime.trans {c d e : Cal} (h₁ : c.SameTime d) (h₂ : d.SameTime e) : c.SameTime e :=
  ⟨h₂.1.trans h₁.1, h₂.2.1.trans h₁.2.1, h₂.2.2.trans h₁.2.2⟩

/-- From `s` to `t` the mode stays derived and the stage fitting, the hold and the time stand, and the alarm unit has
taken reports of `codes` alone: so it is with everything the generator controller does. -/
structure PlantStep (codes : List Nat) (s t : State) : Prop extends AlarmsWithin codes s t, ModeStep s t where
  hold : t.sup.hold = s.sup.hold
  time : s.cal.SameTime t.cal

theorem PlantStep.trans {codes : List Nat} {s t u : State} (h₁ : PlantStep codes s t) (h₂ : PlantStep codes t u) :
    PlantStep codes s u :=
  ⟨h₁.toAlarmsWithin.trans h₂.toAlarmsWithin, h₁.toModeStep.trans h₂.toModeStep, h₂.hold.trans h₁.hold,
    h₁.time.trans h₂.time⟩

theorem PlantStep.mono {codes more : List Nat} {s t : State} (h : PlantStep codes s t) (hc : codes ⊆ more) :
    PlantStep more s t :=
  { h with toAlarmsWithin := h.toAlarmsWithin.mono hc }

theorem Stands.plantStep {codes : List Nat} {s t : State} (h : Stands codes s t)
    (charge : t.charge = s.charge) : PlantStep codes s t :=
  { h, h.modeStep (by simp only [stageFits_iff, h.sup, charge]; exact id) with
    hold := by rw [h.sup]
    time := by rw [h.cal]; exact .refl _ }

theorem PlantStep.refl {codes : List Nat} (s : State) : PlantStep codes s s := (Stands.refl s).plantStep rfl

theorem PlantStep.ite {codes : List Nat} {s t u : State} (p : Prop) [Decidable p] (ht : p → PlantStep codes s t)
    (hu : ¬ p → PlantStep codes s u) : PlantStep codes s (if p then t else u) := by
  split
  · exact ht ‹_›
  · exact hu ‹_›

theorem report_step {codes : List Nat} (c : Nat) (v : Bool) (s : State) (hc : c ∈ codes) :
    PlantStep codes s (report c v s) := (report_stands c v s hc).plantStep (by simp)

theorem post_step (codes : List Nat) (kind : NoticeKind) (subject value : Nat) (s : State) :
    PlantStep codes s (post kind subject value s) := (post_stands codes kind subject value s).plantStep (by simp)

/-- The generator controller writes of itself what is not the machine's state. -/
theorem onGen_step (codes : List Nat) (f : Gen → Gen) (s : State)
    (machine : (f s.gen).machine = s.gen.machine) : PlantStep codes s (s.onGen f) :=
  (Stands.of_eq (s := s) (t := s.onGen f) ⟨rfl, rfl, rfl, rfl, rfl, machine⟩).plantStep rfl

theorem onRun_step (codes : List Nat) (f : Run → Run) (s : State) : PlantStep codes s (onRun f s) :=
  onGen_step codes _ s rfl

theorem onOpenRecord_step (codes : List Nat) (f : RunRec → RunRec) (s : State) :
    PlantStep codes s (onOpenRecord f s) := onGen_step codes _ s rfl

/-- The calendar writes of itself what is not the time. -/
theorem onCal_step (codes : List Nat) (f : Cal → Cal) (s : State)
    (time : s.cal.SameTime (f s.cal)) : PlantStep codes s (s.onCal f) :=
  { AlarmsWithin.of_eq (codes := codes) (t := s.onCal f) rfl, (ModeStep.of_eq (t := s.onCal f) (by simp)) with
    hold := rfl, time := time }

theorem reportLockout_step (s : State) : PlantStep runCodes s (reportLockout s) :=
  (((report_step alGenLockout _ s (by decide)).trans (report_step alGenStartFail _ _ (by decide))).trans
    (report_step alGenStopFail _ _ (by decide))).trans (report_step alGenEngineFault _ _ (by decide))

/-! ### The machine enters a state (R127, R128) -/

theorem onOpenRecord_gen (f : RunRec → RunRec) (s : State) :
    (onOpenRecord f s).gen = { s.gen with log := s.gen.log.modifyHead f } := by
  cases h : s.gen.log <;> simp [onOpenRecord, State.onGen, h]

theorem onRun_gen (f : Run → Run) (s : State) : (onRun f s).gen = { s.gen with run := s.gen.run.map f } := rfl

/-- R127, R128: what the generator controller holds once the machine has entered a state. -/
def Gen.enter (new : GenState) (g : Gen) : Gen :=
  if new = .online then
    { g with
      machine := new, stateCount := 0, run := g.run.map fun r => { r with reachedOnline := true }
      log := g.log.modifyHead fun r => { r with reachedOnline := true } }
  else { g with machine := new, stateCount := 0 }

@[simp] theorem enter_machine (new : GenState) (g : Gen) : (g.enter new).machine = new := by
  unfold Gen.enter; split <;> rfl

@[simp] theorem enter_stateCount (new : GenState) (g : Gen) : (g.enter new).stateCount = 0 := by
  unfold Gen.enter; split <;> rfl

theorem enter_offline (new : GenState) (g : Gen) (h : new ≠ .online) :
    g.enter new = { g with machine := new, stateCount := 0 } := if_neg h

/-- What an entry leaves of the generator controller. -/
@[simp] theorem enter_frame (new : GenState) (g : Gen) :
    (g.enter new).failReason = g.failReason ∧ (g.enter new).rearmMinutes = g.rearmMinutes ∧
    (g.enter new).rearmSeconds = g.rearmSeconds ∧ (g.enter new).restCount = g.restCount ∧
    (g.enter new).stopHold = g.stopHold ∧ (g.enter new).mainsFailTimer = g.mainsFailTimer ∧
    (g.enter new).spent = g.spent ∧ (g.enter new).busCount = g.busCount ∧ (g.enter new).fuelLow = g.fuelLow ∧
    (g.enter new).fuelEmpty = g.fuelEmpty ∧ (g.enter new).exercise = g.exercise := by
  unfold Gen.enter; split <;> simp

/-- The first part of an entry: the state of the machine and the marks of a run that reaches ONLINE. -/
def enterMachine (new : GenState) (s : State) : State := s.onGen (Gen.enter new)

theorem genEnter_eq (new : GenState) (s : State) :
    genEnter new s =
      let u := enterMachine new s
      let u := if u.online = s.online then u else feedMoved u
      reportLockout (report alGenRunning u.gen.machine.inRun u) := by
  have entered :
      (if new = .online then
        onOpenRecord (fun r => { r with reachedOnline := true }) (onRun (fun r => { r with reachedOnline := true })
          (s.onGen fun g => { g with machine := new, stateCount := 0 }))
      else s.onGen fun g => { g with machine := new, stateCount := 0 }) = enterMachine new s := by
    unfold enterMachine Gen.enter
    split
    · cases h : s.gen.log <;> simp [onOpenRecord, onRun, State.onGen, h]
    · rfl
  unfold genEnter
  dsimp only
  rw [entered]

@[simp] theorem genEnter_gen (new : GenState) (s : State) : (genEnter new s).gen = s.gen.enter new := by
  rw [genEnter_eq]
  dsimp only
  split <;> simp [enterMachine]

/-- R15, R128: the feed moves, whatever the mode was. -/
theorem feedMoved_within (s : State) : AlarmsWithin modeCodes s (feedMoved s) :=
  ((AlarmsWithin.of_eq (s := s) (t := s.onRect fun r => { r with settle := 0 }) rfl).trans (rederive_within _)).trans
    ((recomputeIbl_stands modeCodes _).trans (trimToGen_stands _)).toAlarmsWithin

theorem feedMoved_sup (s : State) :
    (feedMoved s).sup = { s.sup with mode := deriveMode s, ac := deriveAc s } := by
  simp only [feedMoved, trimToGen_frame, recomputeIbl_frame, rederive_sup]
  rfl

theorem feedMoved_derived (s : State) : (feedMoved s).ModeDerived :=
  (((recomputeIbl_stands modeCodes _).trans (trimToGen_stands _)).modeStep
    (by simp [State.StageFits])).derived (rederive_derived _)

theorem feedMoved_fits (s : State) (h : s.StageFits) : (feedMoved s).StageFits := by
  have derived := rederive_fits (s.onRect fun r => { r with settle := 0 }) h
  simpa [feedMoved, State.StageFits] using derived

theorem genEnter_step (new : GenState) (s : State) : PlantStep runCodes s (genEnter new s) := by
  rw [genEnter_eq]
  refine PlantStep.trans ?_ ((report_step alGenRunning _ _ (by decide)).trans (reportLockout_step _))
  split
  · next same =>
    have sameMode : deriveMode (enterMachine new s) = deriveMode s ∧ deriveAc (enterMachine new s) = deriveAc s := by
      simp only [deriveMode, deriveAc, same]
      exact ⟨rfl, rfl⟩
    exact
      { AlarmsWithin.of_eq (codes := runCodes) (t := enterMachine new s) rfl with
        derived := fun d => by rw [State.ModeDerived, sameMode.1, sameMode.2]; exact d
        fits := id, hold := rfl, time := .refl _ }
  · have moved := feedMoved_within (enterMachine new s)
    exact
      { ((AlarmsWithin.of_eq (s := s) (t := enterMachine new s) rfl).trans moved).mono (by simp) with
        derived := fun _ => feedMoved_derived _
        fits := fun h => feedMoved_fits (enterMachine new s) h
        hold := by rw [feedMoved_sup]; rfl
        time := by simp [enterMachine, Cal.SameTime.refl] }

/-! ### Exercises (R158, R160 to R162) -/

theorem reportMissed_step (s : State) : PlantStep runCodes s (reportMissed s) := report_step _ _ s (by decide)

theorem dropCause_step (codes : List Nat) (s : State) : PlantStep codes s (dropCause s) := onGen_step codes _ s rfl

theorem exerciseRunBegins_step (codes : List Nat) (s : State) : PlantStep codes s (exerciseRunBegins s) :=
  onCal_step codes _ s (by exact ⟨rfl, rfl, rfl⟩)

theorem exerciseServed_step (s : State) : PlantStep runCodes s (exerciseServed s) := by
  refine PlantStep.trans (onCal_step runCodes (fun c => { c with runMark := false }) s (by exact ⟨rfl, rfl, rfl⟩)) ?_
  refine .ite _ (fun _ => .refl _) fun _ => ?_
  exact ((onCal_step runCodes _ _ (by exact ⟨rfl, rfl, rfl⟩)).trans (dropCause_step _ _)).trans (reportMissed_step _)

theorem exerciseCounted_step (codes : List Nat) (s : State) : PlantStep codes s (exerciseCounted s) :=
  onCal_step codes _ s (by exact ⟨rfl, rfl, rfl⟩)

theorem exerciseMissed_step (s : State) : PlantStep runCodes s (exerciseMissed s) :=
  ((onCal_step runCodes _ s (by exact ⟨rfl, rfl, rfl⟩)).trans (dropCause_step _ _)).trans (reportMissed_step _)

theorem exerciseReturned_step (s : State) : PlantStep runCodes s (exerciseReturned s) :=
  (onCal_step runCodes (fun c => { c with runMark := false }) s (by exact ⟨rfl, rfl, rfl⟩)).trans
    (.ite _ (fun _ => exerciseMissed_step _) fun _ => .refl _)

theorem exerciseWithdrawn_step (codes : List Nat) (s : State) : PlantStep codes s (exerciseWithdrawn s) := by
  unfold exerciseWithdrawn
  exact .ite _ (fun _ => .refl s) fun _ => (onCal_step codes _ s (by exact ⟨rfl, rfl, rfl⟩)).trans (dropCause_step _ _)

theorem windowClosed_step (s : State) : PlantStep runCodes s (windowClosed s) := by
  unfold windowClosed
  exact .ite _ (fun _ => exerciseMissed_step s) fun _ => .refl s

/-! ### Runs begin and end (R129 to R133, R139 to R144) -/

theorem enterCranking_step (s : State) : PlantStep runCodes s (enterCranking s) := by
  unfold enterCranking
  exact .ite _ (fun _ => genEnter_step _ s) fun _ =>
    ((onRun_step runCodes _ s).trans (onOpenRecord_step runCodes _ _)).trans (genEnter_step _ _)

theorem enterPriming_step (s : State) : PlantStep runCodes s (enterPriming s) := by
  unfold enterPriming
  exact (genEnter_step .priming s).trans (.ite _ (fun _ => enterCranking_step _) fun _ => .refl _)

theorem beginRun_step (basis : Basis) (opening : Option Basis) (load : Bool) (duration : Option Nat) (s : State) :
    PlantStep runCodes s (beginRun basis opening load duration s) := by
  unfold beginRun
  dsimp only
  exact ((onGen_step runCodes _ s rfl).trans (.ite _ (fun _ => exerciseRunBegins_step runCodes _) fun _ => .refl _)).trans
    ((post_step runCodes _ _ _ _).trans (enterPriming_step _))

theorem beginCause_step (b : Basis) (s : State) : PlantStep runCodes s (beginCause b s) := by
  unfold beginCause
  split
  · exact .ite _ (fun _ => beginRun_step _ _ _ _ s) fun _ => beginRun_step _ _ _ _ s
  all_goals exact beginRun_step _ _ _ _ s

theorem evaluateStart_step (s : State) : PlantStep runCodes s (evaluateStart s) := by
  unfold evaluateStart
  refine .ite _ (fun _ => ?_) fun _ => .refl s
  split
  · exact beginCause_step _ s
  · exact .refl s

theorem closeRun_step (final : GenState) (s : State) : PlantStep runCodes s (closeRun final s) := by
  unfold closeRun
  split
  · exact genEnter_step final s
  · refine PlantStep.trans ?_ (evaluateStart_step _)
    refine PlantStep.trans ?_ (.ite _ (fun _ => exerciseReturned_step _) fun _ => .refl _)
    exact (((onOpenRecord_step runCodes _ s).trans (post_step runCodes _ _ _ _)).trans
      (onGen_step runCodes _ _ rfl)).trans (genEnter_step final _)

theorem setStop_step (codes : List Nat) (reason : StopReason) (s : State) : PlantStep codes s (setStop reason s) :=
  onRun_step codes _ s

theorem setFail_step (reason : Option FailReason) (s : State) : PlantStep runCodes s (setFail reason s) :=
  (onGen_step runCodes _ s rfl).trans (reportLockout_step _)

theorem confirmStop_step (s : State) : PlantStep runCodes s (confirmStop s) := closeRun_step _ s

theorem enterStopping_step (s : State) : PlantStep runCodes s (enterStopping s) := by
  unfold enterStopping
  exact (genEnter_step .stopping s).trans (.ite _ (fun _ => .refl _) fun _ => confirmStop_step _)

theorem enterCooldown_step (s : State) : PlantStep runCodes s (enterCooldown s) := by
  unfold enterCooldown
  exact (genEnter_step .cooldown s).trans (.ite _ (fun _ => enterStopping_step _) fun _ => .refl _)

theorem endRun_step (reason : StopReason) (s : State) : PlantStep runCodes s (endRun reason s) := by
  have stopped := setStop_step runCodes reason s
  cases h : s.gen.machine <;> simp only [endRun, h]
  case priming | cranking | crankRest | warmup => exact stopped.trans (enterStopping_step _)
  case online | offload => exact stopped.trans (enterCooldown_step _)
  case idle | cooldown | stopping | failed => exact .refl s

theorem startFailed_step (s : State) : PlantStep runCodes s (startFailed s) :=
  ((setStop_step runCodes .startFail s).trans (onGen_step runCodes _ _ rfl)).trans (closeRun_step .failed _)

theorem stopFailed_step (s : State) : PlantStep runCodes s (stopFailed s) :=
  ((setStop_step runCodes .stopFail s).trans (onGen_step runCodes _ _ rfl)).trans (closeRun_step .failed _)

theorem engineFails_step (reason : StopReason) (fail : FailReason) (s : State) :
    PlantStep runCodes s (engineFails reason fail s) :=
  ((setStop_step runCodes reason s).trans (setFail_step (some fail) _)).trans (enterStopping_step _)

theorem takeEngineFault_step (s : State) : PlantStep runCodes s (takeEngineFault s) := by
  unfold takeEngineFault
  exact .ite _ (fun _ => engineFails_step _ _ s) fun _ => .refl s

theorem attemptFailed_step (s : State) : PlantStep runCodes s (attemptFailed s) := by
  unfold attemptFailed
  exact .ite _ (fun _ => genEnter_step _ s) fun _ => startFailed_step s

/-! ### Carrying the plant (R134 to R136) -/

theorem retakeLoad_step (s : State) : PlantStep runCodes s (retakeLoad s) := by
  unfold retakeLoad
  split
  · exact .refl s
  · exact .ite _ (fun _ => genEnter_step _ s) fun _ => .refl s

theorem warmupEnds_step (s : State) : PlantStep runCodes s (warmupEnds s) := by
  unfold warmupEnds
  split
  · exact .refl s
  · exact (((onRun_step runCodes _ s).trans (onOpenRecord_step runCodes _ _)).trans
      (.ite _ (fun _ => exerciseServed_step _) fun _ => .refl _)).trans (genEnter_step _ _)

theorem genAcChanged_step (s : State) : PlantStep runCodes s (genAcChanged s) := by
  unfold genAcChanged
  refine .ite _ (fun _ => ?_) fun _ => ?_
  · cases s.gen.machine
    case cranking | crankRest => exact genEnter_step .warmup s
    all_goals exact .refl s
  · cases s.gen.machine
    case warmup => exact attemptFailed_step s
    case online | offload => exact engineFails_step _ _ s
    case cooldown => exact enterStopping_step s
    case stopping => exact confirmStop_step s
    all_goals exact .refl s

theorem convertExercise_step (s : State) : PlantStep runCodes s (convertExercise s) := by
  unfold convertExercise
  split
  · exact .refl s
  · exact .ite _ (fun _ => (onRun_step runCodes _ s).trans (onOpenRecord_step runCodes _ _)) fun _ => .refl s

theorem genMainsChanged_step (s : State) : PlantStep runCodes s (genMainsChanged s) := by
  unfold genMainsChanged
  exact .ite _ (fun _ => (onGen_step runCodes _ s rfl).trans (retakeLoad_step _)) fun _ =>
    ((onGen_step runCodes _ s rfl).trans (convertExercise_step _)).trans (retakeLoad_step _)

/-! ### Stop conditions and counts (R137, R138, R142, R144, R149) -/

theorem stopRun_step (reason : StopReason) (r : Run) (s : State) : PlantStep runCodes s (stopRun reason r s) :=
  PlantStep.trans (.ite _ (fun _ => onGen_step runCodes _ s rfl) fun _ => .refl s) (endRun_step reason _)

theorem stopTest_step (s : State) : PlantStep runCodes s (stopTest s) := by
  unfold stopTest
  split
  · exact .refl s
  · split
    · exact stopRun_step _ _ s
    · exact .refl s

theorem leaveFailed_step (s : State) : PlantStep runCodes s (leaveFailed s) :=
  ((onGen_step runCodes _ s rfl).trans (genEnter_step .idle _)).trans (evaluateStart_step _)

theorem crankExpired_step (s : State) : PlantStep runCodes s (crankExpired s) :=
  .ite _ (fun _ => .refl s) fun _ => attemptFailed_step s

theorem stopExpired_step (s : State) : PlantStep runCodes s (stopExpired s) :=
  .ite _ (fun _ => stopFailed_step s) fun _ => .refl s

theorem genTimed_step (s : State) : PlantStep runCodes s (genTimed s) := by
  have stay : PlantStep runCodes s s := .refl s
  cases h : s.gen.machine <;> simp only [genTimed, h]
  case idle => exact stay
  case priming => exact .ite _ (fun _ => enterCranking_step s) fun _ => stay
  case cranking => exact .ite _ (fun _ => crankExpired_step s) fun _ => stay
  case crankRest => exact .ite _ (fun _ => enterCranking_step s) fun _ => stay
  case warmup =>
    exact .ite _ (fun _ => takeEngineFault_step s) fun _ => .ite _ (fun _ => warmupEnds_step s) fun _ => stay
  case online | offload => exact .ite _ (fun _ => takeEngineFault_step s) fun _ => stopTest_step s
  case cooldown =>
    exact .ite _ (fun _ => takeEngineFault_step s) fun _ => .ite _ (fun _ => enterStopping_step s) fun _ => stay
  case stopping => exact .ite _ (fun _ => stopExpired_step s) fun _ => stay
  case failed => exact .ite _ (fun _ => leaveFailed_step s) fun _ => stay

theorem genFitted_step (s : State) : PlantStep runCodes s (genFitted s) := by
  unfold genFitted
  exact .ite _ (fun _ => .ite _ (fun _ => leaveFailed_step s) fun _ => endRun_step _ s) fun _ => .refl s

/-- The conditions of a measurement event of the generator controller: with those of a run the fuel flags (R142). -/
abbrev genCodes : List Nat := runCodes ++ [alFuelLow, alFuelEmpty]

theorem reportFuel_step (s : State) : PlantStep genCodes s (reportFuel s) :=
  (report_step alFuelLow _ s (by decide)).trans (report_step alFuelEmpty _ _ (by decide))

theorem genFuel_step (s : State) : PlantStep genCodes s (genFuel s) := by
  unfold genFuel
  exact ((onGen_step genCodes _ s rfl).trans (reportFuel_step _)).trans
    (.ite _ (fun _ => (endRun_step _ _).mono (by simp)) fun _ => .refl _)

theorem genEvent_step (s : State) : PlantStep genCodes s (genEvent s) :=
  ((onGen_step genCodes _ s rfl).trans (genFuel_step _)).trans
    ((((genFitted_step _).trans (genTimed_step _)).trans (evaluateStart_step _)).mono (by simp))

/-! ### Requests, exercises handed and function states (R143, R145 to R147) -/

theorem convertManual_step (load : Bool) (minutes : Nat) (s : State) :
    PlantStep runCodes s (convertManual load minutes s) :=
  ((onRun_step runCodes _ s).trans (onOpenRecord_step runCodes _ _)).trans (retakeLoad_step _)

theorem startManual_step (load : Bool) (minutes : Nat) (s : State) :
    PlantStep runCodes s (startManual load minutes s) := by
  refine PlantStep.trans (onGen_step runCodes (fun g => { g with stopHold := none }) s rfl) ?_
  cases h : s.gen.machine <;> simp only [startManual, State.onGen_gen, h]
  case idle => exact beginRun_step _ _ _ _ _
  case failed => exact (onGen_step runCodes _ _ rfl).trans (beginRun_step _ _ _ _ _)
  case cooldown | stopping => exact .refl _
  all_goals exact convertManual_step _ _ _

theorem serveGenStart_step (minutes loadFlag : Nat) (s : State) :
    PlantStep runCodes s (serveGenStart minutes loadFlag s).1 := by
  unfold serveGenStart
  split
  · exact .refl s
  · split
    · exact .refl s
    · exact startManual_step _ _ s

theorem serveGenStop_step (s : State) : PlantStep runCodes s (serveGenStop s).1 := by
  unfold serveGenStop
  split
  · exact ((onGen_step runCodes _ s rfl).trans (endRun_step .manualStop _)).trans
      (.ite _ (fun _ => evaluateStart_step _) fun _ => .refl _)
  · exact .refl s

theorem takeExercise_step (s : State) : PlantStep runCodes s (takeExercise s) := by
  unfold takeExercise
  exact .ite _ (fun _ => exerciseCounted_step runCodes s) fun _ =>
    ((onGen_step runCodes _ s rfl).trans (onCal_step runCodes _ _ (by exact ⟨rfl, rfl, rfl⟩))).trans (evaluateStart_step _)

theorem inhibitChanged_step (s : State) : PlantStep runCodes s (inhibitChanged s) := by
  unfold inhibitChanged
  exact .ite _ (fun _ => endRun_step _ s) fun _ => evaluateStart_step s

end Sys2Proof.Machine
end

section
/-! The statements about the reset state, a held thermistor and the senses (R5, R9 to R11). -/

namespace Sys2Proof.Machine

/-! ## The reset state -/

theorem reset_modeDerived : State.reset.ModeDerived := ⟨rfl, rfl⟩

theorem reset_settingsInOrder : SettingsInOrder State.reset.store.work := by
  unfold SettingsInOrder CellsInOrder BudgetInOrder
  decide

theorem reset_initialChargeBounded : State.reset.InitialChargeBounded := by
  refine ⟨rfl, by unfold InitialChargeLegal; decide, by unfold InitialChargeLegal; decide, fun m image _ => ?_,
    fun values write => by simp [State.reset] at write⟩
  have first : State.reset.store.images[0]? = some { values := groupDefaults 0, good := true } := rfl
  obtain rfl := Option.some.inj (first.symm.trans image)
  unfold InitialChargeLegal
  decide

theorem reset_accountsBounded : State.reset.AccountsBounded := by
  refine ⟨reset_initialChargeBounded, fun r held => ?_⟩
  have fresh : r = freshDefaultString := by simpa [State.reset] using held
  subst fresh
  unfold StringRec.Bounded
  decide

theorem reset_slot (i : Nat) : State.reset.slot i = blankSlot := by
  simp only [State.slot, State.reset, List.getD_eq_getElem?_getD, List.getElem?_replicate]
  split <;> rfl

theorem reset_rosterPlaced : State.reset.RosterPlaced := by
  refine ⟨rfl, rfl, .nil, .nil, fun i => ?_, fun i => ?_, fun w swap => by simp [State.reset] at swap⟩ <;>
    simp [reset_slot, blankSlot] <;> simp [State.reset]

/-! ## Senses and levels (R9 to R11) -/

theorem mainsSensed_changed (b : Bool) (s : State) (h : s.meas.mainsSense ≠ b) : mainsSensed b s =
    { s with meas := { s.meas with
      mainsSense := b, mainsTimer := if b = s.meas.mainsQualified then none else some 0 } } := if_neg h

theorem genSensed_changed (b : Bool) (s : State) (h : s.meas.genSense ≠ b) : genSensed b s =
    { s with meas := { s.meas with genSense := b, genTimer := if b = s.meas.genPresent then none else some 0 } } :=
  if_neg h

theorem levelChanges_changed (n : Nat) (b : Bool) (s : State) (h : (s.input n).level ≠ b) : levelChanges n b s =
    { s with meas := { s.meas with inputs := s.meas.inputs.modify n fun x =>
      { x with level := b, timer := if (b != (s.now 7 (8 + n) == 1)) = x.active then none else some 0 } } } :=
  if_neg h

end Sys2Proof.Machine

open Sys2Proof Sys2Proof.Machine

/-- Settles O11, invariant by invariant. -/
theorem resetMeetsTheInvariants : Obligations.ResetMeetsTheInvariants := by
  refine ⟨by unfold State.TablesBounded; decide, reset_modeDerived, ?_, ⟨rfl, reset_settingsInOrder, ?_⟩, ?_, reset_accountsBounded, ?_,
    reset_rosterPlaced, ?_, ?_⟩
  · exact Charge.Plain.fits_discharge ⟨rfl, by decide⟩ rfl (.inl rfl)
  · intro g values write
    simp [State.reset] at write
  · unfold State.CalendarLegal
    decide
  · intro evaluated
    simp [State.reset] at evaluated
  · exact .nil
  · intro w swap
    simp [State.reset] at swap

/-- Settles O18: the command is `thermistorExpires`, on a channel that is HELD or not. -/
theorem heldThermistorFallsBack : Obligations.HeldThermistorFallsBack := by
  intro i s on
  refine ⟨fun held count => ?_, fun notHeld => ?_⟩
  · exact (whenPowered_on s _ on).trans (congrArg Host.Outcome.next (if_pos ⟨held, (due_iff 600 _).2 count⟩))
  · exact (whenPowered_on s _ on).trans (congrArg Host.Outcome.next (if_neg fun h => notHeld h.1))

/-- Settles O20: each of the three commands, to another level and to the present one. -/
theorem sensesAndLevelsRunTheirTimers : Obligations.SensesAndLevelsRunTheirTimers := by
  intro b n s on
  have taken (f : State → State) {t : State} (h : f s = t) : whenPowered s f = .next t := h ▸ whenPowered_on s f on
  exact ⟨fun h => taken _ (mainsSensed_changed b s h), fun h => taken (mainsSensed b) (if_pos h),
    fun h => taken _ (genSensed_changed b s h), fun h => taken (genSensed b) (if_pos h),
    fun h => taken _ (levelChanges_changed n b s h), fun h => taken (levelChanges n b) (if_pos h)⟩
end

section
/-! SUPPORT. The operations that can move the stage or the hold, each of which keeps the mode derived and the stage
fitting it (R15, R45). -/

namespace Sys2Proof.Machine

/-! ## The charge controller's own moves (R47, R51 to R54, R60 to R69) -/

/-- From one charging stage to another. -/
theorem changeStage_modeStep (new : Stage) (s : State) (source : s.charge.stage.charges = true)
    (goal : new.charges = true) : ModeStep s (changeStage new s) := by
  refine (changeStage_stands new s).modeStep fun h => ?_
  have notTest : s.charge.stage ≠ .test := fun e => by simp [e, Stage.charges] at source
  have notEqualize : s.charge.stage ≠ .equalize := fun e => by simp [e, Stage.charges] at source
  have notDischarge : s.charge.stage ≠ .discharge := fun e => by simp [e, Stage.charges] at source
  have plain : s.charge.Plain := Charge.Fits.plain h notTest notEqualize
  have mode : s.sup.mode = .mains ∨ s.sup.mode = .generator := by
    have noBattery := mt h.1.2 notDischarge
    cases hm : s.sup.mode <;> simp_all
  have fits : (changeStage new s).charge.Fits s.sup.mode :=
    Charge.Plain.fits_charging (by simpa [Charge.Plain] using plain) (by simpa using goal) mode
  simpa [stageFits_iff] using fits

/-- R69: a test ends in a charging stage. -/
theorem endTest_modeStep (outcome : TestOutcome) (next : Stage) (s : State) (goal : next.charges = true) :
    ModeStep s (endTest outcome next s) := by
  refine (endTest_stands outcome next s).modeStep fun h => ?_
  by_cases none_ : s.charge.test = none
  · simpa [endTest, none_] using h
  · obtain ⟨-, onlyMains, inTest, running⟩ := h
    have inFlight := Option.isSome_iff_ne_none.2 none_
    have stage : s.charge.stage = .test := inTest.1 inFlight
    have notRunning : s.charge.eq.state ≠ .running := by simp [running, stage]
    have fits : (endTest outcome next s).charge.Fits s.sup.mode :=
      Charge.Plain.fits_charging (by simpa [Charge.Plain, endTest_charge] using notRunning)
        (by simpa [endTest_charge, inFlight] using goal) (.inl (onlyMains (.inr stage)))
    simpa [stageFits_iff] using fits

theorem judgeTest_modeStep (s : State) : ModeStep s (judgeTest s) := by
  unfold judgeTest
  split
  · exact .refl s
  · next t inFlight =>
    refine ModeStep.trans (t := s.onCharge fun c => { c with test := some { t with elapsed := t.elapsed + 1 } })
      (.of_eq (by simp [inFlight])) ?_
    exact .ite _ (fun _ => endTest_modeStep _ _ _ (bulkOrFloat_charges _)) fun _ =>
      .ite _ (fun _ => endTest_modeStep _ _ _ (bulkOrFloat_charges _)) fun _ => .refl _

theorem abortIfUnsync_modeStep (s : State) : ModeStep s (abortIfUnsync s) :=
  .ite _ (fun _ => endTest_modeStep _ _ s (bulkOrFloat_charges s)) fun _ => .refl s

theorem intervalTest_modeStep (s : State) : ModeStep s (intervalTest s) := by
  unfold intervalTest
  exact .ite _ (fun h => .of_eq (by simp [h.2.2])) fun _ => .refl s

/-- R61: an equalize begins, in FLOAT and MAINS. -/
theorem equalizeEntered_modeStep (s : State) (f : EqRec → EqRec) (stage : s.charge.stage = .float)
    (mode : s.sup.mode = .mains) (running : (f s.charge.eq).state = .running) :
    ModeStep s (changeStage .equalize (s.onCharge fun c => { c with eq := f c.eq })) := by
  have stands : Stands modeCodes s (changeStage .equalize (s.onCharge fun c => { c with eq := f c.eq })) :=
    Stands.trans (.of_eq (by simp)) (changeStage_stands .equalize _)
  refine stands.modeStep fun h => ?_
  have noTest : s.charge.test = none := by simpa [stage] using h.2.2.1
  simp [State.StageFits, mode, running, noTest]

theorem equalizeBegin_modeStep (s : State) : ModeStep s (equalizeBegin s) := by
  unfold equalizeBegin
  refine .ite _ (fun h => ?_) fun _ => .refl s
  obtain ⟨stage, mode, -, -⟩ := h
  split
  · exact equalizeEntered_modeStep s (fun e => { e with
      state := .running, duration := s.inForce 1 16, remaining := s.inForce 1 16 * 60 }) stage mode rfl
  · exact equalizeEntered_modeStep s (fun e => { e with state := .running }) stage mode rfl
  · exact .refl s
  · exact .refl s

/-- R62 to R64: an equalize that is RUNNING ends in FLOAT. -/
theorem equalizeLeft_modeStep (s t : State) (stage : s.charge.stage = .equalize)
    (stands : Stands modeCodes s t) (float : t.charge.stage = .float) (test : t.charge.test = s.charge.test)
    (ended : t.charge.eq.state ≠ .running) : ModeStep s t := by
  refine stands.modeStep fun h => ?_
  have mains : s.sup.mode = .mains := h.2.1 (.inl stage)
  have noTest : s.charge.test = none := by simpa [stage] using h.2.2.1
  simp [State.StageFits, stands.sup, mains, float, test, noTest, ended]

theorem equalizeDone_modeStep (s : State) (stage : s.charge.stage = .equalize) : ModeStep s (equalizeDone s) := by
  refine equalizeLeft_modeStep s _ stage ?_ (by simp [equalizeDone]) (by simp [equalizeDone])
    (by simp [equalizeDone, EqRec.ended])
  exact (changeStage_stands .float s).trans
    (Stands.trans (t := State.onCharge _ _) (.of_eq (by simp)) (post_stands modeCodes .equalizeEnd _ _ _))

theorem equalizeWork_modeStep (s : State) (stage : s.charge.stage = .equalize) : ModeStep s (equalizeWork s) := by
  unfold equalizeWork
  refine .ite _ (fun _ => equalizeDone_modeStep s stage) fun _ => ?_
  refine ModeStep.trans (t := s.onCharge fun c => { c with eq := { c.eq with remaining := c.eq.remaining - 1 } })
    (.of_eq (by simp)) ?_
  refine .ite _ (fun _ => ?_) fun _ => .refl _
  refine equalizeLeft_modeStep _ _ stage ((suspendEqualize_stands _ _).trans (changeStage_stands _ _)) (by simp) ?_ ?_
  · simp only [suspendEqualize]
    split <;> simp
  · simp only [suspendEqualize, changeStage_record]
    split <;> simp_all

theorem serveEqualizeStop_modeStep (s : State) : ModeStep s (serveEqualizeStop s).1 := by
  cases state : s.charge.eq.state <;> simp only [serveEqualizeStop, state]
  case none => exact .of_eq (by simp)
  case pending => exact .of_eq (by simp [EqRec.ended, state])
  case suspended => exact .of_eq (by simp [EqRec.ended, state])
  case running =>
    have stands : Stands modeCodes s (post .equalizeEnd 1 (s.charge.eq.remaining / 60)
        ((changeStage .float s).onCharge fun c => { c with eq := c.eq.ended })) :=
      (changeStage_stands .float s).trans (Stands.trans (t := State.onCharge _ _) (.of_eq (by simp)) (post_stands _ _ _ _ _))
    by_cases stage : s.charge.stage = .equalize
    · exact equalizeLeft_modeStep s _ stage stands (by simp) (by simp) (by simp [EqRec.ended])
    · exact stands.modeStep fun h => absurd (h.2.2.2.1 state) stage

theorem serveEqualizeStart_modeStep (s : State) : ModeStep s (serveEqualizeStart s).1 := by
  unfold serveEqualizeStart
  split
  · next state => exact .of_eq (by simp [state])
  · exact .refl s

theorem serveTestStart_modeStep (target : Nat) (s : State) : ModeStep s (serveTestStart target s).1 := by
  unfold serveTestStart
  split
  · exact .refl s
  · next t _ =>
    split
    · next h =>
      obtain ⟨stage, mode, -, notRunning, -⟩ := h
      have stands : Stands modeCodes s (changeStage .test (beginCounts (s.onCharge fun c =>
          { c with test := some { target := t, acceptedAt := s.stamp, elapsed := 0 } }))) :=
        Stands.trans (.of_eq (by simp)) (changeStage_stands .test _)
      exact stands.modeStep fun _ => by simp [State.StageFits, mode, notRunning]
    · exact .refl s

theorem serveTestAbort_modeStep (s : State) : ModeStep s (serveTestAbort s).1 := by
  unfold serveTestAbort
  split
  · exact endTest_modeStep _ _ s (bulkOrFloat_charges s)
  · exact .refl s

/-! ## The charge controller at a measurement event -/

theorem tailExit_modeStep (s : State) (stage : s.charge.stage = .absorb) : ModeStep s (tailExit s) := by
  have reported : ModeStep s (reportTail (fullCharge s)) := by
    unfold reportTail
    split <;> exact .of_eq (by simp)
  exact reported.trans (changeStage_modeStep .float _ (by simp [stage, Stage.charges]) rfl)

theorem stageWork_modeStep (hot cooled : Bool) (s : State) : ModeStep s (stageWork hot cooled s) := by
  have moved (new : Stage) (source : s.charge.stage.charges = true) (goal : new.charges = true) :
      ModeStep s (changeStage new s) := changeStage_modeStep new s source goal
  cases stage : s.charge.stage <;> simp only [stageWork, stage]
  case bulk =>
    have source : s.charge.stage.charges = true := by rw [stage]; rfl
    exact .ite _ (fun _ => moved .float source rfl) fun _ =>
      .ite _ (fun _ => moved .absorb source rfl) fun _ => .of_eq (by simp)
  case absorb =>
    have source : s.charge.stage.charges = true := by rw [stage]; rfl
    exact .ite _ (fun _ => tailExit_modeStep s stage) fun _ => .ite _ (fun _ => moved .float source rfl) fun _ =>
      .ite _ (fun _ => moved .float source rfl) fun _ => .of_eq (by simp)
  case float =>
    have source : s.charge.stage.charges = true := by rw [stage]; rfl
    refine .ite _ (fun _ => moved .bulk source rfl) fun _ => .ite _ (fun _ => equalizeBegin_modeStep s) fun _ =>
      .ite _ (fun _ => moved .bulk source rfl) fun _ => ?_
    exact ModeStep.trans (t := State.onCharge _ _) (.of_eq (by simp)) (equalizeBegin_modeStep _)
  case equalize => exact equalizeWork_modeStep s stage
  case discharge | test => exact .refl s

theorem formTemps_modeStep (s : State) : ModeStep s (formTemps s) := by
  exact .of_eq (by simp [formTemps])

theorem chargeEvent_modeStep (s : State) : ModeStep s (chargeEvent s) := by
  have tested (u : State) : ModeStep u (if u.store.fresh.contains 1 then intervalTest u else u) :=
    .ite _ (fun _ => intervalTest_modeStep u) fun _ => .refl u
  have judged (u : State) : ModeStep u (recomputeSetpoint (abortIfUnsync u)) :=
    (abortIfUnsync_modeStep u).trans (.of_eq (by simp))
  have reported (u : State) : ModeStep u (reportCapacityLow (reportOverdue (recomputeIbl u))) := .of_eq (by simp)
  have latched (u : State) (latch armed : Charge → Bool) :
      ModeStep u (u.onCharge fun c => { c with latch := latch c, armed := armed c }) := .of_eq (by simp)
  unfold chargeEvent
  exact (((((formTemps_modeStep s).trans (tested _)).trans (latched _ _ _)).trans (judged _)).trans
    (.ite _ (fun _ => stageWork_modeStep _ _ _) fun _ => .refl _)).trans (reported _)

theorem chargeDayBoundary_modeStep (s : State) : ModeStep s (chargeDayBoundary s) := by
  have counted (f : EqRec → EqRec) (h : (f s.charge.eq).state = s.charge.eq.state) :
      ModeStep s (s.onCharge fun c => { c with eq := f c.eq }) := .of_eq (by simp [h])
  unfold chargeDayBoundary
  exact ((counted (fun e => { e with
      dayCount := min 65535 (e.dayCount + 1)
      daysWaiting :=
        if e.state = .pending ∨ e.state = .suspended then min 65535 (e.daysWaiting + 1) else e.daysWaiting })
    rfl).trans (intervalTest_modeStep _)).trans (.of_eq (by simp))

end Sys2Proof.Machine
end

section
/-! SUPPORT and the statement about the measurement event (R3 to R8): the presentation, then each block's turn once. -/

namespace Sys2Proof.Machine

/-! ## A block's turn -/

/-- What a block's turn at a measurement event leaves as it was. -/
structure TurnKept (s t : State) : Prop where
  supply : t.powered = s.powered ∧ t.markerGood = s.markerGood
  meas : t.meas = s.meas
  store : t.store = { s.store with unlocked := t.store.unlocked, idle := t.store.idle }
  exchange : t.bus.exchange = { s.bus.exchange with orphan := t.bus.exchange.orphan }
  tag : t.bus.tag = s.bus.tag
  link : t.link = { s.link with snapshot := t.link.snapshot }
  time : s.cal.SameTime t.cal

/-- A turn that stays within the state's parts no statement of the event speaks of. -/
theorem TurnKept.of_eq {s t : State}
    (h : (t.powered = s.powered ∧ t.markerGood = s.markerGood) ∧ t.meas = s.meas ∧ t.store = s.store ∧ t.bus = s.bus ∧
      t.link = s.link) (time : s.cal.SameTime t.cal) : TurnKept s t := by
  obtain ⟨supply, meas, store, bus, link⟩ := h
  exact ⟨supply, meas, by rw [store], by rw [bus], by rw [bus], by rw [link], time⟩

theorem TurnKept.refl (s : State) : TurnKept s s := .of_eq (by simp) (.refl _)

theorem TurnKept.trans {s t u : State} (h : TurnKept s t) (k : TurnKept t u) : TurnKept s u where
  supply := ⟨k.supply.1.trans h.supply.1, k.supply.2.trans h.supply.2⟩
  meas := k.meas.trans h.meas
  store := by rw [k.store, h.store]
  exchange := by rw [k.exchange, h.exchange]
  tag := k.tag.trans h.tag
  link := by rw [k.link, h.link]
  time := h.time.trans k.time

theorem calendarEvent_time (s : State) : s.cal.SameTime (calendarEvent s).cal := by
  unfold calendarEvent
  dsimp only
  split
  · have forgotten := onCal_step [] (fun c => { c with handAgain := false }) s (by exact ⟨rfl, rfl, rfl⟩)
    split
    · exact forgotten.time
    · exact forgotten.time.trans (takeExercise_step _).time
  · exact .refl _

theorem storeEvent_kept (s : State) : TurnKept s (storeEvent s) := by
  unfold storeEvent relock
  dsimp only
  (repeat' split) <;> exact ⟨⟨rfl, rfl⟩, rfl, rfl, rfl, rfl, rfl, .refl _⟩

theorem busEvent_kept (s : State) : TurnKept s (busEvent s) where
  supply := by simp
  meas := by simp
  store := by simp
  exchange := by simp [busEvent, refitLinks]
  tag := by simp [busEvent, refitLinks]
  link := by simp
  time := by simp [Cal.SameTime]

theorem blockEvent_kept (b : Block) (s : State) : TurnKept s (blockEvent b s) := by
  cases b with
  | generator => exact .of_eq (t := genEvent s) (by simp) (genEvent_step s).time
  | calendar => exact .of_eq (t := calendarEvent s) (by simp) (calendarEvent_time s)
  | moduleBus => exact busEvent_kept s
  | store => exact storeEvent_kept s
  | link => exact ⟨⟨rfl, rfl⟩, rfl, rfl, rfl, rfl, rfl, .refl _⟩
  | _ => exact .of_eq (by simp [blockEvent]) (by simp [blockEvent, Cal.SameTime])

theorem turns_kept (turns : List Block) (s : State) :
    TurnKept s (turns.foldl (fun v b => blockEvent b v) s) := by
  induction turns generalizing s with
  | nil => exact .refl s
  | cons b turns ih => exact (blockEvent_kept b s).trans (ih _)

/-! ## The order, completed -/

/-- A block is put at the end of an order that does not name it yet. -/
def nameOnce (l : List Block) (b : Block) : List Block := if l.contains b then l else l ++ [b]

theorem nameOnce_nodup {l : List Block} (h : l.Nodup) (b : Block) : (nameOnce l b).Nodup := by
  unfold nameOnce
  split
  · exact h
  · exact List.nodup_append.2 ⟨h, List.nodup_singleton b, by
      rintro x hx y hy rfl
      simp_all⟩

theorem mem_nameOnce (l : List Block) (b x : Block) : x ∈ nameOnce l b ↔ x ∈ l ∨ x = b := by
  unfold nameOnce
  split
  · constructor
    · exact .inl
    · rintro (h | rfl)
      · exact h
      · simpa using ‹l.contains x = true›
  · simp

theorem foldl_nameOnce_nodup (more : List Block) {l : List Block} (h : l.Nodup) : (more.foldl nameOnce l).Nodup := by
  induction more generalizing l with
  | nil => exact h
  | cons b more ih => exact ih (nameOnce_nodup h b)

theorem mem_foldl_nameOnce (more l : List Block) (x : Block) : x ∈ more.foldl nameOnce l ↔ x ∈ l ∨ x ∈ more := by
  induction more generalizing l with
  | nil => simp
  | cons b more ih => simp [ih, mem_nameOnce, or_assoc]

theorem fullOrder_nodup (order : List Block) : (fullOrder order).Nodup := foldl_nameOnce_nodup _ .nil

theorem mem_fullOrder (order : List Block) (b : Block) : b ∈ fullOrder order := by
  refine (mem_foldl_nameOnce _ [] b).2 (.inr (List.mem_append_right order ?_))
  cases b <;> simp [allBlocks]

/-! ## The presentation (R3 to R8) -/

theorem within_iff (lo hi x : Int) : within lo hi x = true ↔ lo ≤ x ∧ x ≤ hi := decide_eq_true_iff

theorem clampReading_eq (hi : Nat) (x : Int) :
    clampReading hi x = if x < 0 then 0 else if (hi : Int) < x then hi else x.toNat := by
  unfold clampReading
  split
  · omega
  · split <;> omega

theorem presentString_eq (fits : Bool) (x : Int) (c : Channel) :
    presentString fits x c =
      if fits = false then { reading := 0, validity := .notFitted, held := 0, last := none }
      else if -10000 ≤ x ∧ x ≤ 10000 then { reading := x, validity := .valid, held := 0, last := some x }
      else if c.held < 10 then
        { reading := c.last.getD 0, validity := .held, held := c.held + 1, last := c.last }
      else { reading := 0, validity := .unusable, held := 10, last := c.last } := by
  unfold presentString
  simp only [Bool.not_eq_eq_eq_not, Bool.not_true, within_iff]
  by_cases full : 10 ≤ c.held
  · simp [full, Nat.not_lt.2 full, unfittedChannel]
  · simp [full, Nat.lt_of_not_le full, unfittedChannel]

theorem presentTherm_eq (fallback : Nat) (x : Int) (c : Channel) :
    presentTherm fallback x c =
      if -400 ≤ x ∧ x ≤ 900 then { reading := x, validity := .valid, held := 0, last := some x }
      else if c.last = none ∨ c.validity = .fallback ∨ c.validity = .held ∧ 600 ≤ c.held + 1 then
        { reading := fallback, validity := .fallback, held := 600, last := c.last }
      else
        { reading := c.last.getD 0, validity := .held
          held := if c.validity = .held then c.held + 1 else 0, last := c.last } := by
  unfold presentTherm
  simp only [within_iff]
  cases last : c.last <;> simp [Channel.fallBack, last]

theorem presentFuel_fuel (fitted : Bool) (x : Int) (m : Meas) :
    ((presentFuel fitted x m).fuel, (presentFuel fitted x m).fuelValidity, (presentFuel fitted x m).lastFuel) =
      if fitted = false then (100, .notFitted, m.lastFuel)
      else if 0 ≤ x ∧ x ≤ 100 then (x.toNat, .valid, x.toNat)
      else (m.lastFuel, .held, m.lastFuel) := by
  unfold presentFuel
  simp only [Bool.not_eq_eq_eq_not, Bool.not_true, within_iff]
  (repeat' split) <;> rfl

@[simp] theorem presentFuel_frame (fitted : Bool) (x : Int) (m : Meas) :
    (presentFuel fitted x m).bus = m.bus ∧ (presentFuel fitted x m).busValidity = m.busValidity ∧
    (presentFuel fitted x m).load = m.load ∧ (presentFuel fitted x m).loadValidity = m.loadValidity ∧
    (presentFuel fitted x m).strings = m.strings ∧ (presentFuel fitted x m).therms = m.therms ∧
    (presentFuel fitted x m).mainsSense = m.mainsSense ∧ (presentFuel fitted x m).mainsQualified = m.mainsQualified ∧
    (presentFuel fitted x m).mainsTimer = m.mainsTimer ∧ (presentFuel fitted x m).genSense = m.genSense ∧
    (presentFuel fitted x m).genPresent = m.genPresent ∧ (presentFuel fitted x m).genTimer = m.genTimer ∧
    (presentFuel fitted x m).inputs = m.inputs := by
  unfold presentFuel
  split
  · simp
  · split <;> simp

theorem raiseEvent_presented (r : Readings) (s : State) :
    EventPresented r s (raiseEvent r s |>.onStore fun x => { x with fresh := [] }) where
  bus := by
    simp only [raiseEvent, presentReadings, State.onStore, State.onMeas, presentFuel_frame, clampReading_eq,
      clampValidity, within_iff]
    exact ⟨rfl, rfl⟩
  load := by
    simp only [raiseEvent, presentReadings, State.onStore, State.onMeas, presentFuel_frame, clampReading_eq,
      clampValidity, within_iff]
    exact ⟨rfl, rfl⟩
  strings i hi := by
    have presented : (raiseEvent r s).stringChannel i =
        presentString (decide (i < s.now 0 9)) (stringReading r i) (s.stringChannel i) := by
      simp [raiseEvent, presentReadings, State.stringChannel, State.onMeas, hi]
      rfl
    refine presented.trans ((presentString_eq _ _ _).trans ?_)
    simp
  therms i hi := by
    have presented : (raiseEvent r s).therm i = presentTherm (s.now 1 6) (thermReading r i) (s.therm i) := by
      simp [raiseEvent, presentReadings, State.therm, State.onMeas, hi]
      rfl
    exact presented.trans (presentTherm_eq _ _ _)
  fuel := by
    refine (presentFuel_fuel (s.now 3 26 == 1) r.fuel _).trans ?_
    simp only [secondPasses, State.onMeas, State.onStore, State.onSup, State.onAcct, beq_eq_false_iff_ne, ne_eq]
  senses := by
    simp [raiseEvent, presentReadings, secondPasses, State.onMeas, State.onStore, State.onSup, State.onAcct]
  settings := rfl
  exchange := by simp [State.onStore]
  link := by simp [State.onStore]
  time := by simp [State.onStore, State.stamp]
  supply := by simp [State.onStore]

/-- What the event presents, the blocks' turns leave. -/
theorem EventPresented.kept {r : Readings} {s t u : State}
    (h : EventPresented r s (t.onStore fun x => { x with fresh := [] })) (k : TurnKept t u) :
    EventPresented r s (u.onStore fun x => { x with fresh := [] }) where
  bus := by simpa [State.onStore, k.meas] using h.bus
  load := by simpa [State.onStore, k.meas] using h.load
  strings i hi := by simpa [State.onStore, State.stringChannel, k.meas] using h.strings i hi
  therms i hi := by simpa [State.onStore, State.therm, k.meas] using h.therms i hi
  fuel := by simpa [State.onStore, k.meas] using h.fuel
  senses := by simpa [State.onStore, k.meas] using h.senses
  settings := by
    have settings := h.settings
    simp only [State.onStore] at settings ⊢
    rw [k.store]
    simp_all
  exchange := ⟨by
    have kept := h.exchange.1
    simp only [State.onStore] at kept ⊢
    rw [k.exchange, kept], k.tag.trans h.exchange.2⟩
  link := by
    have kept := h.link
    simp only [State.onStore] at kept ⊢
    rw [k.link, kept]
  time := ⟨k.time.1.trans h.time.1, k.time.2.1.trans h.time.2.1, k.time.2.2.trans h.time.2.2⟩
  supply := ⟨k.supply.1.trans h.supply.1, k.supply.2.trans h.supply.2⟩

end Sys2Proof.Machine

open Sys2Proof Sys2Proof.Machine

/-- Settles O15: what the event presents stands through the turns. -/
theorem eventPresentsTheReadings : Obligations.EventPresentsTheReadings := by
  intro r order s on
  have led : exec (.measurementEvent r order) s = .next (measurementEvent r order s) := whenPowered_on s _ on
  exact ⟨⟨_, led, (raiseEvent_presented r s).kept (turns_kept _ _)⟩, fullOrder_nodup order, mem_fullOrder order, led⟩
end

section
/-! SUPPORT and the statement about a string channel that becomes UNUSABLE (R7, R29, R68). -/

namespace Sys2Proof.Machine

/-- Two states agree when their fifteen parts do. -/
theorem State.ext_parts {s t : State} (pending : s.pending = t.pending) (powered : s.powered = t.powered)
    (markerGood : s.markerGood = t.markerGood) (meas : s.meas = t.meas) (sup : s.sup = t.sup) (acct : s.acct = t.acct)
    (charge : s.charge = t.charge) (prot : s.prot = t.prot) (rect : s.rect = t.rect) (bus : s.bus = t.bus)
    (gen : s.gen = t.gen) (cal : s.cal = t.cal) (alarm : s.alarm = t.alarm) (store : s.store = t.store)
    (link : s.link = t.link) : s = t := by
  cases s
  cases t
  simp_all

/-! ## The string records -/

theorem mapStrings_stringRec (f : Nat → StringRec → StringRec) (s : State) {n : Nat} (hn : n < 4) :
    (mapStrings f s).stringRec n = (s.stringRec n).map (f n) := by
  simp [mapStrings, State.onAcct, State.stringRec, hn]

theorem stringRec_congr {s t : State} (h : t.acct = s.acct) (n : Nat) : t.stringRec n = s.stringRec n := by
  simp [State.stringRec, h]

/-- The account of a record, its sync flag and the capacity it is kept for. -/
def StringRec.account? (r : StringRec) : Nat × Nat × Int × Sync := (r.capacity, r.account, r.residue, r.sync)

/-- From `s` to `t` the accounts of the four strings stand, and with them which strings have one. -/
structure AccountsKept (s t : State) : Prop where
  account : ∀ n, n < 4 → (t.stringRec n).map StringRec.account? = (s.stringRec n).map StringRec.account?

theorem AccountsKept.of_eq {s t : State} (h : t.acct = s.acct) : AccountsKept s t :=
  ⟨fun n _ => by rw [stringRec_congr h]⟩

theorem AccountsKept.trans {s t u : State} (h : AccountsKept s t) (k : AccountsKept t u) : AccountsKept s u :=
  ⟨fun n hn => (k.account n hn).trans (h.account n hn)⟩

/-- R40: the results of a test are no part of the account. -/
theorem writeResults_accounts (outcome : TestOutcome) (target minutes : Nat) (s : State) :
    AccountsKept s (writeResults outcome target minutes s) where
  account n hn := by
    rw [writeResults, mapStrings_stringRec _ s hn, Option.map_map]
    rfl

theorem endTest_accounts (outcome : TestOutcome) (next : Stage) (s : State) :
    AccountsKept s (endTest outcome next s) := by
  unfold endTest
  split
  · exact .of_eq rfl
  · next t _ => exact (writeResults_accounts outcome t.target (t.elapsed / 60) s).trans (.of_eq (by simp))

theorem abortIfUnsync_accounts (s : State) : AccountsKept s (abortIfUnsync s) := by
  unfold abortIfUnsync
  split
  · exact endTest_accounts _ _ s
  · exact .of_eq rfl

theorem chargeModeChange_accounts (old : Mode) (s : State) : AccountsKept s (chargeModeChange old s) := by
  have suspended : AccountsKept s (suspendEqualize s) := .of_eq (by simp)
  unfold chargeModeChange
  split
  · exact (suspended.trans (endTest_accounts .aborted .discharge _)).trans (.of_eq (by simp))
  · exact (suspended.trans (endTest_accounts .aborted .discharge _)).trans (.of_eq (by simp))
  · split <;> exact .of_eq (by simp)
  · split
    case h_4 =>
      split
      case h_2 => exact (endTest_accounts .aborted (bulkOrFloat s) s).trans (.of_eq (by simp))
      all_goals exact .of_eq (by simp)
    all_goals exact .of_eq (by simp)

theorem abortIfUnsync_stands (s : State) : Stands modeCodes s (abortIfUnsync s) :=
  .ite _ (fun _ => endTest_stands _ _ s) fun _ => .refl s

theorem accountReport_stands (s : State) : Stands [alAccountLow, alAccountUnsync] s (accountReport s) :=
  (report_stands alAccountLow _ s (by decide)).trans (report_stands alAccountUnsync _ _ (by decide))

/-- R68: no test goes on with a fitted string UNSYNC. -/
theorem abortIfUnsync_test {s : State} {n : Nat} {r : StringRec} (held : s.stringRec n = some r)
    (unsync : r.sync = .unsync) : (abortIfUnsync s).charge.test = none := by
  have fitted : r ∈ s.fittedStrings := by
    refine List.mem_filterMap.2 ⟨some r, ?_, rfl⟩
    have short : n < s.acct.strings.length := by
      by_contra h
      simp [State.stringRec, List.getD_eq_getElem?_getD, List.getElem?_eq_none (Nat.le_of_not_lt h)] at held
    rw [← held, State.stringRec, List.getD_eq_getElem _ _ short]
    exact List.getElem_mem short
  have found : (s.fittedStrings.any fun r => !r.trusted) = true :=
    List.any_eq_true.2 ⟨r, fitted, by simp [StringRec.trusted, unsync]⟩
  rw [abortIfUnsync, if_pos found]
  exact (endTest_charge _ _ s).1

/-! ## The channel expires -/

/-- R7, R29: the channel presents 0, STRING_FAULT is reported and the string's account is not to be trusted. -/
def channelLost (i : Nat) (s : State) : State :=
  makeUnsync i (report (alStringFault + i) true
    (onChannel i (fun c => { c with reading := 0, validity := .unusable, held := 10 }) s))

theorem channelLost_stringRec (i : Nat) (s : State) {n : Nat} (hn : n < 4) :
    (channelLost i s).stringRec n = (s.stringRec n).map fun r => if n = i then { r with sync := .unsync } else r := by
  rw [channelLost, makeUnsync, mapStrings_stringRec _ _ hn, stringRec_congr (s := s) (by simp)]

theorem channelLost_record (i : Nat) (s : State) (h : alStringFault + i < s.alarm.records.length) :
    ((channelLost i s).record (alStringFault + i)).cond = true := by
  have reported := report_cond (alStringFault + i) true
    (onChannel i (fun c => { c with reading := 0, validity := .unusable, held := 10 }) s) (by simpa using h)
  simpa [channelLost, State.record] using reported

theorem channelExpires_eq {i : Nat} {s : State} (held : (s.stringChannel i).validity = .held)
    (count : 11 ≤ (s.stringChannel i).held + 1) :
    channelExpires i s = abortIfUnsync (accountReport (channelLost i s)) :=
  if_pos ⟨held, (due_iff 11 _).2 count⟩

end Sys2Proof.Machine

open Sys2Proof Sys2Proof.Machine

/-- Settles O19: the channel is lost, then the account unit reports and the charge controller ends a test. -/
theorem unusableChannelUnsyncsItsString : Obligations.UnusableChannelUnsyncsItsString := by
  intro i s on complete held count
  have led : exec (.stringChannelUnusable i) s = .next (abortIfUnsync (accountReport (channelLost i s))) :=
    (whenPowered_on s _ on).trans (congrArg _ (channelExpires_eq held count))
  have after : AccountsKept (channelLost i s) (abortIfUnsync (accountReport (channelLost i s))) :=
    AccountsKept.trans (t := accountReport (channelLost i s)) (.of_eq (by simp)) (abortIfUnsync_accounts _)
  refine ⟨_, led, ?_, fun n hn => ?_, ?_, fun fitted => ?_, ?_⟩
  · simp [channelLost, onChannel, State.onMeas]
  · have kept := congrArg (Option.map Prod.snd) (after.account n hn)
    rw [channelLost_stringRec _ _ hn] at kept
    simp only [Option.map_map] at kept
    refine kept.trans (congrArg (fun f => (s.stringRec n).map f) (funext fun r => ?_))
    by_cases same : n = i <;> simp [same, StringRec.account?]
  · have reports : AlarmsWithin (modeCodes ++ [alAccountLow, alAccountUnsync]) (channelLost i s)
        (abortIfUnsync (accountReport (channelLost i s))) :=
      ((accountReport_stands _).mono (by simp)).toAlarmsWithin.trans
        ((abortIfUnsync_stands _).mono (by simp)).toAlarmsWithin
    have kept := reports.record (alStringFault + i) (by fin_cases i <;> decide)
    exact (congrArg AlarmRec.cond kept).trans (channelLost_record i s (by simp only [alStringFault]; omega))
  · obtain ⟨r, string⟩ := Option.isSome_iff_exists.1 fitted
    have lost : (accountReport (channelLost i s)).stringRec i = some { r with sync := .unsync } := by
      rw [stringRec_congr (s := channelLost i s) (by simp), channelLost_stringRec i s i.isLt, string]
      simp
    exact abortIfUnsync_test lost rfl
  · apply State.ext_parts <;> simp [channelLost]
end

section
/-! SUPPORT. Every command keeps the mode derived and the stage fitting it (R15, R45). -/

namespace Sys2Proof.Machine

/-! ## The contactors (R79, R81) -/

/-- The mode derived anew after an input of it has moved. -/
theorem rederive_modeStep (s u : State) (charge : u.charge = s.charge) (sup : u.sup = s.sup) :
    ModeStep s (rederive u) where
  derived _ := rederive_derived u
  fits h := rederive_fits u (by rw [stageFits_iff, charge, sup]; exact h)

theorem openBpd_modeStep (s : State) : ModeStep s (openBpd s) := rederive_modeStep s _ (by simp) (by simp)

theorem closeBpd_modeStep (s : State) : ModeStep s (closeBpd s) := rederive_modeStep s _ (by simp) (by simp)

theorem openNel_modeStep (cause : ShedCause) (s : State) : ModeStep s (openNel cause s) :=
  .of_eq (by simp [openNel])

theorem closeNel_modeStep (s : State) : ModeStep s (closeNel s) := .of_eq (by simp [closeNel])

/-- The protection unit writes of itself what is not the BPD. -/
theorem onProt_modeStep (f : Prot → Prot) (s : State) (bpd : (f s.prot).bpd = s.prot.bpd) :
    ModeStep s (s.onProt f) := .of_eq (by simp [bpd])

theorem shedWork_modeStep (s : State) : ModeStep s (shedWork s) := by
  unfold shedWork
  exact .ite _ (fun _ => .ite _ (fun _ => openNel_modeStep _ s) fun _ => .ite _ (fun _ => openNel_modeStep _ s) fun _ =>
    .ite _ (fun _ => openNel_modeStep _ s) fun _ => onProt_modeStep _ s rfl) fun _ => onProt_modeStep _ s rfl

theorem nelWork_modeStep (s : State) : ModeStep s (nelWork s) := by
  unfold nelWork
  exact .ite _ (fun _ => .ite _ (fun _ => closeNel_modeStep s) fun _ => onProt_modeStep _ s rfl) fun _ => onProt_modeStep _ s rfl

theorem disconnectWork_modeStep (s : State) : ModeStep s (disconnectWork s) := by
  unfold disconnectWork
  exact .ite _ (fun _ => .ite _ (fun _ => openBpd_modeStep s) fun _ => onProt_modeStep _ s rfl) fun _ => onProt_modeStep _ s rfl

theorem reconnectWork_modeStep (s : State) : ModeStep s (reconnectWork s) := by
  unfold reconnectWork
  exact .ite _ (fun _ => .ite _ (fun _ => closeBpd_modeStep s) fun _ => onProt_modeStep _ s rfl) fun _ => onProt_modeStep _ s rfl

theorem dischargeWork_modeStep (s : State) : ModeStep s (dischargeWork s) := .of_eq (by simp [dischargeWork])

theorem protectionEvent_modeStep (s : State) : ModeStep s (protectionEvent s) := by
  have reported (u : State) : ModeStep u (reportBus u) := .of_eq (by simp)
  unfold protectionEvent
  exact ((ModeStep.trans (.ite _ (fun _ => nelWork_modeStep s) fun _ => shedWork_modeStep s)
    (.ite _ (fun _ => reconnectWork_modeStep _) fun _ => disconnectWork_modeStep _)).trans
      (dischargeWork_modeStep _)).trans (reported _)

/-! ## Mains (R9, R15, R136) -/

/-- R9, R15: the qualification is set, and the source supervisor has derived its values from it. -/
def mainsSupervised (qualified : Bool) (s : State) : State :=
  supervise (s.onMeas fun m => { m with mainsQualified := qualified, mainsTimer := none })

/-- R16: the charge controller, the protection unit and the scheduler have acted on a change of mains. -/
def mainsActed (qualified : Bool) (s : State) : State :=
  actOnMode s.sup (report alMainsFail (!qualified) (mainsSupervised qualified s))

theorem setMains_eq (qualified : Bool) (s : State) : setMains qualified s = genMainsChanged (mainsActed qualified s) := rfl

theorem mainsSupervised_derived (qualified : Bool) (s : State) : (mainsSupervised qualified s).ModeDerived := by
  have same := derive_congr (s := s.onMeas fun m => { m with mainsQualified := qualified, mainsTimer := none })
    (t := mainsSupervised qualified s) (by simp [mainsSupervised]) (by simp [mainsSupervised]) (by simp [mainsSupervised])
  simp only [State.ModeDerived, same]
  simp [mainsSupervised]

theorem mainsActed_derived (qualified : Bool) (s : State) : (mainsActed qualified s).ModeDerived := by
  have reported := (report_stands (codes := [alMainsFail]) alMainsFail (!qualified) (mainsSupervised qualified s)
    (by decide)).modeStep (by simp [State.StageFits])
  have derived := reported.derived (mainsSupervised_derived qualified s)
  have acted := actOnMode_stands s.sup (report alMainsFail (!qualified) (mainsSupervised qualified s))
  rw [State.ModeDerived, mainsActed, acted.sup, acted.derive.1, acted.derive.2]
  exact derived

/-- R15: whatever the values were, after a change of mains they are derived. -/
theorem setMains_derived (qualified : Bool) (s : State) : (setMains qualified s).ModeDerived :=
  (genMainsChanged_step _).derived (mainsActed_derived qualified s)

theorem setMains_modeStep (qualified : Bool) (s : State) : ModeStep s (setMains qualified s) where
  derived _ := setMains_derived qualified s
  fits h := (genMainsChanged_step _).fits (actOnMode_fits s.sup _ (by simpa [mainsSupervised, stageFits_iff] using h))

theorem mainsReturns_modeStep (s : State) : ModeStep s (mainsReturns s) :=
  .ite _ (fun _ => setMains_modeStep true s) fun _ => .refl s

theorem mainsFails_modeStep (s : State) : ModeStep s (mainsFails s) :=
  .ite _ (fun _ => setMains_modeStep false s) fun _ => .refl s

/-- The measurement unit writes of itself what is not the qualification of mains. -/
theorem onMeas_modeStep (f : Meas → Meas) (s : State)
    (mains : (f s.meas).mainsQualified = s.meas.mainsQualified) : ModeStep s (s.onMeas f) :=
  .of_eq (by simp [mains])

theorem genQualifies_modeStep (s : State) : ModeStep s (genQualifies s) :=
  .ite _ (fun _ => (onMeas_modeStep _ s rfl).trans (genAcChanged_step _).toModeStep) fun _ => .refl s

/-! ## The hold and the site inputs (R11 to R14, R18 to R21) -/

theorem endHold_modeStep (s : State) : ModeStep s (endHold s) :=
  .ite _ (fun _ => ModeStep.trans (.of_eq (by simp [clearHold]))
    (evaluateStart_step _).toModeStep) fun _ => .refl s

theorem beginHold_modeStep (cause : HoldCause) (minutes : Nat) (s : State) : ModeStep s (beginHold cause minutes s) :=
  .of_eq (by simp [beginHold])

theorem keyTurned_modeStep (s : State) : ModeStep s (keyTurned s) :=
  .ite _ (fun _ => beginHold_modeStep _ _ s) fun _ => .refl s

theorem keyWithdrawn_modeStep (s : State) : ModeStep s (keyWithdrawn s) := by
  have relocked (u : State) : ModeStep u (relockKeyed u) := .of_eq (by simp)
  unfold keyWithdrawn
  exact ModeStep.trans (.ite _ (fun _ => endHold_modeStep s) fun _ => .refl s) (relocked _)

theorem handFunction_modeStep (f : Nat) (s : State) : ModeStep s (handFunction f s) := by
  unfold handFunction
  exact .ite _ (fun _ => .ite _ (fun _ => keyTurned_modeStep s) fun _ => keyWithdrawn_modeStep s) fun _ =>
    .ite _ (fun _ => (inhibitChanged_step s).toModeStep) fun _ =>
    .ite _ (fun _ => .ite _ (fun _ => (takeEngineFault_step s).toModeStep) fun _ => .refl s) fun _ =>
    .ite _ (fun _ => (reportFuel_step s).toModeStep) fun _ => .refl s

theorem inputQualifies_modeStep (n : Nat) (s : State) : ModeStep s (inputQualifies n s) := by
  unfold inputQualifies handIfChanged
  dsimp only
  refine ModeStep.trans (t := reportInput n (postEdge n (s.sense n)
    (onInput n (fun x => { x with active := s.sense n, timer := none }) s))) ?_
    (.ite _ (fun _ => .refl _) fun _ => handFunction_modeStep _ _)
  exact .of_eq (by simp [onInput])

theorem persistenceExpires_modeStep (n : Nat) (s : State) : ModeStep s (persistenceExpires n s) :=
  .ite _ (fun _ => inputQualifies_modeStep n s) fun _ => .refl s

/-! ## Completed store writes (R190, R194) -/

theorem mainsDelaysChanged_modeStep (old s : State) : ModeStep s (mainsDelaysChanged old s) := by
  unfold mainsDelaysChanged
  exact .ite _ (fun _ => mainsReturns_modeStep s) fun _ => .ite _ (fun _ => mainsFails_modeStep s) fun _ => .refl s

theorem exerciseSettings_modeStep (s : State) : ModeStep s (exerciseSettings s) :=
  .ite _ (fun _ => .refl s) fun _ => (exerciseWithdrawn_step [] s).toModeStep

theorem inputSettings_modeStep (old s : State) : ModeStep s (inputSettings old s) := by
  have reported : ModeStep s (functionReports old (repolarise s)) := .of_eq (by simp [repolarise])
  have persisted (u : State) (n : Nat) : ModeStep u (persistenceChanged old n u) :=
    .ite _ (fun _ => inputQualifies_modeStep n u) fun _ => .refl u
  exact (reported.trans (.foldl _ _ _ fun u f => handFunction_modeStep f u)).trans (.foldl _ _ _ persisted)

theorem trimToGen_modeStep (s : State) : ModeStep s (trimToGen s) := .of_eq (by simp)

theorem handGroup_modeStep (g : Nat) (old s : State) : ModeStep s (handGroup g old s) := by
  unfold handGroup
  exact .ite _ (fun _ => trimToGen_modeStep s) fun _ => .ite _ (fun _ => mainsDelaysChanged_modeStep old s) fun _ =>
    .ite _ (fun _ => (trimToGen_modeStep s).trans (exerciseSettings_modeStep _)) fun _ => .ite _ (fun _ => .of_eq (by simp)) fun _ =>
    .ite _ (fun _ => inputSettings_modeStep old s) fun _ => .refl s

theorem groupWriteCompletes_modeStep (s : State) : ModeStep s (groupWriteCompletes s) := by
  unfold groupWriteCompletes
  split
  · next g values _ =>
    have installed : ModeStep s (reportSettings (installGroup g values s)) := .of_eq (by simp)
    exact (installed.trans (handGroup_modeStep g s _)).trans (.of_eq (by simp))
  · exact .refl s
  · exact .refl s

/-! ## The measurement event (R3) -/

theorem raiseEvent_modeStep (r : Readings) (s : State) : ModeStep s (raiseEvent r s) := by
  exact .of_eq (by simp [raiseEvent, presentReadings, secondPasses])

theorem accountEvent_modeStep (s : State) : ModeStep s (accountEvent s) := by
  have integrated : ModeStep s (accountIntegrate s) := .of_eq (by simp)
  have reported (u : State) : ModeStep u (accountReport u) := .of_eq (by simp)
  exact (integrated.trans (judgeTest_modeStep _)).trans (reported _)

theorem calendarEvent_modeStep (s : State) : ModeStep s (calendarEvent s) := by
  unfold calendarEvent
  refine .ite _ (fun _ => ?_) fun _ => .refl s
  exact ModeStep.trans (t := s.onCal fun c => { c with handAgain := false }) (.of_eq (by simp))
    (.ite _ (fun _ => .refl _) fun _ => (takeExercise_step _).toModeStep)

theorem blockEvent_modeStep (b : Block) (s : State) : ModeStep s (blockEvent b s) := by
  cases b with
  | account => exact accountEvent_modeStep s
  | charge => exact chargeEvent_modeStep s
  | protection => exact protectionEvent_modeStep s
  | generator => exact (genEvent_step s).toModeStep
  | calendar => exact calendarEvent_modeStep s
  | measurement => exact .of_eq (t := measurementReport s) (by simp)
  | rectifier => exact .of_eq (t := rectEvent s) (by simp)
  | moduleBus => exact .of_eq (t := busEvent s) (by simp)
  | alarm => exact .of_eq (t := alarmEvent s) (by simp)
  | store => exact .of_eq (t := storeEvent s) (by simp)
  | link => exact .of_eq (t := linkEvent s) (by simp)

theorem measurementEvent_modeStep (r : Readings) (order : List Block) (s : State) :
    ModeStep s (measurementEvent r order s) := by
  have seen (u : State) : ModeStep u (u.onStore fun x => { x with fresh := [] }) := .of_eq (by simp)
  exact ((raiseEvent_modeStep r s).trans (.foldl _ _ _ fun u b => blockEvent_modeStep b u)).trans (seen _)

/-! ## The calendar's tick and the clock requests (R153 to R157) -/

theorem timeCarried_modeStep (was : Bool) (s : State) : ModeStep s (timeCarried was s) := by
  have due (u : State) : ModeStep u (dueTest u) :=
    .ite _ (fun _ => ModeStep.trans (t := State.onCal _ _) (.of_eq (by simp)) (takeExercise_step _).toModeStep) fun _ => .refl u
  have bounded (u : State) : ModeStep u (boundaryTest u) :=
    .ite _ (fun _ => chargeDayBoundary_modeStep u) fun _ => .refl u
  have tested : ModeStep s (clockTest was s) := .of_eq (by simp)
  exact (tested.trans (bounded _)).trans (due _)

theorem poweredTick_modeStep (s : State) : ModeStep s (poweredTick s) := by
  have ticked : ModeStep s (s.onCal fun c => c.tick.windowTick) := .of_eq (by simp)
  exact (ticked.trans (windowClosed_step _).toModeStep).trans (timeCarried_modeStep _ _)

theorem serveAlign_modeStep (s : State) : ModeStep s (serveAlign s).1 := by
  unfold serveAlign
  split
  · split
    · exact .of_eq (by simp)
    · exact ModeStep.trans (t := State.onCal _ _) (.of_eq (by simp)) (timeCarried_modeStep _ _)
  · exact .refl s

/-! ## Starts (R1) -/

/-- R17, R71: a start derives the mode, BATTERY or PROTECT, and enters DISCHARGE. -/
theorem makeStart_mode (cause : StartCause) (blank : Bool) (p : Pins) (s : State) :
    (makeStart cause blank p s).ModeDerived ∧ (makeStart cause blank p s).StageFits := by
  have offline := (makeStart_begins cause blank p s).starting.offline
  have unqualified := supplyStarted_unqualified blank p s
  have sup := blocksStarted_sup cause blank p s
  obtain ⟨setpoint, ibl, charge⟩ := batteryStarted_charge blank p s
  have notRunning : (s.charge.eq.start (!s.markerGood)).state ≠ .running := by
    unfold EqRec.start
    split
    · simp
    · split <;> simp_all
  have mode : (makeStart cause blank p s).sup.mode = .battery ∨ (makeStart cause blank p s).sup.mode = .protect := by
    simp only [makeStart_frame, sup]
    split <;> simp
  constructor
  · simp [State.ModeDerived, deriveMode, deriveAc, offline, sup, unqualified]
  · refine Charge.Plain.fits_discharge ?_ ?_ mode <;> simp [Charge.Plain, charge, notRunning]

theorem makeStart_modeStep (cause : StartCause) (blank : Bool) (p : Pins) (s : State) :
    ModeStep s (makeStart cause blank p s) :=
  ⟨fun _ => (makeStart_mode cause blank p s).1, fun _ => (makeStart_mode cause blank p s).2⟩

/-! ## Requests -/

theorem serveRequest_modeStep (i : Instr) (s : State) : ModeStep s (serveRequest i s).1 := by
  cases i
  case nextNotice source => exact .of_eq (t := (serveNotice source s).1) (by simp)
  case snapshot => exact .of_eq (t := (serveSnapshot s).1) (by simp)
  case setClock year month day hour minute second =>
    exact .of_eq (t := (serveSetClock year.toNat month.toNat day.toNat hour.toNat minute.toNat second.toNat s).1) (by simp)
  case alignClock => exact serveAlign_modeStep s
  case ackAlarm form selector => exact .of_eq (t := (serveAck form selector s).1) (by simp)
  case resetLatch => exact .of_eq (t := (serveResetLatch s).1) (by simp)
  case hold => exact beginHold_modeStep _ _ s
  case release => exact endHold_modeStep s
  case genStart => exact (serveGenStart_step _ _ s).toModeStep
  case genStop => exact (serveGenStop_step s).toModeStep
  case equalizeStart => exact serveEqualizeStart_modeStep s
  case equalizeStop => exact serveEqualizeStop_modeStep s
  case capacityTestStart => exact serveTestStart_modeStep _ s
  case capacityTestAbort => exact serveTestAbort_modeStep s
  case rectifierLockout slot => exact .of_eq (t := (serveLockout slot.toNat s).1) (by simp)
  case rectifierRestore slot => exact .of_eq (t := (serveRestore slot.toNat s).1) (by simp)
  case rotateNow => exact .of_eq (t := (serveRotateNow s).1) (by simp)
  case unlock group signature => exact .of_eq (t := (serveUnlock group.toNat signature s).1) (by simp)
  case lockGroupRelock group => exact .of_eq (t := (serveRelock group.toNat s).1) (by simp)
  case lockGroupSeal group => exact .of_eq (t := (serveSeal group.toNat s).1) (by simp)
  case lockGroupMode group mode => exact .of_eq (t := (serveMode group.toNat mode s).1) (by simp)
  case writeSettings group first count values =>
    exact .of_eq (t := (serveWrite group.toNat first.toNat count.toNat (values.map BitVec.toNat) s).1) (by simp)
  case restart => exact .of_eq (t := (serveRestart s).1) (by simp)
  all_goals exact .refl s

theorem takeRequest_modeStep (kind : Byte) (serve : State → Served) (s : State) (h : ModeStep s (serve s).1) :
    ModeStep s (takeRequest kind serve s) :=
  h.trans (.of_eq (t := holdAnswer kind (serve s).2 (serve s).1) ⟨rfl, rfl, rfl, rfl, rfl, rfl, rfl, Iff.rfl⟩)

theorem runCloses_modeStep (s : State) : ModeStep s (runCloses s) := by
  unfold runCloses
  refine .ite _ (fun _ => .ite _ (fun _ => ?_) fun _ => .of_eq (by simp)) fun _ => .refl s
  unfold takeFrame
  dsimp only
  split
  · exact takeRequest_modeStep _ _ s (serveRequest_modeStep _ s)
  · exact takeRequest_modeStep _ _ s (.refl s)

/-! ## Commands -/

/-- A command that acts while the supply stands. -/
theorem whenPowered_modeStep {s t : State} {f : State → State} (h : whenPowered s f = .next t)
    (step : ModeStep s (f s)) : ModeStep s t := by
  obtain rfl : (if s.powered then f s else s) = t := Host.Outcome.next.inj h
  exact .ite _ (fun _ => step) fun _ => .refl s

/-- A count's expiry that acts when it is due. -/
theorem onExpiry_modeStep {s t : State} {isDue : State → Bool} {f : State → State} (h : onExpiry s isDue f = .next t)
    (step : isDue s = true → ModeStep s (f s)) : ModeStep s t :=
  whenPowered_modeStep h (.ite _ step fun _ => .refl s)

theorem onRequest_modeStep {s t : State} {kind : Byte} {i : Instr} (h : onRequest kind i s = .next t) : ModeStep s t := by
  have discarded : ModeStep s (discardByte s) := .of_eq (by simp)
  exact whenPowered_modeStep h (.ite _ (fun _ => takeRequest_modeStep _ _ s (serveRequest_modeStep i s)) fun _ => discarded)

end Sys2Proof.Machine
end

section
/-! SUPPORT. Every command keeps the mode derived and the stage fitting it (R15, R45): the commands one by one. -/
namespace Sys2Proof.Machine

theorem channelExpires_modeStep (i : Nat) (s : State) : ModeStep s (channelExpires i s) := by
  unfold channelExpires
  refine .ite _ (fun _ => ModeStep.trans (t := accountReport (makeUnsync i (report (alStringFault + i) true
    (onChannel i (fun c => { c with reading := 0, validity := .unusable, held := 10 }) s)))) ?_
    (abortIfUnsync_modeStep _)) fun _ => .refl s
  exact .of_eq (by simp [onChannel])

theorem qualificationExpires_modeStep (c : Nat) (s : State) : ModeStep s (qualificationExpires c s) :=
  .ite _ (fun _ => .of_eq (by simp)) fun _ => .ite _ (fun _ => .of_eq (by simp)) fun _ => .refl s

theorem takeBytes_modeStep (bytes : List LineByte) (s : State) : ModeStep s (takeBytes bytes s) := .of_eq (by simp)

theorem stopInFlight_modeStep (reason : StopReason) (s : State) : ModeStep s (stopInFlight reason s) := by
  unfold stopInFlight
  split
  · exact (stopRun_step _ _ s).toModeStep
  · exact .refl s

theorem armFaults_modeStep (s : State) : ModeStep s (armFaults s) :=
  ModeStep.trans (t := reachCount 10 s) ⟨id, id⟩
    (.ite _ (fun _ => (takeEngineFault_step _).toModeStep) fun _ => .refl _)

theorem warmupTimeReached_modeStep (s : State) : ModeStep s (warmupTimeReached s) :=
  ModeStep.trans (t := reachCount (s.inForce 3 15) s) ⟨id, id⟩
    (.ite _ (fun _ => (takeEngineFault_step _).toModeStep) fun _ => (warmupEnds_step _).toModeStep)

/-- The gates are evaluated after the generator controller has written of itself what is not the machine's state. -/
theorem evaluated_modeStep (f : Gen → Gen) (s : State) (machine : (f s.gen).machine = s.gen.machine) :
    ModeStep s (evaluateStart (s.onGen f)) :=
  ((onGen_step runCodes f s machine).trans (evaluateStart_step _)).toModeStep

/-- What every command does. -/
theorem exec_modeStep (i : Instr) {s t : State} (h : exec i s = .next t) : ModeStep s t := by
  cases i
  case powerReturnStart p =>
    obtain rfl := Host.Outcome.next.inj h
    exact ModeStep.trans (t := loseSupply s) ⟨id, id⟩ (makeStart_modeStep _ _ _ _)
  case resetPinStart p => exact whenPowered_modeStep h (makeStart_modeStep _ _ _ s)
  case restartWarmStart p => exact whenPowered_modeStep h (.ite _ (fun _ => makeStart_modeStep _ _ _ s) fun _ => .refl s)
  case plantSupplyLoss => exact whenPowered_modeStep h ⟨id, id⟩
  case backupCellFailure =>
    obtain rfl := Host.Outcome.next.inj h
    exact .ite _ (fun _ => .refl s) fun _ => ⟨id, id⟩
  case measurementEvent r order => exact whenPowered_modeStep h (measurementEvent_modeStep r order s)
  case thermistorFallback => exact whenPowered_modeStep h (.ite _ (fun _ => onMeas_modeStep _ s rfl) fun _ => .refl s)
  case stringChannelUnusable i => exact whenPowered_modeStep h (channelExpires_modeStep i s)
  case mainsSenseChange | genSenseChange | siteInputLevelChange =>
    exact whenPowered_modeStep h (.ite _ (fun _ => .refl s) fun _ => onMeas_modeStep _ s rfl)
  case mainsReturnTimerExpiry => exact whenPowered_modeStep h (mainsReturns_modeStep s)
  case mainsFailTimerExpiry => exact whenPowered_modeStep h (mainsFails_modeStep s)
  case genAcQualified => exact whenPowered_modeStep h (genQualifies_modeStep s)
  case persistenceExpiry n => exact whenPowered_modeStep h (persistenceExpires_modeStep n s)
  case holdExpiry => exact whenPowered_modeStep h (endHold_modeStep s)
  case absorbEntry =>
    refine onExpiry_modeStep h fun due => changeStage_modeStep .absorb s ?_ rfl
    simp only [absorbEntryDue, Bool.and_eq_true, beq_iff_eq] at due
    rw [due.1]; rfl
  case tailExit =>
    refine onExpiry_modeStep h fun due => tailExit_modeStep s ?_
    simp only [tailExitDue, Bool.and_eq_true, beq_iff_eq] at due
    exact due.1
  case absorbTimerExpiry =>
    refine onExpiry_modeStep h fun due => changeStage_modeStep .float s ?_ rfl
    simp only [absorbTimerDue, Bool.and_eq_true, beq_iff_eq] at due
    rw [due.1]; rfl
  case equalizeComplete =>
    refine onExpiry_modeStep h fun due => equalizeDone_modeStep s ?_
    simp only [equalizeDue, Bool.and_eq_true, beq_iff_eq] at due
    exact due.1
  case shedDelayExpiry => exact onExpiry_modeStep h fun _ => openNel_modeStep _ s
  case nelReconnect => exact onExpiry_modeStep h fun _ => closeNel_modeStep s
  case batteryDisconnect => exact onExpiry_modeStep h fun _ => openBpd_modeStep s
  case bpdReconnect => exact onExpiry_modeStep h fun _ => closeBpd_modeStep s
  case dischargeCountExpiry =>
    refine onExpiry_modeStep h fun _ => ?_
    exact .of_eq (t := dischargeFull s) (by simp [dischargeFull])
  case startTimeout i => exact onExpiry_modeStep h fun _ => .of_eq (t := enterFault i s) (by simp)
  case faultRecovery i => exact onExpiry_modeStep h fun _ => .of_eq (t := changeSlot i .standby s) (by simp)
  case rotationDue =>
    refine whenPowered_modeStep h (.ite _ (fun _ => ?_) fun _ => .refl s)
    exact ⟨id, id⟩
  case swapOverlapExpiry => exact onExpiry_modeStep h fun _ => .of_eq (t := finishSwap s) (by simp)
  case commandSent => exact whenPowered_modeStep h (.of_eq (by simp))
  case replyWindowExpiry => exact whenPowered_modeStep h (.of_eq (by simp))
  case replyGapTimeout => exact whenPowered_modeStep h (.of_eq (by simp))
  case trailingBytes => exact whenPowered_modeStep h (.of_eq (by simp))
  case moduleReplyByte => exact whenPowered_modeStep h ⟨id, id⟩
  case statusFrame bytes => exact whenPowered_modeStep h (takeBytes_modeStep bytes s)
  case turnaroundEnd => exact whenPowered_modeStep h (.of_eq (by simp))
  case primeTimeExpiry => exact onExpiry_modeStep h fun _ => (enterCranking_step s).toModeStep
  case crankRestExpiry => exact onExpiry_modeStep h fun _ => (enterCranking_step s).toModeStep
  case crankMaximumExpiry => exact onExpiry_modeStep h fun _ => (crankExpired_step s).toModeStep
  case warmupFaultArm => exact onExpiry_modeStep h fun _ => armFaults_modeStep s
  case warmupEnd => exact onExpiry_modeStep h fun _ => warmupTimeReached_modeStep s
  case mainsFailStartDelay | busStartQualified | restCountComplete | manualStopHoldExpiry =>
    refine whenPowered_modeStep h (.ite _ (fun _ => ?_) fun _ => .refl s)
    exact evaluated_modeStep _ s rfl
  case maxRun => exact onExpiry_modeStep h fun _ => stopInFlight_modeStep .maxRun s
  case duration =>
    refine whenPowered_modeStep h (.ite _ (fun _ => ?_) fun _ => .refl s)
    exact stopInFlight_modeStep _ s
  case cooldownExpiry => exact onExpiry_modeStep h fun _ => (enterStopping_step s).toModeStep
  case stopConfirmExpiry => exact onExpiry_modeStep h fun _ => (stopExpired_step s).toModeStep
  case rearmExpiry => exact onExpiry_modeStep h fun _ => (leaveFailed_step s).toModeStep
  case calendarTick =>
    obtain rfl := Host.Outcome.next.inj h
    exact .ite _ (fun _ => poweredTick_modeStep s) fun _ => .of_eq (by simp)
  case windowClose =>
    refine whenPowered_modeStep h (.ite _ (fun _ => ?_) fun _ => .refl s)
    exact ModeStep.trans (t := s.onCal fun c => { c with exWindow := 0 }) ⟨id, id⟩ (windowClosed_step _).toModeStep
  case qualificationCountExpiry c =>
    refine whenPowered_modeStep h (.ite _ (fun _ => ?_) fun _ => .refl s)
    exact qualificationExpires_modeStep c s
  case lampHalfPeriod => exact whenPowered_modeStep h (.of_eq (by simp))
  case idleCountExpiry => exact onExpiry_modeStep h fun _ => ⟨id, id⟩
  case storeWriteComplete => exact whenPowered_modeStep h (groupWriteCompletes_modeStep s)
  case modeTableWriteComplete => exact whenPowered_modeStep h (.of_eq (by simp))
  case runClose => exact whenPowered_modeStep h (runCloses_modeStep s)
  case linkByteDiscard | linkByteBegins | replyBegin | replyEnd | deafIdleExpiry | snapshotDrop =>
    exact whenPowered_modeStep h (.of_eq (by simp))
  all_goals exact onRequest_modeStep h

end Sys2Proof.Machine

open Sys2Proof Sys2Proof.Machine

/-- Settles O5: an empty queue leaves the state, and every command is a `ModeStep`. -/
theorem stepsKeepTheModeDerived : Obligations.StepsKeepTheModeDerived := by
  intro s t derived h
  have step : ModeStep s t := by
    cases queue : s.pending with
    | nil =>
      rw [step_nil s queue] at h
      exact Host.Outcome.next.inj h ▸ ModeStep.refl s
    | cons c rest =>
      rw [step_cons s c rest queue] at h
      exact ModeStep.trans (t := { s with pending := rest }) ⟨id, id⟩ (exec_modeStep c h)
  exact ⟨step.derived derived, step.fits⟩
end

section
/-! SUPPORT. A run begins (R127, R129 to R132, R147, R148): what the evaluation of the causes and the gates leaves. -/

namespace Sys2Proof.Machine

/-! ## Reports of one condition -/

/-- The alarm unit has taken a report of one condition. -/
theorem report_reported (c : Nat) (v : Bool) (s : State) (h : c < s.alarm.records.length) :
    Reported c v s (report c v s) where
  cond := report_cond c v s h
  others d _ hd := report_record_ne c d v s hd
  notices := report_prefix c v s
  evaluated := report_evaluated c v s

/-! ## The machine enters a state outside ONLINE -/

/-- R127: whatever it enters, GEN_RUNNING follows the machine. -/
theorem genEnter_running (new : GenState) (s : State) (h : alGenRunning < s.alarm.records.length) :
    ((genEnter new s).record alGenRunning).cond = new.inRun := by
  have lockout (u : State) : (reportLockout u).record alGenRunning = u.record alGenRunning := by
    simp only [reportLockout]
    rw [report_record_ne _ _ _ _ (by decide), report_record_ne _ _ _ _ (by decide),
      report_record_ne _ _ _ _ (by decide), report_record_ne _ _ _ _ (by decide)]
  have reported (u : State) (length : u.alarm.records.length = s.alarm.records.length)
      (machine : u.gen.machine = new) :
      ((reportLockout (report alGenRunning u.gen.machine.inRun u)).record alGenRunning).cond = new.inRun := by
    rw [lockout, report_cond _ _ _ (length ▸ h), machine]
  rw [genEnter_eq]
  dsimp only
  split
  · exact reported _ rfl (enter_machine new s.gen)
  · exact reported _ (feedMoved_within _).length (by simp [enterMachine])

/-- Between states outside ONLINE the feed does not move. -/
theorem genEnter_frame_offline {new : GenState} {s : State} (h : s.gen.machine ≠ .online) (hn : new ≠ .online) :
    genEnter new s = { s with gen := s.gen.enter new, alarm := (genEnter new s).alarm } := by
  have offline : s.online = false := by simpa [State.online] using h
  rw [genEnter_offline new s offline hn]
  apply State.ext_parts <;> simp [enter_offline, hn]

/-! ## The first state of a run -/

/-- R132: the state in which a run finds itself once it has begun. -/
def State.firstState (s : State) : GenState :=
  if 0 < s.inForce 3 11 then .priming else if s.meas.genPresent then .warmup else .cranking

/-- R132: the attempts it has used by then. -/
def State.firstAttempts (s : State) : Nat := if s.inForce 3 11 = 0 ∧ s.meas.genPresent = false then 1 else 0

/-- R132: an attempt is counted in the run and in its record. -/
def countAttempt (s : State) : State :=
  let s := onRun (fun r => { r with attempts := r.attempts + 1 }) s
  onOpenRecord (fun r => { r with attempts := (s.gen.run.map Run.attempts).getD r.attempts }) s

theorem enterCranking_present {s : State} (h : s.meas.genPresent = true) : enterCranking s = genEnter .warmup s :=
  if_pos h

theorem enterCranking_absent {s : State} (h : s.meas.genPresent = false) :
    enterCranking s = genEnter .cranking (countAttempt s) :=
  if_neg (by simp [h])

theorem enterPriming_primes {s : State} (h : 0 < s.inForce 3 11) : enterPriming s = genEnter .priming s := by
  have primes : (genEnter .priming s).inForce 3 11 ≠ 0 := by simpa [State.inForce] using Nat.ne_of_gt h
  exact if_neg primes

theorem enterPriming_passed {s : State} (h : s.inForce 3 11 = 0) :
    enterPriming s = enterCranking (genEnter .priming s) := by
  have passed : (genEnter .priming s).inForce 3 11 = 0 := by simpa [State.inForce] using h
  exact if_pos passed

theorem countAttempt_gen {s : State} {r : Run} {x : RunRec} {log : List RunRec} (run : s.gen.run = some r)
    (open_ : s.gen.log = x :: log) :
    (countAttempt s).gen = { s.gen with
      run := some { r with attempts := r.attempts + 1 }, log := { x with attempts := r.attempts + 1 } :: log } := by
  simp [countAttempt, onOpenRecord_gen, onRun_gen, run, open_]

theorem enterPriming_gen {s : State} {r : Run} {x : RunRec} {log : List RunRec} (run : s.gen.run = some r)
    (open_ : s.gen.log = x :: log) (same : x.attempts = r.attempts) :
    (enterPriming s).gen = { s.gen with
      machine := s.firstState, stateCount := 0
      run := some { r with attempts := r.attempts + s.firstAttempts }
      log := { x with attempts := r.attempts + s.firstAttempts } :: log } := by
  have recorded : { x with attempts := r.attempts } = x := by rw [← same]
  by_cases prime : s.inForce 3 11 = 0
  · rw [enterPriming_passed prime]
    cases present : s.meas.genPresent with
    | true =>
      rw [enterCranking_present (by simpa using present)]
      simp [enter_offline, State.firstState, State.firstAttempts, prime, present, run, open_, recorded]
    | false =>
      rw [enterCranking_absent (by simpa using present), genEnter_gen,
        countAttempt_gen (r := r) (x := x) (log := log) (by simp [enter_offline, run]) (by simp [enter_offline, open_])]
      simp [enter_offline, State.firstState, State.firstAttempts, prime, present]
  · rw [enterPriming_primes (Nat.pos_of_ne_zero prime)]
    simp [enter_offline, State.firstState, State.firstAttempts, Nat.pos_of_ne_zero prime, prime, run, open_, recorded]

theorem enterPriming_frame_offline {s : State} (h : s.gen.machine ≠ .online) :
    enterPriming s = { s with gen := (enterPriming s).gen, alarm := (enterPriming s).alarm } := by
  have primed := genEnter_frame_offline (new := .priming) h (by decide)
  have offline : (genEnter .priming s).gen.machine ≠ .online := by simp
  by_cases prime : s.inForce 3 11 = 0
  · rw [enterPriming_passed prime]
    cases present : s.meas.genPresent with
    | true =>
      rw [enterCranking_present (by simpa using present), genEnter_frame_offline offline (by decide), primed]
    | false =>
      have counted : countAttempt (genEnter .priming s) =
          { genEnter .priming s with gen := (countAttempt (genEnter .priming s)).gen } := rfl
      rw [enterCranking_absent (by simpa using present), genEnter_frame_offline (by exact offline) (by decide), counted,
        primed]
  · rw [enterPriming_primes (Nat.pos_of_ne_zero prime), primed]

theorem enterPriming_running {s : State} (h : alGenRunning < s.alarm.records.length) :
    ((enterPriming s).record alGenRunning).cond = true := by
  have length : (genEnter .priming s).alarm.records.length = s.alarm.records.length := (genEnter_step .priming s).length
  by_cases prime : s.inForce 3 11 = 0
  · rw [enterPriming_passed prime]
    cases present : s.meas.genPresent with
    | true => rw [enterCranking_present (by simpa using present), genEnter_running _ _ (length ▸ h)]; rfl
    | false =>
      rw [enterCranking_absent (by simpa using present), genEnter_running]
      · rfl
      · exact length ▸ h
  · rw [enterPriming_primes (Nat.pos_of_ne_zero prime), genEnter_running _ _ h]
    rfl

/-! ## A run begins -/

/-- The run that begins, and its record. -/
def newRun (basis : Basis) (opening : Option Basis) (load : Bool) (duration : Option Nat) (attempts : Nat)
    (s : State) : Run :=
  { basis := basis, opening := opening, exMark := s.gen.exercise.isSome, load := load, attempts := attempts
    warmupEnd := none, runTime := 0, duration := duration, durCount := none, tailMark := false
    stopReason := none, reachedOnline := false }

def newRecord (basis : Basis) (opening : Option Basis) (attempts : Nat) (s : State) : RunRec :=
  { basis := basis, opening := opening, startTime := s.stamp, warmupEnd := none, stopTime := none, stopReason := none
    attempts := attempts, fuelStart := s.meas.fuel, fuelStop := none, reachedOnline := false }

/-- R148, R158: the run and its record stand, and an exercise it is to serve is marked. -/
def openRun (basis : Basis) (opening : Option Basis) (load : Bool) (duration : Option Nat) (s : State) : State :=
  { s with
    gen := { s.gen with
      run := some (newRun basis opening load duration 0 s)
      log := newRecord basis opening 0 s :: s.gen.log.take 23 }
    cal := { s.cal with runMark := s.cal.runMark || s.gen.exercise.isSome } }

theorem beginRun_eq (basis : Basis) (opening : Option Basis) (load : Bool) (duration : Option Nat) (s : State) :
    beginRun basis opening load duration s =
      enterPriming (post .genRunStart basis.code s.meas.fuel (openRun basis opening load duration s)) := by
  unfold beginRun
  dsimp only
  split
  · next marked =>
    congr 2
    simp [openRun, exerciseRunBegins, State.onGen, State.onCal, newRun, newRecord, marked, Config.runLogCapacity]
  · next marked =>
    congr 2
    simp [openRun, State.onGen, newRun, newRecord, marked, Config.runLogCapacity]

/-- R129, R148: a run begins in a machine that is not ONLINE. -/
theorem beginRun_begun (basis : Basis) (opening : Option Basis) (load : Bool) (duration : Option Nat) (s : State)
    (h : s.gen.machine ≠ .online) : RunBegun basis opening load duration s (beginRun basis opening load duration s) := by
  rw [beginRun_eq]
  generalize posted : post .genRunStart basis.code s.meas.fuel (openRun basis opening load duration s) = u
  have parts : u = { openRun basis opening load duration s with alarm := u.alarm } := by
    subst posted
    apply State.ext_parts <;> simp
  have gen : u.gen = (openRun basis opening load duration s).gen := by rw [parts]
  have first : u.firstState = s.firstState := by rw [parts]; rfl
  have attempts : u.firstAttempts = s.firstAttempts := by rw [parts]; rfl
  have entered := enterPriming_gen (s := u) (r := newRun basis opening load duration 0 s)
    (x := newRecord basis opening 0 s) (log := s.gen.log.take 23) (by rw [gen]; rfl) (by rw [gen]; rfl) rfl
  rw [first, attempts] at entered
  have frame := enterPriming_frame_offline (s := u) (by rw [gen]; exact h)
  refine ⟨?_, ?_, ?_, ?_, ?_, fun room => ?_, fun complete => ?_, ?_⟩
  · rw [entered]; rfl
  · rw [entered]; simp [newRun, State.firstAttempts]
  · rw [entered]; simp [newRun, newRecord, State.firstAttempts]
  · rw [entered, gen]; rfl
  · rw [frame, parts]; rfl
  · refine (enterPriming_step u).notices.subset ?_
    rw [← posted, post_room _ _ _ (openRun basis opening load duration s) room]
    exact List.mem_append_right _ (List.mem_singleton_self _)
  · refine enterPriming_running ?_
    rw [← posted, post_records]
    exact (show alGenRunning < s.alarm.records.length by rw [complete]; decide)
  · rw [frame, parts]; rfl

/-- R129, R147: what the evaluation of the causes and the gates leaves. -/
theorem evaluateStart_evaluated (s : State) : Evaluated s (evaluateStart s) where
  closed shut := by
    rcases shut with gates | cause
    · exact evaluateStart_shut s gates
    · exact evaluateStart_none s cause
  plant b cause gates notExercise := by
    have idle : s.gen.machine ≠ .online := by simp [gatesOpen_idle s gates]
    rw [evaluateStart_begins s b gates cause]
    cases b with
    | exercise => exact absurd rfl notExercise
    | _ => exact beginRun_begun _ _ _ _ s idle
  exercise gates cause := by
    have idle : s.gen.machine ≠ .online := by simp [gatesOpen_idle s gates]
    rw [evaluateStart_begins s .exercise gates cause, beginCause]
    split
    · exact beginRun_begun _ _ _ _ s idle
    · exact beginRun_begun _ _ _ _ s idle

end Sys2Proof.Machine
end

section
/-! The statement about the maintenance hold (R18, R20, R21). -/

namespace Sys2Proof.Machine

theorem beginHold_eq (cause : HoldCause) (minutes : Nat) (s : State) :
    beginHold cause minutes s = report alHoldActive true
      (s.onSup fun p => { p with hold := some { cause := cause, left := minutes * 60 } }) := rfl

theorem beginHold_sup (cause : HoldCause) (minutes : Nat) (s : State) :
    (beginHold cause minutes s).sup = { s.sup with hold := some { cause := cause, left := minutes * 60 } } := by
  simp [beginHold_eq, State.onSup]

theorem beginHold_reported (cause : HoldCause) (minutes : Nat) (s : State) (h : 31 < s.alarm.records.length) :
    Reported 31 true s (beginHold cause minutes s) :=
  have reported := report_reported alHoldActive true
    (s.onSup fun p => { p with hold := some { cause := cause, left := minutes * 60 } }) h
  ⟨reported.cond, reported.others, reported.notices, reported.evaluated⟩

theorem clearHold_eq (s : State) :
    clearHold s = report alHoldActive false ((s.onSup fun p => { p with hold := none }).onRect fun r =>
      { r with requestFreed := r.requestFreed || r.rotationRequest }) := rfl

theorem clearHold_sup (s : State) : (clearHold s).sup = { s.sup with hold := none } := by
  simp [clearHold_eq, State.onSup]

theorem clearHold_reported (s : State) (h : 31 < s.alarm.records.length) : Reported 31 false s (clearHold s) :=
  have reported := report_reported alHoldActive false ((s.onSup fun p => { p with hold := none }).onRect fun r =>
      { r with requestFreed := r.requestFreed || r.rotationRequest }) h
  ⟨reported.cond, reported.others, reported.notices, reported.evaluated⟩

/-- What the end of a hold leaves, the gates not yet evaluated (R21, R110). -/
theorem clearHold_kept (s : State) : clearHold s =
    { s with
      sup := (clearHold s).sup, alarm := (clearHold s).alarm
      rect := { s.rect with requestFreed := s.rect.requestFreed || s.rect.rotationRequest } } := by
  apply State.ext_parts <;> simp [clearHold_eq, State.onRect, State.onSup]

theorem endHold_active {s : State} (h : s.sup.hold.isSome = true) : endHold s = evaluateStart (clearHold s) := if_pos h

theorem endHold_none {s : State} (h : s.sup.hold = none) : endHold s = s := by simp [endHold, h]

/-- R18: the minutes a request is given. -/
theorem holdMinutes_eq (s : State) (asked : Nat) :
    holdMinutes s asked * 60 = 60 * if asked = 0 then s.now 5 161 else min asked (s.now 5 161) := Nat.mul_comm _ _

end Sys2Proof.Machine

open Sys2Proof Sys2Proof.Machine

/-- Settles O24, request by request. -/
theorem holdsBeginAndEnd : Obligations.HoldsBeginAndEnd := by
  intro minutes s on complete
  have table : 31 < s.alarm.records.length := by omega
  refine ⟨fun hears => ?_, fun active => ?_, fun none_ => ?_⟩
  · have led : exec (.hold minutes) s = .next (holdAnswer 0x24#8
        { result := if s.now 5 161 < minutes.toNat then .clamped else .ok, data := [] }
        (beginHold .request (holdMinutes s minutes.toNat) s)) := onRequest_on _ _ s on hears
    have reported := beginHold_reported .request (holdMinutes s minutes.toNat) s table
    refine ⟨_, led, ?_, ⟨reported.cond, reported.others, reported.notices, reported.evaluated⟩, ?_⟩
    · exact (beginHold_sup _ _ s).trans (by rw [holdMinutes_eq])
    · apply State.ext_parts <;> simp [holdAnswer]
  · refine ⟨clearHold_sup s, clearHold_reported s table, clearHold_kept s, ?_, fun hears => ?_⟩
    · refine ⟨_, (whenPowered_on s _ on).trans (congrArg _ (endHold_active active)), evaluateStart_evaluated _⟩
    · have led : exec .release s = .next (holdAnswer 0x25#8 Answer.ok (endHold s)) := onRequest_on _ _ s on hears
      rw [endHold_active active] at led
      refine ⟨_, led, ?_, ?_⟩
      · have same : { holdAnswer 0x25#8 Answer.ok (evaluateStart (clearHold s)) with link := s.link } =
            evaluateStart (clearHold s) := by
          apply State.ext_parts <;> simp [holdAnswer]
        rw [same]
        exact evaluateStart_evaluated _
      · simp [holdAnswer_link]
  · have idle := endHold_none none_
    exact ⟨(whenPowered_on s _ on).trans (congrArg _ idle),
      fun hears => (onRequest_on _ _ s on hears).trans
        (congrArg (fun t => Host.Outcome.next (holdAnswer 0x25#8 Answer.ok t)) idle)⟩
end

section
/-! SUPPORT and the statement about generator AC (R10, R132 to R134, R139 to R141, R144): how runs end. -/

namespace Sys2Proof.Machine

/-! ## The record is closed (R148) -/

/-- R148: the run's record closed and the machine in its last state, the gates not yet evaluated. -/
def recordClosed (final : GenState) (r : Run) (s : State) : State :=
  let s := onOpenRecord (fun x =>
    { x with stopTime := some s.stamp, stopReason := r.stopReason, fuelStop := some s.meas.fuel }) s
  let s := post .genRunEnd ((r.stopReason.map StopReason.code).getD 255)
    (if r.warmupEnd.isSome then r.runTime / 60 else 0) s
  let s := s.onGen fun g => { g with run := none, restCount := 0, rearmMinutes := 0, rearmSeconds := 0 }
  let s := genEnter final s
  if r.exMark && r.warmupEnd.isNone then exerciseReturned s else s

theorem closeRun_none {final : GenState} {s : State} (h : s.gen.run = none) : closeRun final s = genEnter final s := by
  simp [closeRun, h]

theorem closeRun_some {final : GenState} {s : State} {r : Run} (h : s.gen.run = some r) :
    closeRun final s = evaluateStart (recordClosed final r s) := by
  unfold closeRun
  rw [h]
  rfl

/-- R160: of the generator controller an exercise returned to its window takes the exercise cause alone. -/
theorem exerciseReturned_gen (s : State) :
    (exerciseReturned s).gen = { s.gen with exercise := (exerciseReturned s).gen.exercise } := by
  unfold exerciseReturned
  dsimp only
  split
  · simp [exerciseMissed, reportMissed, dropCause]
  · rfl

theorem recordClosed_gen {final : GenState} (hn : final ≠ .online) (r : Run) (s : State) :
    (recordClosed final r s).gen = { s.gen with
      machine := final, stateCount := 0, run := none, restCount := 0, rearmMinutes := 0, rearmSeconds := 0
      exercise := (recordClosed final r s).gen.exercise
      log := s.gen.log.modifyHead fun x =>
        { x with stopTime := some s.stamp, stopReason := r.stopReason, fuelStop := some s.meas.fuel } } := by
  unfold recordClosed
  dsimp only
  split
  · rw [exerciseReturned_gen]
    simp [enter_offline _ _ hn, onOpenRecord_gen]
  · simp [enter_offline _ _ hn, onOpenRecord_gen]

@[simp] theorem recordClosed_frame (final : GenState) (r : Run) (s : State) :
    (recordClosed final r s).meas = s.meas ∧ (recordClosed final r s).store = s.store := by
  unfold recordClosed
  dsimp only
  split <;> simp

/-! ## A run that is not followed by another -/

/-- What shuts the gates behind a run: the state it ends in, a minimum rest, or GEN_INHIBIT (R129). -/
def RestsAfter (final : GenState) (s : State) : Prop :=
  final ≠ .idle ∨ 0 < s.minRest ∨ s.functionActive fnInhibit = true

theorem functionActive_work {s t : State} (meas : t.meas = s.meas) (work : t.store.work = s.store.work) (f : Nat) :
    t.functionActive f = s.functionActive f := by
  simp [State.functionActive, State.inputFunction, State.now, State.input, meas, work]

theorem functionActive_congr {s t : State} (meas : t.meas = s.meas) (store : t.store = s.store) (f : Nat) :
    t.functionActive f = s.functionActive f :=
  functionActive_work meas (by rw [store]) f

theorem minRest_congr {s t : State} (store : t.store = s.store) : t.minRest = s.minRest := by
  simp [State.minRest, State.inForce, store]

theorem restsAfter_congr {final : GenState} {s t : State} (meas : t.meas = s.meas) (store : t.store = s.store) :
    RestsAfter final t ↔ RestsAfter final s := by
  rw [RestsAfter, RestsAfter, minRest_congr store, functionActive_congr meas store]

theorem gatesOpen_recordClosed {final : GenState} {s : State} (hn : final ≠ .online) (h : RestsAfter final s)
    (r : Run) : gatesOpen (recordClosed final r s) = false := by
  obtain ⟨meas, store⟩ := recordClosed_frame final r s
  have machine : (recordClosed final r s).gen.machine = final := by rw [recordClosed_gen hn]
  have count : (recordClosed final r s).gen.restCount = 0 := by rw [recordClosed_gen hn]
  rcases h with h | h | h
  · simp [gatesOpen, machine, h]
  · simp [gatesOpen, count, minRest_congr store, Nat.ne_of_gt h]
  · simp [gatesOpen, functionActive_congr meas store, h]

/-- The machine has come to rest in `final`. -/
structure RunClosed (final : GenState) (s t : State) : Prop where
  machine : t.gen.machine = final
  run : t.gen.run = none
  failReason : t.gen.failReason = s.gen.failReason
  rest : s.gen.run.isSome = true → t.gen.restCount = 0

theorem closeRun_closed {final : GenState} {s : State} (hn : final ≠ .online) (h : RestsAfter final s) :
    RunClosed final s (closeRun final s) := by
  cases run : s.gen.run with
  | none =>
    rw [closeRun_none run]
    exact ⟨by simp, by simp [enter_offline _ _ hn, run], by simp, by simp [run]⟩
  | some r =>
    have gen := recordClosed_gen hn r s
    rw [closeRun_some run, evaluateStart_shut _ (gatesOpen_recordClosed hn h r)]
    exact ⟨by rw [gen], by rw [gen], by rw [gen], fun _ => by rw [gen]⟩

/-! ## The stop (R139, R140, R144) -/

/-- R140: the state in which a confirmed stop leaves the machine. -/
def stopState (fail : Option FailReason) : GenState :=
  if fail = some .engineFault ∨ fail = some .engineLost then .failed else .idle

theorem stopState_offline (fail : Option FailReason) : stopState fail ≠ .online := by
  unfold stopState
  split <;> decide

theorem confirmStop_eq (s : State) : confirmStop s = closeRun (stopState s.gen.failReason) s := rfl

theorem confirmStop_closed {s : State} (h : RestsAfter (stopState s.gen.failReason) s) :
    RunClosed (stopState s.gen.failReason) s (confirmStop s) :=
  closeRun_closed (stopState_offline _) h

theorem enterStopping_present {s : State} (h : s.meas.genPresent = true) : enterStopping s = genEnter .stopping s :=
  if_pos (by simpa using h)

theorem enterStopping_absent {s : State} (h : s.meas.genPresent = false) :
    enterStopping s = confirmStop (genEnter .stopping s) :=
  if_neg (by simp [h])

theorem enterStopping_closed {s : State} (absent : s.meas.genPresent = false)
    (h : RestsAfter (stopState s.gen.failReason) s) :
    RunClosed (stopState s.gen.failReason) s (enterStopping s) := by
  rw [enterStopping_absent absent]
  have gen : (genEnter .stopping s).gen = { s.gen with machine := .stopping, stateCount := 0 } := by
    simp [enter_offline]
  have closed := confirmStop_closed (s := genEnter .stopping s)
    ((restsAfter_congr (s := s) (by simp) (by simp)).2 (by rw [gen]; exact h))
  rw [gen] at closed
  exact ⟨closed.machine, closed.run, by rw [closed.failReason, gen], fun some_ => closed.rest (by rw [gen]; exact some_)⟩

theorem setStop_gen (reason : StopReason) (s : State) :
    (setStop reason s).gen = { s.gen with run := s.gen.run.map fun r => { r with stopReason := some reason } } := rfl

theorem setFail_gen (fail : Option FailReason) (s : State) :
    (setFail fail s).gen = { s.gen with failReason := fail } := by
  simp [setFail]

/-- R141: an engine fault or loss stops the machine, and leaves it FAILED once the stop is confirmed. -/
theorem engineFails_gen (reason : StopReason) {fail : FailReason} (s : State)
    (h : fail = .engineFault ∨ fail = .engineLost) :
    (engineFails reason fail s).gen.machine = (if s.meas.genPresent = true then .stopping else .failed) ∧
      (engineFails reason fail s).gen.failReason = some fail := by
  have failed : stopState (some fail) = .failed := if_pos (by rcases h with rfl | rfl <;> simp)
  have reason_ : (setFail (some fail) (setStop reason s)).gen.failReason = some fail := by rw [setFail_gen]
  unfold engineFails
  cases present : s.meas.genPresent with
  | true =>
    rw [enterStopping_present (by simpa using present)]
    simp [reason_]
  | false =>
    have closed := enterStopping_closed (s := setFail (some fail) (setStop reason s)) (by simpa using present)
      (.inl (by rw [reason_, failed]; decide))
    rw [reason_, failed] at closed
    exact ⟨closed.machine, closed.failReason.trans reason_⟩

theorem startFailed_gen (s : State) :
    (startFailed s).gen.machine = .failed ∧ (startFailed s).gen.failReason = some .startFail :=
  have closed := closeRun_closed (final := .failed)
    (s := (setStop .startFail s).onGen fun g => { g with failReason := some .startFail }) (by decide) (.inl (by decide))
  ⟨closed.machine, closed.failReason⟩

end Sys2Proof.Machine

open Sys2Proof Sys2Proof.Machine

/-- Settles O22: the machine's states, one by one, on the new generator AC. -/
theorem generatorAcQualifies : Obligations.GeneratorAcQualifies := by
  intro s on
  have led : exec .genAcQualified s = .next (genQualifies s) := whenPowered_on s _ on
  refine ⟨fun idle => ?_, fun running => ?_⟩
  · rw [led, genQualifies, if_neg (by simp [idle])]
  · generalize known : (s.onMeas fun m => { m with genPresent := m.genSense, genTimer := none }) = u
    have gen : u.gen = s.gen := by rw [← known]; rfl
    have store : u.store = s.store := by rw [← known]; rfl
    have present : u.meas.genPresent = s.meas.genSense := by rw [← known]; rfl
    have rest : u.minRest = s.minRest := by simp [State.minRest, State.inForce, store]
    have attempts : u.inForce 3 14 = s.inForce 3 14 := by simp [State.inForce, store]
    have qualified : genQualifies s = genAcChanged u := by rw [← known]; exact if_pos running
    refine ⟨_, led, ?_, ?_, ?_⟩
    · rw [qualified, ← known]; simp [State.onMeas]
    · rw [qualified, ← known]; apply State.ext_parts <;> simp
    rw [qualified]
    refine ⟨fun sense machine => ?_, fun sense notCrank notRest => ?_, fun sense machine left => ?_,
      fun sense machine spent => ?_, fun sense machine => ?_, fun sense machine rests => ?_, fun sense machine => ?_⟩
    · rw [← gen] at machine ⊢
      rcases machine with h | h <;> simp [genAcChanged, present, sense, h, enter_offline]
    · rw [← gen] at notCrank notRest ⊢
      cases h : u.gen.machine <;> simp_all [genAcChanged]
    · rw [← gen] at machine left
      simp [genAcChanged, present, sense, machine, attemptFailed, attempts, left]
    · rw [← gen] at machine spent
      simpa [genAcChanged, present, sense, machine, attemptFailed, attempts, Nat.not_lt.2 spent] using startFailed_gen u
    · rw [← gen] at machine
      have lost := engineFails_gen .engineLost u (fail := .engineLost) (.inr rfl)
      rcases machine with h | h <;> simpa [genAcChanged, present, sense, h] using lost
    · have closes : RestsAfter (stopState u.gen.failReason) u := .inr (.inl (rest ▸ rests))
      rw [← gen] at machine ⊢
      rcases machine with h | h
      · have changed : genAcChanged u = enterStopping u := by simp [genAcChanged, present, sense, h]
        rw [changed]
        exact (enterStopping_closed (present.trans sense) closes).machine
      · have changed : genAcChanged u = confirmStop u := by simp [genAcChanged, present, sense, h]
        rw [changed]
        exact (confirmStop_closed closes).machine
    · rw [← gen] at machine ⊢
      rcases machine with h | h | h | h | h <;> simp [genAcChanged, present, sense, h]
end

section
/-! SUPPORT. The running list under the stops of whole lists (R88, R94, R96), and what the charge controller leaves of
the scheduler. -/

namespace Sys2Proof.Machine

/-! ## Stopping slots of the running list -/

/-- The running list names each slot once, and no slot that stands by (R88). -/
structure RunningLive (s : State) : Prop where
  nodup : s.rect.running.Nodup
  live : ∀ i ∈ s.rect.running, (s.slot i).state ≠ .standby

theorem State.RosterPlaced.live {s : State} (h : s.RosterPlaced) : RunningLive s := by
  obtain ⟨-, -, nodup, -, running, -, -⟩ := h
  refine ⟨nodup, fun i hi => ?_⟩
  rcases ((running i).1 hi).2 with h | h <;> simp [h]

theorem RunningLive.congr {s t : State} (h : RunningLive s) (running : t.rect.running = s.rect.running)
    (slots : t.rect.slots = s.rect.slots) : RunningLive t :=
  ⟨running ▸ h.nodup, fun i hi => by simpa [State.slot, slots] using h.live i (running ▸ hi)⟩

theorem changeSlot_standby_running {i : Nat} {s : State} (h : (s.slot i).state ≠ .standby) :
    (changeSlot i .standby s).rect.running = s.rect.running.erase i := by
  rw [changeSlot_rect i .standby s h]
  rfl

theorem changeSlot_slot_ne {i j : Nat} (new : SlotState) (s : State) (h : j ≠ i) :
    (changeSlot i new s).slot j = s.slot j := by
  by_cases same : (s.slot i).state = new
  · rw [changeSlot_same i new s same]
  · have slots := congrArg Rect.slots (changeSlot_rect i new s same)
    simp [State.slot, slots, List.getD_eq_getElem?_getD, Ne.symm h]

theorem RunningLive.stopped {s : State} (h : RunningLive s) {i : Nat} (hi : i ∈ s.rect.running) :
    RunningLive (changeSlot i .standby s) := by
  have running := changeSlot_standby_running (h.live i hi)
  refine ⟨running ▸ h.nodup.erase i, fun j hj => ?_⟩
  rw [running, h.nodup.mem_erase_iff] at hj
  rw [changeSlot_slot_ne _ s hj.1]
  exact h.live j hj.2

theorem foldl_standby_running {s : State} (h : RunningLive s) {l : List Nat} (hl : s.rect.running = l) :
    (l.foldl (fun s i => changeSlot i .standby s) s).rect.running = [] := by
  induction l generalizing s with
  | nil => exact hl
  | cons i l ih =>
    have mem : i ∈ s.rect.running := by rw [hl]; exact List.mem_cons_self
    refine ih (h.stopped mem) ?_
    rw [changeSlot_standby_running (h.live i mem), hl, List.erase_cons_head]

@[simp] theorem endSwap_lists (outcome : SwapOutcome) (s : State) :
    (endSwap outcome s).rect.running = s.rect.running ∧ (endSwap outcome s).rect.slots = s.rect.slots := by
  unfold endSwap
  split
  · simp
  · simp [Rect.dropRequest]

/-- R96: at a loss of AC every slot of the running list stops. -/
theorem acLost_running {s : State} (h : RunningLive s) : (acLost s).rect.running = [] := by
  obtain ⟨running, slots⟩ := endSwap_lists .abandoned s
  simpa [acLost] using foldl_standby_running (h.congr running slots) rfl

/-! ## The charge controller and the scheduler (R95) -/

/-- From `s` to `t` the scheduler has taken a new module limit at most. -/
structure ModulesKept (s t : State) : Prop where
  rect : t.rect = { s.rect with im := t.rect.im }

theorem ModulesKept.of_eq {s t : State} (h : t.rect = s.rect) : ModulesKept s t := ⟨by rw [h]⟩

theorem ModulesKept.trans {s t u : State} (h : ModulesKept s t) (k : ModulesKept t u) : ModulesKept s u :=
  ⟨by rw [k.rect, h.rect]⟩

theorem ModulesKept.running {s t : State} (h : ModulesKept s t) : t.rect.running = s.rect.running := by rw [h.rect]

theorem ModulesKept.slots {s t : State} (h : ModulesKept s t) : t.rect.slots = s.rect.slots := by rw [h.rect]

theorem ModulesKept.ite {s t u : State} (p : Prop) [Decidable p] (ht : ModulesKept s t) (hu : ModulesKept s u) :
    ModulesKept s (if p then t else u) := by
  split
  · exact ht
  · exact hu

theorem dropDischargeCount_modules (s : State) : ModulesKept s (dropDischargeCount s) := .of_eq (by simp)

theorem recomputeIbl_modules (s : State) : ModulesKept s (recomputeIbl s) := ⟨rfl⟩

theorem changeStage_modules (new : Stage) (s : State) : ModulesKept s (changeStage new s) := by
  by_cases same : s.charge.stage = new
  · rw [changeStage_same new s same]
    exact .of_eq rfl
  · by_cases test : new = .test
    · subst test
      rw [changeStage_test s same]
      exact ModulesKept.trans ⟨by simp⟩ (dropDischargeCount_modules _)
    · rw [changeStage_ne new s same test]
      exact ⟨by simp⟩

theorem suspendEqualize_modules (s : State) : ModulesKept s (suspendEqualize s) := .of_eq (by simp)

theorem endTest_modules (outcome : TestOutcome) (next : Stage) (s : State) :
    ModulesKept s (endTest outcome next s) := by
  unfold endTest
  split
  · exact .of_eq rfl
  · next t _ =>
    have posted : ModulesKept s ((post .testEnd outcome.code (t.elapsed / 60)
      (writeResults outcome t.target (t.elapsed / 60) s)).onCharge fun c => { c with test := none }) := .of_eq (by simp)
    exact posted.trans (changeStage_modules next _)

theorem chargeModeChange_modules (old : Mode) (s : State) : ModulesKept s (chargeModeChange old s) := by
  have entered (new : Stage) (u : State) : ModulesKept u (recomputeIbl (changeStage new u)) :=
    (changeStage_modules new u).trans (recomputeIbl_modules _)
  have formed (u : State) : ModulesKept u (recomputeIbl u) := recomputeIbl_modules u
  have suspended := suspendEqualize_modules s
  unfold chargeModeChange
  split
  · exact (suspended.trans (endTest_modules .aborted .discharge _)).trans (entered .discharge _)
  · exact (suspended.trans (endTest_modules .aborted .discharge _)).trans (entered .discharge _)
  · split
    case h_1 | h_2 => exact entered _ s
    case h_3 | h_4 => exact formed s
  · split
    case h_1 | h_2 => exact entered _ s
    case h_3 => exact formed s
    case h_4 =>
      split
      case h_1 => exact suspended.trans (entered .float _)
      case h_2 => exact (endTest_modules .aborted _ s).trans (formed _)
      all_goals exact formed s

theorem protectionModeChange_modules (s : State) : ModulesKept s (protectionModeChange s) := .of_eq (by simp)

/-- What the charge controller and the protection unit do at a change of mode, ahead of the scheduler. -/
def chargeActed (old : Sup) (s : State) : State :=
  let s := if s.sup.mode = old.mode then s else chargeModeChange old.mode s
  if s.sup.mode = old.mode ∧ s.sup.ac = old.ac then s else protectionModeChange s

theorem actOnMode_eq (old : Sup) (s : State) : actOnMode old s = schedulerAcChange old.ac (chargeActed old s) := rfl

theorem chargeActed_modules (old : Sup) (s : State) : ModulesKept s (chargeActed old s) := by
  unfold chargeActed
  dsimp only
  have charged : ModulesKept s (if s.sup.mode = old.mode then s else chargeModeChange old.mode s) :=
    .ite _ (.of_eq rfl) (chargeModeChange_modules _ s)
  exact .ite _ charged (charged.trans (protectionModeChange_modules _))

@[simp] theorem chargeActed_sup (old : Sup) (s : State) : (chargeActed old s).sup = s.sup := by
  unfold chargeActed
  dsimp only
  (repeat' split) <;> simp

/-- R96: the running list is empty once AC available has gone. -/
theorem actOnMode_lost {old : Sup} {s : State} (was : old.ac = true) (now : s.sup.ac = false) (h : RunningLive s) :
    (actOnMode old s).rect.running = [] := by
  have kept := chargeActed_modules old s
  rw [actOnMode_eq, schedulerAcChange, if_pos (by simp [was, now])]
  exact acLost_running (h.congr kept.running kept.slots)

/-! ## With no slot running -/

/-- With nothing running, a loss of AC has nothing to stop, and its return runs nothing of itself. -/
theorem actOnMode_idle (old : Sup) {s : State} (h : s.rect.running = []) : (actOnMode old s).rect.running = [] := by
  have kept := (chargeActed_modules old s).running.trans h
  rw [actOnMode_eq, schedulerAcChange]
  split
  · exact acLost_running ⟨by simp [kept], by simp [kept]⟩
  · split
    · exact kept
    · exact kept

theorem trimToGen_idle {s : State} (h : s.rect.running = []) : trimToGen s = s := by
  simp [trimToGen, State.nRun, h]

theorem feedMoved_idle {s : State} (h : s.rect.running = []) : (feedMoved s).rect.running = [] := by
  have supervised : (supervise (s.onRect fun r => { r with settle := 0 })).rect.running = [] := by simp [h]
  have moved : (rederive (s.onRect fun r => { r with settle := 0 })).rect.running = [] := actOnMode_idle _ supervised
  have formed : (recomputeIbl (rederive (s.onRect fun r => { r with settle := 0 }))).rect.running = [] := by simp [moved]
  rw [feedMoved, trimToGen_idle formed, formed]

theorem genEnter_idle (new : GenState) {s : State} (h : s.rect.running = []) : (genEnter new s).rect.running = [] := by
  rw [genEnter_eq]
  dsimp only
  split
  · simpa [enterMachine] using h
  · simpa using feedMoved_idle (s := enterMachine new s) h

end Sys2Proof.Machine
end

section
/-! SUPPORT and the statement about the qualification of mains (R9, R15, R16, R96, R130, R135, R136). -/

namespace Sys2Proof.Machine

/-! ## What a change of mains leaves of the run in flight -/

/-- What the run log says a run was begun for, and from what it was converted. -/
def RunRec.cause (x : RunRec) : Basis × Option Basis := (x.basis, x.opening)

/-- From `g` to `h` the run in flight and the log are marked as reaching ONLINE at most. -/
structure Gen.RunKept (g h : Gen) : Prop where
  run : ∀ r, g.run = some r → h.run.map (fun x => { x with reachedOnline := r.reachedOnline }) = some r
  log : h.log.map RunRec.cause = g.log.map RunRec.cause
  timer : h.mainsFailTimer = g.mainsFailTimer
  spent : h.spent = g.spent

theorem Gen.RunKept.refl (g : Gen) : g.RunKept g := ⟨fun r run => by simp [run], rfl, rfl, rfl⟩

theorem modifyHead_causes (l : List RunRec) (f : RunRec → RunRec) (h : ∀ x, (f x).cause = x.cause) :
    (l.modifyHead f).map RunRec.cause = l.map RunRec.cause := by
  cases l with
  | nil => rfl
  | cons x l => simp [h]

theorem enter_runKept (new : GenState) (g : Gen) : g.RunKept (g.enter new) := by
  refine ⟨fun r run => ?_, ?_, by simp, by simp⟩ <;> unfold Gen.enter <;> split
  · simp [run]
  · simp [run]
  · exact modifyHead_causes _ _ fun _ => rfl
  · rfl

theorem retakeLoad_runKept (s : State) : s.gen.RunKept (retakeLoad s).gen := by
  unfold retakeLoad
  split
  · exact .refl _
  · split
    · rw [genEnter_gen]
      exact enter_runKept _ _
    · exact .refl _

theorem retakeLoad_machine {s : State} {r : Run} (run : s.gen.run = some r)
    (carries : s.gen.machine = .online ∨ s.gen.machine = .offload) :
    (retakeLoad s).gen.machine = loadState s r := by
  simp only [retakeLoad, run]
  split
  · simp
  · next stays => exact (Classical.byContradiction fun ne => stays ⟨carries, Ne.symm ne⟩)

theorem retakeLoad_idle {s : State} (h : ¬ (s.gen.machine = .online ∨ s.gen.machine = .offload)) :
    retakeLoad s = s := by
  unfold retakeLoad
  split
  · rfl
  · exact if_neg fun taken => h taken.1

/-- R136: whether a loss of mains converts the run. -/
def Gen.converts (g : Gen) (r : Run) : Prop :=
  r.basis = .exercise ∧ (g.machine = .priming ∨ g.machine = .cranking ∨ g.machine = .crankRest ∨
    g.machine = .warmup ∨ g.machine = .offload)

theorem convertExercise_converted {s : State} {r : Run} (run : s.gen.run = some r) (h : s.gen.converts r) :
    (convertExercise s).gen = { s.gen with
      run := some { r with basis := .mainsFail, opening := some .exercise, duration := none, durCount := none }
      log := s.gen.log.modifyHead fun x => { x with basis := .mainsFail, opening := some .exercise } } := by
  have taken : convertExercise s = onOpenRecord (fun x => { x with basis := .mainsFail, opening := some .exercise })
      (onRun (fun r => { r with basis := .mainsFail, opening := some .exercise, duration := none, durCount := none })
        s) := by
    simp only [convertExercise, run]
    exact if_pos h
  rw [taken, onOpenRecord_gen, onRun_gen, run]
  rfl

theorem convertExercise_same {s : State} (h : ∀ r, s.gen.run = some r → ¬ s.gen.converts r) :
    convertExercise s = s := by
  unfold convertExercise
  split
  · rfl
  · next r run => exact if_neg (h r run)

theorem convertExercise_machine (s : State) : (convertExercise s).gen.machine = s.gen.machine := by
  cases run : s.gen.run with
  | none => rw [convertExercise_same (by simp [run])]
  | some r =>
    by_cases h : s.gen.converts r
    · rw [convertExercise_converted run h]
    · rw [convertExercise_same fun x hx => by rwa [← Option.some.inj (run.symm.trans hx)]]

/-! ## The blocks at a change of mains -/

theorem mainsActed_meas (qualified : Bool) (s : State) :
    (mainsActed qualified s).meas = { s.meas with mainsQualified := qualified, mainsTimer := none } := by
  simp [mainsActed, mainsSupervised]

theorem mainsActed_gen (qualified : Bool) (s : State) : (mainsActed qualified s).gen = s.gen := by
  simp [mainsActed, mainsSupervised]

theorem mainsActed_hold (qualified : Bool) (s : State) : (mainsActed qualified s).sup.hold = s.sup.hold := by
  simp [mainsActed, mainsSupervised]

theorem mainsActed_record (qualified : Bool) (s : State) (h : alMainsFail < s.alarm.records.length) :
    ((mainsActed qualified s).record alMainsFail).cond = !qualified := by
  have supervised : (mainsSupervised qualified s).alarm.records.length = s.alarm.records.length :=
    (supervise_within [] _).length
  rw [mainsActed, (actOnMode_stands _ _).record alMainsFail (by decide), report_cond _ _ _ (supervised ▸ h)]

/-- What a change of mains leaves whatever it changes to (R9, R15). -/
theorem setMains_plant (qualified : Bool) (s : State) (complete : s.alarm.records.length = 40) :
    (setMains qualified s).meas = { s.meas with mainsQualified := qualified, mainsTimer := none } ∧
      (setMains qualified s).sup.hold = s.sup.hold ∧ ((setMains qualified s).record 0).cond = !qualified := by
  have step := genMainsChanged_step (mainsActed qualified s)
  rw [setMains_eq]
  refine ⟨?_, step.hold.trans (mainsActed_hold qualified s), ?_⟩
  · simpa using mainsActed_meas qualified s
  · rw [step.record 0 (by decide)]
    exact mainsActed_record qualified s (by rw [complete]; decide)

/-! ## The generator controller at a change of mains (R130, R135, R136) -/

/-- The generator controller, told that mains has returned or gone, before it takes the load again. -/
def mainsTold (qualified : Bool) (s : State) : State :=
  if qualified then s.onGen fun g => { g with mainsFailTimer := none, spent := false }
  else convertExercise (s.onGen fun g => { g with mainsFailTimer := some 0 })

theorem setMains_told (qualified : Bool) (s : State) :
    setMains qualified s = retakeLoad (mainsTold qualified (mainsActed qualified s)) := by
  have known : (mainsActed qualified s).meas.mainsQualified = qualified := by rw [mainsActed_meas]
  rw [setMains_eq, genMainsChanged, known]
  cases qualified <;> rfl

theorem mainsTold_meas (qualified : Bool) (s : State) : (mainsTold qualified s).meas = s.meas := by
  unfold mainsTold
  split <;> simp

/-- R135: what carries the plant after a change of mains. -/
theorem loadState_manual {s : State} {r : Run} (basis : r.basis = .manual) (load : r.load = false) :
    loadState s r = if s.meas.mainsQualified then .offload else .online := by
  simp [loadState, basis, load]

/-- The generator controller, told of the return of mains. -/
theorem mainsTold_returned (s : State) :
    (mainsTold true (mainsActed true s)).gen = { s.gen with mainsFailTimer := none, spent := false } := by
  simp [mainsTold, State.onGen, mainsActed_gen]

/-- A loss of mains starts the mains-fail timer. -/
def failTimed (s : State) : State := (mainsActed false s).onGen fun g => { g with mainsFailTimer := some 0 }

theorem failTimed_gen (s : State) : (failTimed s).gen = { s.gen with mainsFailTimer := some 0 } := by
  simp [failTimed, State.onGen, mainsActed_gen]

theorem mainsTold_lost {s : State} {r : Run} (run : s.gen.run = some r) (h : s.gen.converts r) :
    (mainsTold false (mainsActed false s)).gen = { s.gen with
      mainsFailTimer := some 0
      run := some { r with basis := .mainsFail, opening := some .exercise, duration := none, durCount := none }
      log := s.gen.log.modifyHead fun x => { x with basis := .mainsFail, opening := some .exercise } } := by
  have gen := failTimed_gen s
  have told := convertExercise_converted (s := failTimed s) (r := r) (by rw [gen]; exact run) (by rw [gen]; exact h)
  rw [gen] at told
  exact told

theorem mainsTold_unconverted {s : State} (h : ∀ r, s.gen.run = some r → ¬ s.gen.converts r) :
    (mainsTold false (mainsActed false s)).gen = { s.gen with mainsFailTimer := some 0 } := by
  have gen := failTimed_gen s
  have told := convertExercise_same (s := failTimed s) (by rw [gen]; exact h)
  exact (congrArg State.gen told).trans gen

theorem mainsTold_machine (qualified : Bool) (s : State) :
    (mainsTold qualified (mainsActed qualified s)).gen.machine = s.gen.machine := by
  cases qualified with
  | true => rw [mainsTold_returned]
  | false => simp [mainsTold, convertExercise_machine, State.onGen, mainsActed_gen]

theorem mainsTold_lostTimer (s : State) :
    (mainsTold false (mainsActed false s)).gen.mainsFailTimer = some 0 ∧
      (mainsTold false (mainsActed false s)).gen.spent = s.gen.spent := by
  by_cases h : ∀ r, s.gen.run = some r → ¬ s.gen.converts r
  · rw [mainsTold_unconverted h]
    exact ⟨rfl, rfl⟩
  · obtain ⟨r, run, converts⟩ : ∃ r, s.gen.run = some r ∧ s.gen.converts r := by simpa using h
    rw [mainsTold_lost run converts]
    exact ⟨rfl, rfl⟩

/-- A machine that does not carry the plant stays as it is at a change of mains. -/
theorem setMains_machine_idle {qualified : Bool} {s : State}
    (h : ¬ (s.gen.machine = .online ∨ s.gen.machine = .offload)) :
    (setMains qualified s).gen.machine = s.gen.machine := by
  rw [setMains_told, retakeLoad_idle (by rwa [mainsTold_machine]), mainsTold_machine]

/-- R135: a run that carries the plant, or runs beside it, is where its basis puts it. -/
theorem setMains_machine {qualified : Bool} {s : State} {r : Run}
    (run : (mainsTold qualified (mainsActed qualified s)).gen.run = some r)
    (carries : s.gen.machine = .online ∨ s.gen.machine = .offload) :
    (setMains qualified s).gen.machine = loadState (mainsTold qualified (mainsActed qualified s)) r := by
  rw [setMains_told]
  exact retakeLoad_machine run (by rwa [mainsTold_machine])

theorem mainsTold_known (qualified : Bool) (s : State) :
    (mainsTold qualified (mainsActed qualified s)).meas.mainsQualified = qualified := by
  rw [mainsTold_meas, mainsActed_meas]

/-! ## The scheduler at a loss of mains (R96) -/

theorem retakeLoad_rect_idle {s : State} (h : s.rect.running = []) : (retakeLoad s).rect.running = [] := by
  unfold retakeLoad
  split
  · exact h
  · split
    · exact genEnter_idle _ h
    · exact h

theorem mainsTold_rect (qualified : Bool) (s : State) : (mainsTold qualified s).rect = s.rect := by
  unfold mainsTold
  split <;> simp

theorem setMains_lost_running {s : State} (derived : s.ModeDerived) (placed : s.RosterPlaced)
    (qualified : s.meas.mainsQualified = true) (offline : s.gen.machine ≠ .online) :
    (setMains false s).rect.running = [] := by
  have was : s.sup.ac = true := by rw [derived.2]; simp [deriveAc, qualified]
  have acted : (mainsActed false s).rect.running = [] := by
    refine actOnMode_lost was ?_ (placed.live.congr ?_ ?_)
    · simpa [mainsSupervised, deriveAc, State.online] using offline
    · simp [mainsSupervised]
    · simp [mainsSupervised]
  rw [setMains_told]
  exact retakeLoad_rect_idle (by rw [mainsTold_rect, acted])

end Sys2Proof.Machine

open Sys2Proof Sys2Proof.Machine

/-- Settles O21, from what the two commands make of the qualification and of the run in flight. -/
theorem mainsQualificationChanges : Obligations.MainsQualificationChanges := by
  intro s on complete
  have returned : exec .mainsReturnTimerExpiry s = .next (mainsReturns s) := whenPowered_on s _ on
  have lost : exec .mainsFailTimerExpiry s = .next (mainsFails s) := whenPowered_on s _ on
  have frame (qualified : Bool) : setMains qualified s = { s with
      meas := (setMains qualified s).meas, sup := (setMains qualified s).sup, acct := (setMains qualified s).acct
      charge := (setMains qualified s).charge, rect := (setMains qualified s).rect, prot := (setMains qualified s).prot
      gen := (setMains qualified s).gen, alarm := (setMains qualified s).alarm } := by
    apply State.ext_parts <;> simp
  refine ⟨fun not_ timer => ?_, fun was timer => ?_, fun was timer derived placed offline => ?_, fun h => ?_, fun h => ?_⟩
  · rw [mainsReturns, if_pos ⟨not_, timer⟩] at returned
    obtain ⟨meas, hold, fail⟩ := setMains_plant true s complete
    obtain ⟨mode, ac⟩ := setMains_derived true s
    have told := mainsTold_returned s
    have kept := retakeLoad_runKept (mainsTold true (mainsActed true s))
    rw [told, ← setMains_told] at kept
    refine ⟨_, returned, meas, mode, by rw [ac, deriveAc, meas]; rfl, hold, fail, kept.timer, kept.spent,
      fun r run carries basis load => ?_, setMains_machine_idle, fun r run => ⟨kept.run r run, kept.log⟩, frame true⟩
    rw [setMains_machine (by rw [told]; exact run) carries, loadState_manual basis load, mainsTold_known]
    rfl
  · rw [mainsFails, if_pos ⟨was, timer⟩] at lost
    obtain ⟨meas, hold, fail⟩ := setMains_plant false s complete
    obtain ⟨mode, ac⟩ := setMains_derived false s
    obtain ⟨timed, unspent⟩ := mainsTold_lostTimer s
    have kept := retakeLoad_runKept (mainsTold false (mainsActed false s))
    rw [← setMains_told] at kept
    refine ⟨_, lost, meas, mode, by rw [ac, deriveAc, meas]; rfl, hold, fail, kept.timer.trans timed,
      kept.spent.trans unspent, fun r run carries basis load => ?_, fun r run basis machine => ?_,
      fun r run basis => ?_, setMains_machine_idle, frame false⟩
    · have unconverted := mainsTold_unconverted (s := s) fun x hx converts => by
        rw [run] at hx
        obtain rfl := Option.some.inj hx
        exact absurd (basis.symm.trans converts.1) (by decide)
      rw [setMains_machine (by rw [unconverted]; exact run) carries, loadState_manual basis load, mainsTold_known]
      rfl
    · have told := mainsTold_lost run ⟨basis, by simpa [or_assoc] using machine⟩
      rw [told] at kept
      refine ⟨?_, kept.run _ rfl, ?_⟩
      · split
        · next offload =>
          rw [setMains_machine (by rw [told]) (.inr offload)]
          rfl
        · next notOffload =>
          refine setMains_machine_idle fun carries => ?_
          rcases carries with online | offload
          · simp [online] at machine
          · exact notOffload offload
      · refine kept.log.trans ?_
        cases s.gen.log <;> rfl
    · have unconverted := mainsTold_unconverted (s := s) fun x hx converts => by
        rw [run] at hx
        obtain rfl := Option.some.inj hx
        exact basis converts.1
      rw [unconverted] at kept
      exact ⟨kept.run r run, kept.log⟩
  · rw [mainsFails, if_pos ⟨was, timer⟩] at lost
    exact ⟨_, lost, setMains_lost_running derived placed was offline⟩
  · rw [returned, mainsReturns, if_neg]
    rintro ⟨not_, timer⟩
    rcases h with h | h
    · simp [h] at not_
    · simp [h] at timer
  · rw [lost, mainsFails, if_neg]
    rintro ⟨was, timer⟩
    rcases h with h | h
    · simp [h] at was
    · simp [h] at timer
end

section
/-! SUPPORT and the statement about the BPD (R15, R48, R49, R73, R78 to R81). -/

namespace Sys2Proof.Machine

/-! ## What a change of the mode leaves of the protection unit -/

theorem changeStage_prot {new : Stage} (h : new ≠ .test) (s : State) : (changeStage new s).prot = s.prot := by
  by_cases same : s.charge.stage = new
  · rw [changeStage_same new s same]
  · rw [changeStage_ne new s same h]
    simp

theorem bulkOrFloat_ne_test (s : State) : bulkOrFloat s ≠ .test := fun h => by
  simpa [h, Stage.charges] using bulkOrFloat_charges s

theorem endTest_prot (outcome : TestOutcome) {next : Stage} (h : next ≠ .test) (s : State) :
    (endTest outcome next s).prot = s.prot := by
  unfold endTest
  split
  · rfl
  · simp [changeStage_prot h]

/-- A change of mode enters TEST in no case. -/
theorem chargeModeChange_prot (old : Mode) (s : State) : (chargeModeChange old s).prot = s.prot := by
  have entered {new : Stage} (h : new ≠ .test) (u : State) : (recomputeIbl (changeStage new u)).prot = u.prot := by
    simp [changeStage_prot h]
  have returned : (if returnTest s then bulkOrFloat s else .float) ≠ .test := by
    split
    · exact bulkOrFloat_ne_test s
    · decide
  have suspended : (suspendEqualize s).prot = s.prot := by simp
  have aborted (next : Stage) (h : next ≠ .test) (u : State) : (endTest .aborted next u).prot = u.prot :=
    endTest_prot _ h u
  unfold chargeModeChange
  split
  · rw [entered (by decide), aborted _ (by decide), suspended]
  · rw [entered (by decide), aborted _ (by decide), suspended]
  · split
    case h_1 => exact entered returned s
    case h_2 => exact entered (bulkOrFloat_ne_test s) s
    all_goals simp
  · split
    case h_1 => exact entered returned s
    case h_2 => exact entered (bulkOrFloat_ne_test s) s
    case h_3 => simp
    case h_4 =>
      split
      case h_1 => rw [entered (by decide), suspended]
      case h_2 => simp [aborted _ (bulkOrFloat_ne_test s)]
      all_goals simp

/-- R73: outside BATTERY the counts of the shed and of the disconnect are discarded, and with AC available no other. -/
theorem protectionModeChange_prot {s : State} (mode : s.sup.mode ≠ .battery) (ac : s.sup.ac = true) :
    (protectionModeChange s).prot = { s.prot with shedCount := 0, disconnectCount := 0 } := by
  simp [protectionModeChange, mode, ac, State.onProt]

/-- R73: without AC available the counts of the reconnects go too. -/
theorem protectionModeChange_prot_noAc {s : State} (mode : s.sup.mode ≠ .battery) (ac : s.sup.ac = false) :
    (protectionModeChange s).prot = { s.prot with
      shedCount := 0, disconnectCount := 0, nelCount := 0, bpdCount := 0, dischargeCount := 0 } := by
  simp [protectionModeChange, mode, ac, State.onProt, dropDischargeCount]

theorem actOnMode_changed {old : Sup} {s : State} (h : s.sup.mode ≠ old.mode) :
    actOnMode old s = schedulerAcChange old.ac (protectionModeChange (chargeModeChange old.mode s)) := by
  simp [actOnMode, h]

theorem schedulerAcChange_same {ac : Bool} {s : State} (h : s.sup.ac = ac) : schedulerAcChange ac s = s := by
  subst h
  simp [schedulerAcChange]

/-- R48: BATTERY and PROTECT are modes of DISCHARGE. -/
theorem chargeModeChange_discharge (old : Mode) {s : State} (h : s.sup.mode = .battery ∨ s.sup.mode = .protect) :
    (chargeModeChange old s).charge.stage = .discharge ∧ (chargeModeChange old s).charge.test = none := by
  have ended := (endTest_charge .aborted .discharge (suspendEqualize s)).1
  rcases h with h | h <;> simp [chargeModeChange, h, ended]

/-- R49: PROTECT gives way to a stage that charges. -/
theorem chargeModeChange_fromProtect {s : State} (h : s.sup.mode = .mains ∨ s.sup.mode = .generator) :
    chargeModeChange .protect s = recomputeIbl (changeStage (bulkOrFloat s) s) := by
  rcases h with h | h <;> simp [chargeModeChange, h]

theorem rederive_accounts (s : State) : AccountsKept s (rederive s) := by
  have supervised : AccountsKept s (supervise s) := .of_eq (by simp)
  have charged : AccountsKept (supervise s) (chargeActed s.sup (supervise s)) := by
    have moved (u : State) : AccountsKept u (protectionModeChange u) := .of_eq (by simp)
    unfold chargeActed
    dsimp only
    split
    · split
      · exact .of_eq rfl
      · exact moved _
    · split
      · exact chargeModeChange_accounts _ _
      · exact (chargeModeChange_accounts _ _).trans (moved _)
  have scheduled (u : State) : AccountsKept u (schedulerAcChange s.sup.ac u) := .of_eq (by simp)
  exact (supervised.trans charged).trans (scheduled _)

/-! ## The BPD opens (R79) -/

/-- The BPD open and BATTERY_DISCONNECTED reported, the mode not yet derived. -/
def bpdOpened (s : State) : State :=
  report alBatteryDisconnected true (s.onProt fun p => { p with bpd := .opened, disconnectCount := 0, bpdCount := 0 })

theorem bpdOpened_prot (s : State) :
    (bpdOpened s).prot = { s.prot with bpd := .opened, disconnectCount := 0, bpdCount := 0 } := by
  simp [bpdOpened, State.onProt]

theorem openBpd_eq (s : State) : openBpd s = rederive (bpdOpened s) := rfl

theorem deriveMode_bpdOpened (s : State) : deriveMode (bpdOpened s) = .protect := if_pos (by rw [bpdOpened_prot])

theorem openBpd_sup (s : State) : (openBpd s).sup = { s.sup with mode := .protect, ac := deriveAc (bpdOpened s) } := by
  rw [openBpd_eq, rederive_sup, deriveMode_bpdOpened]
  simp [bpdOpened]

/-- R15, R79: the blocks act on a mode that has become PROTECT. -/
theorem openBpd_acted {s : State} (h : s.sup.mode ≠ .protect) :
    openBpd s = schedulerAcChange s.sup.ac
      (protectionModeChange (chargeModeChange s.sup.mode (supervise (bpdOpened s)))) := by
  have sup : (bpdOpened s).sup = s.sup := by simp [bpdOpened]
  have changed : (supervise (bpdOpened s)).sup.mode ≠ s.sup.mode := by
    rw [supervise_sup, deriveMode_bpdOpened]
    exact h.symm
  rw [openBpd_eq, rederive, sup, actOnMode_changed changed]

theorem openBpd_charge {s : State} (h : s.sup.mode ≠ .protect) :
    (openBpd s).charge.stage = .discharge ∧ (openBpd s).charge.test = none := by
  rw [openBpd_acted h]
  simpa using chargeModeChange_discharge s.sup.mode (s := supervise (bpdOpened s))
    (.inr (by rw [supervise_sup, deriveMode_bpdOpened]))

theorem openBpd_prot {s : State} (h : s.sup.mode ≠ .protect) :
    (openBpd s).prot.bpd = .opened ∧ (openBpd s).prot.nel = s.prot.nel ∧
      (openBpd s).prot.shedCause = s.prot.shedCause ∧ (openBpd s).prot.disconnectCount = 0 ∧
      (openBpd s).prot.bpdCount = 0 := by
  generalize charged : chargeModeChange s.sup.mode (supervise (bpdOpened s)) = u
  have prot : u.prot = { s.prot with bpd := .opened, disconnectCount := 0, bpdCount := 0 } := by
    rw [← charged, chargeModeChange_prot, ← bpdOpened_prot]
    simp
  have mode : u.sup.mode ≠ .battery := by
    simp [← charged, deriveMode_bpdOpened]
  have acted : (openBpd s).prot = (protectionModeChange u).prot := by rw [openBpd_acted h, charged]; simp
  rw [acted]
  cases ac : u.sup.ac with
  | true => rw [protectionModeChange_prot mode ac, prot]; exact ⟨rfl, rfl, rfl, rfl, rfl⟩
  | false => rw [protectionModeChange_prot_noAc mode ac, prot]; exact ⟨rfl, rfl, rfl, rfl, rfl⟩

theorem openBpd_record {s : State} (complete : s.alarm.records.length = 40) : ((openBpd s).record 4).cond = true := by
  rw [openBpd_eq, (rederive_within _).record 4 (by decide)]
  exact report_cond _ _ _ (by simp [State.onProt, complete, alBatteryDisconnected])

theorem openBpd_accounts (s : State) : AccountsKept s (openBpd s) :=
  AccountsKept.trans (t := bpdOpened s) (.of_eq (by simp [bpdOpened])) (rederive_accounts _)

/-! ## The BPD closes (R81) -/

/-- The BPD closed and BATTERY_DISCONNECTED reported, the mode not yet derived. -/
def bpdClosed (s : State) : State :=
  report alBatteryDisconnected false (s.onProt fun p => { p with bpd := .closed, disconnectCount := 0, bpdCount := 0 })

theorem bpdClosed_prot (s : State) :
    (bpdClosed s).prot = { s.prot with bpd := .closed, disconnectCount := 0, bpdCount := 0 } := by
  simp [bpdClosed, State.onProt]

theorem closeBpd_eq (s : State) : closeBpd s = rederive (bpdClosed s) := rfl

/-- The mode that follows PROTECT while AC is available. -/
def State.chargingMode (s : State) : Mode := if s.gen.machine = .online then .generator else .mains

/-- What the supervisor derives when the BPD closes under AC (R15). -/
theorem bpdClosed_derived {s : State} (derived : s.ModeDerived) (ac : s.sup.ac = true) :
    deriveMode (bpdClosed s) = s.chargingMode ∧ deriveAc (bpdClosed s) = true := by
  have known : deriveAc s = true := derived.2 ▸ ac
  have machine : (bpdClosed s).gen = s.gen := by simp [bpdClosed]
  have meas : (bpdClosed s).meas = s.meas := by simp [bpdClosed]
  refine ⟨?_, by simpa [deriveAc, State.online, machine, meas] using known⟩
  by_cases online : s.gen.machine = .online
  · simp [deriveMode, bpdClosed_prot, State.online, machine, online, State.chargingMode]
  · have mains : s.meas.mainsQualified = true := by simpa [deriveAc, State.online, online] using known
    simp [deriveMode, bpdClosed_prot, State.online, machine, meas, online, mains, State.chargingMode]

theorem chargingMode_charges (s : State) : s.chargingMode = .mains ∨ s.chargingMode = .generator := by
  unfold State.chargingMode
  split
  · exact .inr rfl
  · exact .inl rfl

/-- What the end of PROTECT leaves (R15, R49, R81). -/
structure ProtectEnded (s t : State) : Prop where
  prot : t.prot = { s.prot with bpd := .closed, disconnectCount := 0, bpdCount := 0, shedCount := 0 }
  sup : t.sup = { s.sup with mode := s.chargingMode }
  stage : t.charge.stage = if s.charge.latch = true then .float else .bulk
  frame : t = { s with sup := t.sup, charge := t.charge, prot := t.prot, rect := t.rect, alarm := t.alarm }

theorem closeBpd_ended {s : State} (derived : s.ModeDerived) (opened : s.prot.bpd = .opened) (ac : s.sup.ac = true) :
    ProtectEnded s (closeBpd s) := by
  obtain ⟨mode, stillAc⟩ := bpdClosed_derived derived ac
  have was : s.sup.mode = .protect := by rw [derived.1]; exact if_pos opened
  have same : (bpdClosed s).sup = s.sup := by simp [bpdClosed]
  generalize supervised : supervise (bpdClosed s) = u
  have sup : u.sup = { s.sup with mode := s.chargingMode } := by
    rw [← supervised, supervise_sup, mode, stillAc, same, ← ac]
  have prot : u.prot = { s.prot with bpd := .closed, disconnectCount := 0, bpdCount := 0 } := by
    rw [← bpdClosed_prot, ← supervised]; simp
  have charge : u.charge = s.charge := by rw [← supervised]; simp [bpdClosed]
  have charging : u.sup.mode = .mains ∨ u.sup.mode = .generator := by rw [sup]; exact chargingMode_charges s
  have acted : closeBpd s = protectionModeChange (recomputeIbl (changeStage (bulkOrFloat u) u)) := by
    rw [closeBpd_eq, rederive, supervised, same,
      actOnMode_changed (by rw [was]; rcases charging with h | h <;> simp [h]), was, chargeModeChange_fromProtect charging]
    exact schedulerAcChange_same (by simp [sup])
  have notBattery : (recomputeIbl (changeStage (bulkOrFloat u) u)).sup.mode ≠ .battery := by
    rcases charging with h | h <;> simp [h]
  rw [acted]
  refine ⟨?_, by simp [sup], ?_, ?_⟩
  · rw [protectionModeChange_prot notBattery (by simp [sup, ac])]
    simp [changeStage_prot (bulkOrFloat_ne_test u), prot]
  · simp [bulkOrFloat_eq, charge]
  · rw [← supervised]
    apply State.ext_parts <;> simp [bpdClosed]

theorem closeBpd_record {s : State} (complete : s.alarm.records.length = 40) : ((closeBpd s).record 4).cond = false := by
  rw [closeBpd_eq, (rederive_within _).record 4 (by decide)]
  exact report_cond _ _ _ (by simp [State.onProt, complete, alBatteryDisconnected])

/-! ## The protection unit at a measurement event (R73, R78, R80) -/

/-- What the work on the NEL leaves of the BPD and of what it is judged by. -/
structure BpdUntouched (s t : State) : Prop where
  frame : t = { s with prot := t.prot, alarm := t.alarm }
  bpd : t.prot.bpd = s.prot.bpd ∧ t.prot.disconnectCount = s.prot.disconnectCount ∧ t.prot.bpdCount = s.prot.bpdCount
  step : ModeStep s t
  length : t.alarm.records.length = s.alarm.records.length

theorem onProt_untouched {s : State} (f : Prot → Prot)
    (h : (f s.prot).bpd = s.prot.bpd ∧ (f s.prot).disconnectCount = s.prot.disconnectCount ∧
      (f s.prot).bpdCount = s.prot.bpdCount) : BpdUntouched s (s.onProt f) :=
  ⟨rfl, h, onProt_modeStep f s h.1, rfl⟩

theorem BpdUntouched.report {s t : State} (h : BpdUntouched s t) (c : Nat) (v : Bool) :
    BpdUntouched s (Machine.report c v t) where
  frame := by
    rw [h.frame]
    apply State.ext_parts <;> simp
  bpd := by simpa using h.bpd
  step := h.step.trans (.of_eq (by simp))
  length := by simpa using h.length

theorem openNel_untouched (cause : ShedCause) (s : State) : BpdUntouched s (openNel cause s) :=
  (onProt_untouched _ ⟨rfl, rfl, rfl⟩).report _ _

theorem closeNel_untouched (s : State) : BpdUntouched s (closeNel s) :=
  (onProt_untouched _ ⟨rfl, rfl, rfl⟩).report _ _

theorem BpdUntouched.ite {s t u : State} (p : Prop) [Decidable p] (ht : BpdUntouched s t) (hu : BpdUntouched s u) :
    BpdUntouched s (if p then t else u) := by
  split
  · exact ht
  · exact hu

theorem shedWork_untouched (s : State) : BpdUntouched s (shedWork s) := by
  have counted (n : Nat) : BpdUntouched s (s.onProt fun p => { p with shedCount := n }) :=
    onProt_untouched _ ⟨rfl, rfl, rfl⟩
  unfold shedWork
  exact .ite _ (.ite _ (openNel_untouched _ s) (.ite _ (openNel_untouched _ s)
    (.ite _ (openNel_untouched _ s) (counted _)))) (counted 0)

theorem nelWork_untouched (s : State) : BpdUntouched s (nelWork s) := by
  have counted (n : Nat) : BpdUntouched s (s.onProt fun p => { p with nelCount := n }) :=
    onProt_untouched _ ⟨rfl, rfl, rfl⟩
  unfold nelWork
  exact .ite _ (.ite _ (closeNel_untouched s) (counted _)) (counted 0)

/-- The unit's work on the NEL, ahead of that on the BPD. -/
def nelWorked (s : State) : State := if s.prot.nel = .opened then nelWork s else shedWork s

theorem nelWorked_untouched (s : State) : BpdUntouched s (nelWorked s) := by
  unfold nelWorked
  split
  · exact nelWork_untouched s
  · exact shedWork_untouched s

/-- R78: the count of the disconnect after the event. -/
def disconnectRun (s : State) : Nat := if busFalls s 0 then s.prot.disconnectCount + 1 else 0

/-- R80: the count of the reconnect after the event. -/
def reconnectRun (s : State) : Nat :=
  if s.sup.ac && enoughRunning s && busRises s 2 then s.prot.bpdCount + 1 else 0

theorem disconnectWork_due {s : State} (battery : s.sup.mode = .battery) (closed : s.prot.bpd = .closed)
    (h : s.inForce 2 1 ≤ disconnectRun s) : disconnectWork s = openBpd s :=
  (if_pos ⟨battery, closed⟩).trans (if_pos h)

theorem disconnectWork_counting {s : State} (battery : s.sup.mode = .battery) (closed : s.prot.bpd = .closed)
    (h : disconnectRun s < s.inForce 2 1) :
    disconnectWork s = s.onProt fun p => { p with disconnectCount := disconnectRun s } :=
  (if_pos ⟨battery, closed⟩).trans (if_neg (Nat.not_le.2 h))

theorem disconnectWork_off {s : State} (h : s.sup.mode ≠ .battery) :
    disconnectWork s = s.onProt fun p => { p with disconnectCount := 0 } :=
  if_neg fun b => h b.1

theorem reconnectWork_due {s : State} (opened : s.prot.bpd = .opened) (h : s.inForce 2 3 ≤ reconnectRun s) :
    reconnectWork s = closeBpd s :=
  (if_pos opened).trans (if_pos h)

theorem reconnectWork_counting {s : State} (opened : s.prot.bpd = .opened) (h : reconnectRun s < s.inForce 2 3) :
    reconnectWork s = s.onProt fun p => { p with bpdCount := reconnectRun s } :=
  (if_pos opened).trans (if_neg (Nat.not_le.2 h))

/-- The unit's work on the BPD. -/
def bpdWorked (s : State) : State :=
  if s.prot.bpd = .opened then reconnectWork (nelWorked s) else disconnectWork (nelWorked s)

theorem protectionEvent_eq (s : State) : protectionEvent s = reportBus (dischargeWork (bpdWorked s)) := rfl

/-- The event's work behind that on the contactors leaves both, and the plant mode with them. -/
structure ContactorsKept (s t : State) : Prop where
  prot : t.prot = { s.prot with dischargeCount := t.prot.dischargeCount }
  sup : t.sup = s.sup
  charge : t.charge = s.charge
  record : t.record 4 = s.record 4

theorem protectionEvent_kept (s : State) : ContactorsKept (bpdWorked s) (protectionEvent s) where
  prot := by simp [protectionEvent_eq, dischargeWork, State.onProt]
  sup := by simp [protectionEvent_eq]
  charge := by simp [protectionEvent_eq]
  record := by
    rw [protectionEvent_eq, reportBus, report_record_ne _ _ _ _ (by decide), report_record_ne _ _ _ _ (by decide),
      dischargeWork, report_record_ne _ _ _ _ (by decide)]
    rfl

end Sys2Proof.Machine

open Sys2Proof Sys2Proof.Machine

/-- Settles O31: the BPD opens and closes by the two commands, and at an event in the same ways. -/
theorem bpdMakesAndEndsProtect : Obligations.BpdMakesAndEndsProtect := by
  intro s on complete
  refine ⟨fun battery closed due_ => ?_, fun not_ => ?_, fun opened ac derived due_ => ?_, fun not_ => ?_, fun derived => ?_⟩
  · have notProtect : s.sup.mode ≠ .protect := by rw [battery]; decide
    have led : exec .batteryDisconnect s = .next (openBpd s) :=
      onExpiry_due s _ _ on (by simp [disconnectDue, battery, closed, due, due_])
    obtain ⟨bpd, nel, cause, disconnects, reconnects⟩ := openBpd_prot notProtect
    obtain ⟨stage, test⟩ := openBpd_charge notProtect
    refine ⟨_, led, bpd, nel, cause, disconnects, reconnects, by rw [openBpd_sup], by rw [openBpd_sup], stage, test,
      openBpd_record complete, (openBpd_accounts s).account, ?_⟩
    apply State.ext_parts <;> simp
  · refine onExpiry_early s _ _ ?_
    rcases not_ with h | h <;> simp [disconnectDue, h]
  · have led : exec .bpdReconnect s = .next (closeBpd s) :=
      onExpiry_due s _ _ on (by simp [bpdReconnectDue, opened, ac, due, due_])
    have ended := closeBpd_ended derived opened ac
    exact ⟨_, led, ended.prot, ended.sup, ended.stage, closeBpd_record complete, ended.frame⟩
  · refine onExpiry_early s _ _ ?_
    rcases not_ with h | h <;> simp [bpdReconnectDue, h]
  · obtain ⟨frame, ⟨bpd, disconnects, reconnects⟩, step, length⟩ := nelWorked_untouched s
    have kept := protectionEvent_kept s
    have sup : (nelWorked s).sup = s.sup := by rw [frame]
    have charge : (nelWorked s).charge = s.charge := by rw [frame]
    have generator : (nelWorked s).gen = s.gen := by rw [frame]
    have delay (i : Nat) : (nelWorked s).inForce 2 i = s.inForce 2 i := by rw [frame]; rfl
    have off : disconnectRun (nelWorked s) =
        if s.meas.bus ≤ s.cells * s.inForce 2 0 / 10 then s.prot.disconnectCount + 1 else 0 := by
      have falls : busFalls (nelWorked s) 0 = busFalls s 0 := by rw [frame]; rfl
      rw [disconnectRun, falls, disconnects]
      simp only [busFalls, decide_eq_true_eq]
      rfl
    have again : reconnectRun (nelWorked s) =
        if s.sup.ac = true ∧ min (s.inForce 4 3) (s.inForce 0 15) ≤
            (s.rect.running.filter fun i => (s.slot i).state == .running).length ∧
            s.cells * s.inForce 2 2 / 10 ≤ s.meas.bus then s.prot.bpdCount + 1 else 0 := by
      have rises : busRises (nelWorked s) 2 = busRises s 2 := by rw [frame]; rfl
      have enough : enoughRunning (nelWorked s) = enoughRunning s := by rw [frame]; rfl
      rw [reconnectRun, sup, enough, rises, reconnects]
      simp only [busRises, enoughRunning, Bool.and_eq_true, decide_eq_true_eq, and_assoc]
      rfl
    dsimp only
    rw [← off, ← again, ← delay 1, ← delay 3, ← bpd, kept.record, kept.sup, kept.charge, kept.prot, ← sup, ← charge,
      ← generator]
    have onClosed (h : s.prot.bpd = .closed) : bpdWorked s = disconnectWork (nelWorked s) := if_neg (by simp [h])
    have onOpened (h : s.prot.bpd = .opened) : bpdWorked s = reconnectWork (nelWorked s) := if_pos h
    refine ⟨fun closed battery due_ => ?_, fun closed battery counting => ?_, fun closed notBattery => ?_,
      fun opened delays due_ => ?_, fun opened counting => ?_⟩
    · have notProtect : (nelWorked s).sup.mode ≠ .protect := by rw [battery]; decide
      rw [onClosed (bpd ▸ closed), disconnectWork_due battery closed due_]
      obtain ⟨opens, -, -, counts, -⟩ := openBpd_prot notProtect
      obtain ⟨stage, test⟩ := openBpd_charge notProtect
      exact ⟨opens, counts, by rw [openBpd_sup], stage, test, openBpd_record (length.trans complete)⟩
    · rw [onClosed (bpd ▸ closed), disconnectWork_counting battery closed counting]
      exact ⟨closed, rfl, rfl, rfl⟩
    · rw [onClosed (bpd ▸ closed), disconnectWork_off notBattery]
      exact ⟨closed, rfl, rfl, rfl⟩
    · rw [onOpened (bpd ▸ opened), reconnectWork_due opened due_]
      have ac : (nelWorked s).sup.ac = true := by
        by_contra without
        simp [reconnectRun, without] at due_
        omega
      have ended := closeBpd_ended (step.derived derived) opened ac
      rw [ended.prot, ended.sup, ended.stage]
      exact ⟨rfl, rfl, closeBpd_record (length.trans complete), rfl, rfl⟩
    · rw [onOpened (bpd ▸ opened), reconnectWork_counting opened counting]
      exact ⟨opened, rfl, rfl, rfl⟩
end

section
/-! SUPPORT. The owners of the input functions and what a changed function state brings (R13, R19, R21, R129, R140 to R143,
R189). -/

namespace Sys2Proof.Machine

/-! ## The evaluation of the causes and the gates -/

/-- R129: an evaluation touches the generator controller, the exercise mark and the alarm unit. -/
theorem evaluateStart_kept (s : State) : evaluateStart s =
    { s with gen := (evaluateStart s).gen, cal := (evaluateStart s).cal, alarm := (evaluateStart s).alarm } := by
  have evaluated := evaluateStart_evaluated s
  cases gates : gatesOpen s with
  | false => rw [evaluated.closed (.inl gates)]
  | true =>
    cases cause : firstCause s with
    | none => rw [evaluated.closed (.inr cause)]
    | some b =>
      cases b with
      | exercise =>
        have begun := evaluated.exercise gates cause
        split at begun
        · exact begun.frame
        · exact begun.frame
      | _ => exact (evaluated.plant _ cause gates (by decide)).frame

theorem evaluateStart_sup (s : State) : (evaluateStart s).sup = s.sup := by rw [evaluateStart_kept]

theorem evaluateStart_acct (s : State) : (evaluateStart s).acct = s.acct := by rw [evaluateStart_kept]

theorem evaluateStart_fuelLow (s : State) : (evaluateStart s).gen.fuelLow = s.gen.fuelLow := by
  have evaluated := evaluateStart_evaluated s
  cases gates : gatesOpen s with
  | false => rw [evaluated.closed (.inl gates)]
  | true =>
    cases cause : firstCause s with
    | none => rw [evaluated.closed (.inr cause)]
    | some b =>
      cases b with
      | exercise =>
        have begun := evaluated.exercise gates cause
        split at begun
        · rw [begun.generator]
        · rw [begun.generator]
      | _ => rw [(evaluated.plant _ cause gates (by decide)).generator]

/-- The causes and the gates are read from the generator controller, the source supervisor, the accounts, the
measurements and the settings. -/
theorem gates_congr {s t : State} (gen : t.gen = s.gen) (sup : t.sup = s.sup) (acct : t.acct = s.acct)
    (meas : t.meas = s.meas) (work : t.store.work = s.store.work) (latched : t.store.latched = s.store.latched) :
    gatesOpen t = gatesOpen s ∧ firstCause t = firstCause s := by
  have inForce (g i : Nat) : t.inForce g i = s.inForce g i := by simp [State.inForce, latched]
  have active := functionActive_work meas work
  have fitted : t.fittedStrings = s.fittedStrings := by simp [State.fittedStrings, acct]
  have mainsFail : causeMainsFail t = causeMainsFail s := by
    rw [Bool.eq_iff_iff]
    simp [causeMainsFail, inForce, gen]
  have accountLow : causeAccountLow t = causeAccountLow s := by
    rw [Bool.eq_iff_iff]
    simp [causeAccountLow, inForce, sup, fitted]
  have busLow : causeBusLow t = causeBusLow s := by
    rw [Bool.eq_iff_iff]
    simp [causeBusLow, inForce, gen]
  have remote : causeRemote t = causeRemote s := by simp [causeRemote, inForce, active]
  have exercise : causeExercise t = causeExercise s := by simp [causeExercise, gen]
  have rest : t.minRest = s.minRest := by simp [State.minRest, inForce]
  constructor
  · rw [Bool.eq_iff_iff]
    simp [gatesOpen, rest, inForce, active, gen, sup]
  · unfold firstCause
    rw [mainsFail, accountLow, busLow, remote, exercise]

/-- The generator controller's state `g` after the causes and the gates have been evaluated at `x`, if they have. -/
structure StartTried (tried : Prop) (x : State) (g : Gen) : Prop where
  shut : gatesOpen x = false ∨ firstCause x = none → g = x.gen
  untried : ¬ tried → g = x.gen
  begun : tried → gatesOpen x = true → ∀ b, firstCause x = some b → b ≠ .exercise → g.run.map Run.basis = some b
  taken : g = x.gen ∨ g.machine ≠ .idle
  fuelLow : g.fuelLow = x.gen.fuelLow

theorem StartTried.none {tried : Prop} {x : State} (h : ¬ tried) : StartTried tried x x.gen :=
  ⟨fun _ => rfl, fun _ => rfl, fun t => absurd t h, .inl rfl, rfl⟩

/-- Nothing begins while the gates are shut. -/
theorem StartTried.closed {tried : Prop} {x : State} (h : gatesOpen x = false) : StartTried tried x x.gen :=
  ⟨fun _ => rfl, fun _ => rfl, fun _ o => absurd o (by simp [h]), .inl rfl, rfl⟩

theorem evaluateStart_tried {tried : Prop} (h : tried) (s : State) : StartTried tried s (evaluateStart s).gen where
  shut closed := by rw [(evaluateStart_evaluated s).closed closed]
  untried not_ := absurd h not_
  begun _ gates b cause ne := by
    rw [((evaluateStart_evaluated s).plant b cause gates ne).run]
    rfl
  taken := by
    have evaluated := evaluateStart_evaluated s
    have running (m : GenState) (h : m = if 0 < s.inForce 3 11 then .priming else
        if s.meas.genPresent then .warmup else .cranking) : m ≠ .idle := by
      rw [h]
      (repeat' split) <;> decide
    cases gates : gatesOpen s with
    | false => exact .inl (by rw [evaluated.closed (.inl gates)])
    | true =>
      cases cause : firstCause s with
      | none => exact .inl (by rw [evaluated.closed (.inr cause)])
      | some b =>
        cases b with
        | exercise =>
          have begun := evaluated.exercise gates cause
          split at begun
          · exact .inr (running _ begun.machine)
          · exact .inr (running _ begun.machine)
        | _ => exact .inr (running _ (evaluated.plant _ cause gates (by decide)).machine)
  fuelLow := evaluateStart_fuelLow s

theorem StartTried.congr {tried : Prop} {x y : State} {g : Gen} (h : StartTried tried x g) (gen : y.gen = x.gen)
    (same : gatesOpen y = gatesOpen x ∧ firstCause y = firstCause x) : StartTried tried y g where
  shut closed := (h.shut (by rwa [same.1, same.2] at closed)).trans gen.symm
  untried not_ := (h.untried not_).trans gen.symm
  begun tried_ gates b cause ne := h.begun tried_ (same.1 ▸ gates) b (same.2 ▸ cause) ne
  taken := by rw [gen]; exact h.taken
  fuelLow := by rw [gen]; exact h.fuelLow

/-! ## FUEL_LOW under the ends of runs (R142) -/

theorem closeRun_fuelLow {final : GenState} (hn : final ≠ .online) (s : State) :
    (closeRun final s).gen.fuelLow = s.gen.fuelLow := by
  cases run : s.gen.run with
  | none => rw [closeRun_none run]; simp
  | some r => rw [closeRun_some run, evaluateStart_fuelLow, recordClosed_gen hn]

theorem enterStopping_fuelLow (s : State) : (enterStopping s).gen.fuelLow = s.gen.fuelLow := by
  cases present : s.meas.genPresent with
  | true => rw [enterStopping_present (by simpa using present)]; simp
  | false =>
    rw [enterStopping_absent (by simpa using present), confirmStop_eq, closeRun_fuelLow (stopState_offline _)]
    simp

theorem enterCooldown_fuelLow (s : State) : (enterCooldown s).gen.fuelLow = s.gen.fuelLow := by
  unfold enterCooldown
  dsimp only
  split
  · rw [enterStopping_fuelLow]; simp
  · simp

theorem endRun_fuelLow (reason : StopReason) (s : State) : (endRun reason s).gen.fuelLow = s.gen.fuelLow := by
  unfold endRun
  split
  case h_1 | h_2 | h_3 | h_4 => exact enterStopping_fuelLow _
  case h_5 | h_6 => exact enterCooldown_fuelLow _
  all_goals rfl

theorem takeEngineFault_fuelLow (s : State) : (takeEngineFault s).gen.fuelLow = s.gen.fuelLow := by
  unfold takeEngineFault
  split
  · rw [engineFails, enterStopping_fuelLow, setFail_gen, setStop_gen]
  · rfl

/-! ## Runs that are ended (R140, R143) -/

/-- The states of a run that has not come to carry the plant. -/
def GenState.Early (m : GenState) : Prop := m = .priming ∨ m = .cranking ∨ m = .crankRest ∨ m = .warmup

/-- The states of a run that carries the plant or runs beside it. -/
def GenState.Carries (m : GenState) : Prop := m = .online ∨ m = .offload

theorem endRun_early {reason : StopReason} {s : State} (h : s.gen.machine.Early) :
    endRun reason s = enterStopping (setStop reason s) := by
  rcases h with h | h | h | h <;> simp [endRun, h]

theorem endRun_carries {reason : StopReason} {s : State} (h : s.gen.machine.Carries) :
    endRun reason s = enterCooldown (setStop reason s) := by
  rcases h with h | h <;> simp [endRun, h]

theorem endRun_other {reason : StopReason} {s : State} (early : ¬ s.gen.machine.Early)
    (carries : ¬ s.gen.machine.Carries) : endRun reason s = s := by
  unfold endRun
  cases h : s.gen.machine <;> simp_all [GenState.Early, GenState.Carries]

theorem endRun_early_present {reason : StopReason} {s : State} (h : s.gen.machine.Early)
    (present : s.meas.genPresent = true) :
    (endRun reason s).gen.machine = .stopping ∧
      (endRun reason s).gen.run = s.gen.run.map fun r => { r with stopReason := some reason } := by
  rw [endRun_early h, enterStopping_present (by simpa using present), genEnter_gen, enter_offline _ _ (by decide)]
  exact ⟨rfl, rfl⟩

/-- With GEN_INHIBIT active no run follows the one that is ended. -/
theorem endRun_early_absent {reason : StopReason} {s : State} (h : s.gen.machine.Early)
    (absent : s.meas.genPresent = false) (inhibit : s.functionActive fnInhibit = true) :
    (endRun reason s).gen.machine = .failed ∨ (endRun reason s).gen.machine = .idle := by
  rw [endRun_early h]
  have closed := enterStopping_closed (s := setStop reason s) (by simpa using absent)
    (.inr (.inr (by rw [functionActive_congr (s := s) (by simp) (by simp)]; exact inhibit)))
  rw [closed.machine, stopState]
  split
  · exact .inl rfl
  · exact .inr rfl

theorem endRun_cooldown {reason : StopReason} {s : State} (h : s.gen.machine.Carries) (cools : 0 < s.inForce 3 18) :
    (endRun reason s).gen.machine = .cooldown ∧
      (endRun reason s).gen.run = s.gen.run.map fun r => { r with stopReason := some reason } := by
  have same : (genEnter .cooldown (setStop reason s)).inForce 3 18 = s.inForce 3 18 := by simp [State.inForce]
  have entered : enterCooldown (setStop reason s) = genEnter .cooldown (setStop reason s) :=
    if_neg (by rw [same]; exact Nat.ne_of_gt cools)
  rw [endRun_carries h, entered, genEnter_gen, enter_offline _ _ (by decide)]
  exact ⟨rfl, rfl⟩

/-- R134, R141: the states in which an engine-fault input is acted on. -/
theorem faultArmed_iff (s : State) :
    faultArmed s = true ↔ s.gen.machine.Carries ∨ s.gen.machine = .cooldown ∨
      s.gen.machine = .warmup ∧ 10 ≤ s.gen.stateCount := by
  unfold faultArmed GenState.Carries
  cases h : s.gen.machine <;> simp

end Sys2Proof.Machine
end

section
/-! SUPPORT. Function states that have changed are handed to their owners (R13, R19, R21, R140 to R143, R189). -/

namespace Sys2Proof.Machine

/-! ## The conditions a handing on can have reported -/

abbrev handCodes : List Nat := genCodes ++ [alHoldActive]

theorem evaluateStart_within (s : State) : AlarmsWithin handCodes s (evaluateStart s) :=
  (evaluateStart_step s).toAlarmsWithin.mono (by simp)

theorem keyTurned_within (s : State) : AlarmsWithin handCodes s (keyTurned s) := by
  unfold keyTurned
  split
  · exact AlarmsWithin.trans (t := s.onSup fun p => { p with hold := some { cause := .key, left := s.holdLimit * 60 } })
      (.of_eq rfl) (report_within _ _ _ (by simp))
  · exact .of_eq rfl

theorem clearHold_within (s : State) : AlarmsWithin handCodes s (clearHold s) := by
  rw [clearHold_eq]
  exact AlarmsWithin.trans (.of_eq (by rfl)) (report_within alHoldActive _ _ (by simp))

theorem keyWithdrawn_within (s : State) : AlarmsWithin handCodes s (keyWithdrawn s) := by
  have relocked (u : State) : AlarmsWithin handCodes u (relockKeyed u) := .of_eq (by simp)
  unfold keyWithdrawn endHold
  split
  · split
    · exact ((clearHold_within s).trans (evaluateStart_within _)).trans (relocked _)
    · exact relocked s
  · exact relocked s

theorem handFunction_within (f : Nat) (s : State) : AlarmsWithin handCodes s (handFunction f s) := by
  have run : runCodes ⊆ handCodes := by simp
  unfold handFunction
  split
  · split
    · exact keyTurned_within s
    · exact keyWithdrawn_within s
  · split
    · exact (inhibitChanged_step s).toAlarmsWithin.mono run
    · split
      · split
        · exact (takeEngineFault_step s).toAlarmsWithin.mono run
        · exact .of_eq rfl
      · split
        · exact (reportFuel_step s).toAlarmsWithin.mono (by simp)
        · exact .of_eq rfl

/-! ## The key (R19, R21, R189) -/

theorem keyTurned_sup (s : State) : (keyTurned s).sup =
    { s.sup with hold := s.sup.hold.or (some { cause := .key, left := s.now 5 161 * 60 }) } := by
  unfold keyTurned
  cases hold : s.sup.hold with
  | none =>
    rw [if_pos (by simp), beginHold_sup]
    rfl
  | some h =>
    rw [if_neg (by simp), Option.some_or, ← hold]

theorem relockKeyed_store (s : State) : (relockKeyed s).store = { s.store with
    unlocked := s.store.unlocked.filter fun g => s.store.modes.getD g .keyed != .keyed } := by
  cases unlocked : s.store.unlocked with
  | none =>
    have idle : relockKeyed s = s := by simp [relockKeyed, unlocked]
    rw [idle, Option.filter_none, ← unlocked]
  | some g =>
    have mode : s.protectMode g = s.store.modes.getD g .keyed := rfl
    have relocked : relockKeyed s = if s.protectMode g = .keyed then relock s else s := by simp [relockKeyed, unlocked]
    rw [relocked, Option.filter_some]
    split
    · next keyed => rw [if_neg fun h => absurd (mode ▸ keyed) (bne_iff_ne.1 h)]; rfl
    · next keyed => rw [if_pos (bne_iff_ne.2 (mode ▸ keyed)), ← unlocked]

/-- The hold in force, if any, was begun by the key. -/
def State.keyHeld (s : State) : Bool := s.sup.hold.any fun h => h.cause == .key

theorem keyWithdrawn_held {s : State} (h : s.keyHeld = true) :
    keyWithdrawn s = relockKeyed (evaluateStart (clearHold s)) := by
  have active : s.sup.hold.isSome = true := by
    cases hold : s.sup.hold <;> simp_all [State.keyHeld]
  rw [keyWithdrawn, ← endHold_active active]
  exact congrArg relockKeyed (if_pos h)

theorem keyWithdrawn_free {s : State} (h : s.keyHeld = false) : keyWithdrawn s = relockKeyed s :=
  congrArg relockKeyed (if_neg (by simpa [State.keyHeld] using h))

theorem keyWithdrawn_sup (s : State) : (keyWithdrawn s).sup =
    { s.sup with hold := s.sup.hold.filter fun h => h.cause != .key } := by
  cases held : s.keyHeld with
  | true =>
    have gone : (s.sup.hold.filter fun h => h.cause != .key) = none := by
      cases hold : s.sup.hold <;> simp_all [State.keyHeld]
    rw [keyWithdrawn_held held, gone]
    simp [evaluateStart_sup, clearHold_sup]
  | false =>
    have stays : (s.sup.hold.filter fun h => h.cause != .key) = s.sup.hold := by
      cases hold : s.sup.hold <;> simp_all [State.keyHeld]
    rw [keyWithdrawn_free held, stays]
    simp

theorem keyWithdrawn_store (s : State) : (keyWithdrawn s).store = { s.store with
    unlocked := s.store.unlocked.filter fun g => s.store.modes.getD g .keyed != .keyed } := by
  cases held : s.keyHeld with
  | true => rw [keyWithdrawn_held held, relockKeyed_store]; simp
  | false => rw [keyWithdrawn_free held, relockKeyed_store]

theorem keyWithdrawn_acct (s : State) : (keyWithdrawn s).acct = s.acct := by
  cases held : s.keyHeld with
  | true => rw [keyWithdrawn_held held]; simp [evaluateStart_acct]
  | false => rw [keyWithdrawn_free held]; simp

/-! ## Changes of function states -/

section
variable (s u : State)

/-- Function `f` was inactive in `s` and is active in `u`. -/
abbrev TurnsOn (f : Nat) : Prop := s.functionActive f = false ∧ u.functionActive f = true

/-- Function `f` was active in `s` and is inactive in `u`. -/
abbrev TurnsOff (f : Nat) : Prop := s.functionActive f = true ∧ u.functionActive f = false

/-- An engine-fault input becomes active. -/
abbrev Faults : Prop := TurnsOn s u fnOil ∨ TurnsOn s u fnTemp

/-- The key becomes inactive and ends its hold. -/
abbrev KeyEnds : Prop := TurnsOff s u fnKey ∧ u.keyHeld = true

/-- The owner of function `f` is handed its state in `u` if it is not that of `s`. -/
def handIf (f : Nat) (w : State) : State :=
  if u.functionActive f = s.functionActive f then w else handFunction f w

/-- The owners are handed every changed function state, in the order of the function codes (log 29). -/
def handChanged : State :=
  handIf s u fnFuelFloat (handIf s u fnTemp (handIf s u fnOil (handIf s u fnInhibit (handIf s u fnKey u))))

/-- The hold that the key leaves (R19, R21). -/
def keyHold : Option Hold :=
  if TurnsOn s u fnKey then u.sup.hold.or (some { cause := .key, left := u.now 5 161 * 60 })
  else if TurnsOff s u fnKey then u.sup.hold.filter fun h => h.cause != .key
  else u.sup.hold

/-- The unlocked group that the key leaves (R189). -/
def keyUnlocked : Option Nat :=
  if TurnsOff s u fnKey then u.store.unlocked.filter fun g => u.store.modes.getD g .keyed != .keyed
  else u.store.unlocked

theorem turns_cases (f : Nat) :
    TurnsOn s u f ∨ TurnsOff s u f ∨ u.functionActive f = s.functionActive f := by
  cases h : s.functionActive f <;> cases h' : u.functionActive f <;> simp [TurnsOn, TurnsOff, h, h']

end

theorem TurnsOn.not_off {s u : State} {f : Nat} (h : TurnsOn s u f) : ¬ TurnsOff s u f := fun k =>
  absurd (h.1.symm.trans k.1) (by decide)

theorem TurnsOff.not_on {s u : State} {f : Nat} (h : TurnsOff s u f) : ¬ TurnsOn s u f := fun k => k.not_off h

theorem handIf_same {s u : State} {f : Nat} (h : u.functionActive f = s.functionActive f) (w : State) :
    handIf s u f w = w := if_pos h

theorem handIf_on {s u : State} {f : Nat} (h : TurnsOn s u f) (w : State) : handIf s u f w = handFunction f w :=
  if_neg (by simp [h.1, h.2])

theorem handIf_off {s u : State} {f : Nat} (h : TurnsOff s u f) (w : State) : handIf s u f w = handFunction f w :=
  if_neg (by simp [h.1, h.2])

@[simp] theorem handIf_frame (s u : State) (f : Nat) (w : State) :
    (handIf s u f w).pending = w.pending ∧ (handIf s u f w).powered = w.powered ∧
    (handIf s u f w).markerGood = w.markerGood ∧ (handIf s u f w).meas = w.meas ∧ (handIf s u f w).bus = w.bus ∧
    (handIf s u f w).link = w.link := by
  unfold handIf
  split <;> simp

theorem handIf_within (s u : State) (f : Nat) (w : State) : AlarmsWithin handCodes w (handIf s u f w) := by
  unfold handIf
  split
  · exact .of_eq rfl
  · exact handFunction_within f w

theorem handChanged_within (s u : State) : AlarmsWithin handCodes u (handChanged s u) :=
  ((((handIf_within s u _ _).trans (handIf_within s u _ _)).trans (handIf_within s u _ _)).trans
    (handIf_within s u _ _)).trans (handIf_within s u _ _)

@[simp] theorem handChanged_frame (s u : State) :
    (handChanged s u).pending = u.pending ∧ (handChanged s u).powered = u.powered ∧
    (handChanged s u).markerGood = u.markerGood ∧ (handChanged s u).meas = u.meas ∧ (handChanged s u).bus = u.bus ∧
    (handChanged s u).link = u.link := by
  simp [handChanged]

/-! ## The key is handed first -/

theorem handFunction_key (w : State) :
    handFunction fnKey w = if w.functionActive fnKey then keyTurned w else keyWithdrawn w := if_pos rfl

/-- What the key leaves: the hold, the unlocked group, and the gates evaluated where its hold has ended. -/
structure KeyHandled (s u w : State) : Prop where
  sup : w.sup = { u.sup with hold := keyHold s u }
  store : w.store = { u.store with unlocked := keyUnlocked s u }
  meas : w.meas = u.meas
  acct : w.acct = u.acct
  tried : StartTried (KeyEnds s u) { w with gen := u.gen } w.gen

theorem keyHandled (s u : State) : KeyHandled s u (handIf s u fnKey u) := by
  rcases turns_cases s u fnKey with on | off | same
  · have turned : handIf s u fnKey u = keyTurned u := by rw [handIf_on on, handFunction_key, if_pos on.2]
    rw [turned]
    have gen : (keyTurned u).gen = u.gen := by simp
    refine ⟨by rw [keyTurned_sup, keyHold, if_pos on], by simp [keyUnlocked, on.not_off], by simp, by simp, ?_⟩
    rw [gen]
    exact .none fun k => on.not_off k.1
  · have withdrawn : handIf s u fnKey u = keyWithdrawn u := by
      rw [handIf_off off, handFunction_key, if_neg (by simp [off.2])]
    rw [withdrawn]
    refine ⟨by rw [keyWithdrawn_sup, keyHold, if_neg off.not_on, if_pos off],
      by rw [keyWithdrawn_store, keyUnlocked, if_pos off], by simp, keyWithdrawn_acct u, ?_⟩
    cases held : u.keyHeld with
    | true =>
      have gen : (keyWithdrawn u).gen = (evaluateStart (clearHold u)).gen := by rw [keyWithdrawn_held held]; simp
      have sup : (keyWithdrawn u).sup = (clearHold u).sup := by
        rw [keyWithdrawn_held held]; simp [evaluateStart_sup]
      rw [gen]
      exact (evaluateStart_tried ⟨off, held⟩ (clearHold u)).congr (by simp)
        (gates_congr (by simp) sup (by simp [keyWithdrawn_acct]) (by simp) (by simp [keyWithdrawn_store])
          (by simp [keyWithdrawn_store]))
    | false =>
      have gen : (keyWithdrawn u).gen = u.gen := by rw [keyWithdrawn_free held]; simp
      rw [gen]
      exact .none fun k => absurd (held.symm.trans k.2) (by decide)
  · rw [handIf_same same]
    have notOn : ¬ TurnsOn s u fnKey := fun k => by simp [k.1, k.2] at same
    have notOff : ¬ TurnsOff s u fnKey := fun k => by simp [k.1, k.2] at same
    exact ⟨by simp [keyHold, notOn, notOff], by simp [keyUnlocked, notOff], rfl, rfl, .none fun k => notOff k.1⟩

theorem KeyHandled.functions {s u w : State} (k : KeyHandled s u w) (f : Nat) :
    w.functionActive f = u.functionActive f :=
  functionActive_work k.meas (by rw [k.store]) f

theorem KeyHandled.inForce {s u w : State} (k : KeyHandled s u w) (g i : Nat) : w.inForce g i = u.inForce g i := by
  simp [State.inForce, k.store]

/-! ## GEN_INHIBIT, the engine faults and the fuel float after it -/

theorem handIf_inhibit_on {s u w : State} (k : KeyHandled s u w) (on : TurnsOn s u fnInhibit) :
    handIf s u fnInhibit w = endRun .inhibit w := by
  have active : w.functionActive fnInhibit = true := (k.functions fnInhibit).trans on.2
  rw [handIf_on on]
  exact (if_neg (by decide)).trans ((if_pos rfl).trans (if_pos active))

theorem handIf_inhibit_off {s u w : State} (k : KeyHandled s u w) (off : TurnsOff s u fnInhibit) :
    handIf s u fnInhibit w = evaluateStart w := by
  have inactive : w.functionActive fnInhibit = false := (k.functions fnInhibit).trans off.2
  rw [handIf_off off]
  exact (if_neg (by decide)).trans ((if_pos rfl).trans (if_neg (by simp [inactive])))

/-- GEN_INHIBIT has kept the key's end of a hold from beginning a run. -/
theorem KeyHandled.gen_inhibited {s u w : State} (k : KeyHandled s u w) (active : u.functionActive fnInhibit = true) :
    w.gen = u.gen := by
  have shut : gatesOpen { w with gen := u.gen } = false := by
    have same : ({ w with gen := u.gen } : State).functionActive fnInhibit = true := (k.functions fnInhibit).trans active
    simp [gatesOpen, same]
  exact k.tried.shut (.inl shut)

theorem StartTried.mono {p q : Prop} {x : State} {g : Gen} (h : StartTried p x g) (pq : q ↔ p) : StartTried q x g :=
  ⟨h.shut, fun n => h.untried fun hp => n (pq.2 hp), fun hq => h.begun (pq.1 hq), h.taken, h.fuelLow⟩

/-- The gates have been evaluated once or twice, and the second time nothing begins if the first began a run. -/
theorem handIf_inhibit_tried {s u w : State} (k : KeyHandled s u w) (notOn : ¬ TurnsOn s u fnInhibit) :
    StartTried (KeyEnds s u ∨ TurnsOff s u fnInhibit) { w with gen := u.gen } (handIf s u fnInhibit w).gen ∧
      (handIf s u fnInhibit w).sup = w.sup := by
  rcases turns_cases s u fnInhibit with on | off | same
  · exact absurd on notOn
  · rw [handIf_inhibit_off k off]
    refine ⟨?_, evaluateStart_sup w⟩
    rcases k.tried.taken with stood | running
    · have back : { w with gen := u.gen } = w := by rw [← stood]
      rw [back]
      exact evaluateStart_tried (.inr off) w
    · have shut : gatesOpen w = false := by
        by_contra open_
        exact running (gatesOpen_idle w (by simpa using open_))
      rw [evaluateStart_shut w shut]
      refine ⟨k.tried.shut, fun n => absurd (.inr off) n, fun _ gates b cause ne => ?_, .inr running, k.tried.fuelLow⟩
      by_cases ends : KeyEnds s u
      · exact k.tried.begun ends gates b cause ne
      · have idle : u.gen.machine = .idle := gatesOpen_idle { w with gen := u.gen } gates
        exact absurd (by rw [k.tried.untried ends]; exact idle) running
  · rw [handIf_same same]
    have notOff : ¬ TurnsOff s u fnInhibit := fun h => by simp [h.1, h.2] at same
    exact ⟨k.tried.mono (by simp [notOff]), rfl⟩

theorem handIf_fault {s u w : State} {f : Nat} (hf : f = fnOil ∨ f = fnTemp)
    (functions : w.functionActive f = u.functionActive f) :
    handIf s u f w = if TurnsOn s u f then takeEngineFault w else w := by
  have handed : handFunction f w = if w.functionActive f then takeEngineFault w else w := by
    rcases hf with rfl | rfl <;> rfl
  rcases turns_cases s u f with on | off | same
  · rw [handIf_on on, handed, if_pos (functions.trans on.2), if_pos on]
  · rw [handIf_off off, handed, if_neg (by simp [functions, off.2]), if_neg off.not_on]
  · rw [handIf_same same, if_neg fun h => by simp [h.1, h.2] at same]

theorem takeEngineFault_armed {s : State} (h : faultArmed s = true) :
    (takeEngineFault s).gen.machine = (if s.meas.genPresent = true then .stopping else .failed) ∧
      (takeEngineFault s).gen.failReason = some .engineFault ∧ faultArmed (takeEngineFault s) = false := by
  have failed := engineFails_gen .engineFault s (fail := .engineFault) (.inl rfl)
  have taken : takeEngineFault s = engineFails .engineFault .engineFault s := if_pos h
  rw [taken]
  refine ⟨failed.1, failed.2, ?_⟩
  rw [faultArmed, failed.1]
  cases s.meas.genPresent <;> rfl

theorem takeEngineFault_unarmed {s : State} (h : faultArmed s = false) : takeEngineFault s = s := if_neg (by simp [h])

/-- The engine-fault inputs handed to a machine that has an armed state or none. -/
def faultsHanded (s u w : State) : State := handIf s u fnTemp (handIf s u fnOil w)

theorem faultsHanded_eq {s u w : State} (functions : ∀ f, w.functionActive f = u.functionActive f) :
    faultsHanded s u w = if Faults s u then takeEngineFault w else w := by
  have again : takeEngineFault (takeEngineFault w) = takeEngineFault w := by
    cases armed : faultArmed w with
    | true => exact takeEngineFault_unarmed (takeEngineFault_armed armed).2.2
    | false => rw [takeEngineFault_unarmed armed, takeEngineFault_unarmed armed]
  have oil := handIf_fault (s := s) (.inl rfl) (functions fnOil)
  have temp := handIf_fault (s := s) (u := u) (w := handIf s u fnOil w) (.inr rfl)
    ((functionActive_work (by simp) (by rw [oil]; split <;> simp) fnTemp).trans (functions fnTemp))
  rw [faultsHanded, temp, oil]
  by_cases h₁ : TurnsOn s u fnOil
  · by_cases h₂ : TurnsOn s u fnTemp
    · rw [if_pos h₂, if_pos h₁, if_pos (.inl h₁), again]
    · rw [if_neg h₂, if_pos h₁, if_pos (.inl h₁)]
  · by_cases h₂ : TurnsOn s u fnTemp
    · rw [if_pos h₂, if_neg h₁, if_pos (.inr h₂)]
    · rw [if_neg h₂, if_neg h₁, if_neg (not_or.2 ⟨h₁, h₂⟩)]

theorem handIf_fuel {s u w : State} :
    handIf s u fnFuelFloat w = if u.functionActive fnFuelFloat = s.functionActive fnFuelFloat then w else reportFuel w :=
  rfl

/-! ## What the handing on of the changed function states brings -/

/-- What follows from the function states changed between `s` and `u`, handed on to `t`. -/
structure FunctionsHanded (s u t : State) : Prop where
  hold : t.sup.hold = keyHold s u
  store : t.store = { u.store with unlocked := keyUnlocked s u }
  fuel : TurnsOn s u fnFuelFloat ∨ TurnsOff s u fnFuelFloat → u.alarm.records.length = 40 →
    (t.record alFuelLow).cond = (u.gen.fuelLow || u.functionActive fnFuelFloat)
  inhibited : TurnsOn s u fnInhibit → ¬ Faults s u → ∃ w : State, t.gen = (endRun .inhibit w).gen ∧ w.gen = u.gen ∧
    w.meas = u.meas ∧ (∀ g i, w.inForce g i = u.inForce g i) ∧ ∀ f, w.functionActive f = u.functionActive f
  sup : ¬ TurnsOn s u fnInhibit → ¬ Faults s u → t.sup = { u.sup with hold := keyHold s u }
  tried : ¬ TurnsOn s u fnInhibit → ¬ Faults s u →
    StartTried (KeyEnds s u ∨ TurnsOff s u fnInhibit) { u with sup := t.sup, store := t.store } t.gen
  stood : ¬ TurnsOn s u fnInhibit → ¬ TurnsOff s u fnInhibit → ¬ KeyEnds s u → ¬ (Faults s u ∧ faultArmed u = true) →
    t.gen = u.gen
  faulted : Faults s u → faultArmed u = true → ¬ TurnsOn s u fnInhibit →
    t.gen.machine = (if u.meas.genPresent = true then .stopping else .failed) ∧
      t.gen.failReason = some .engineFault
  alarms : AlarmsWithin handCodes u t

theorem functionsHanded (s u : State) : FunctionsHanded s u (handChanged s u) := by
  have alarms := handChanged_within s u
  have changed : handChanged s u =
      handIf s u fnFuelFloat (faultsHanded s u (handIf s u fnInhibit (handIf s u fnKey u))) := rfl
  have k := keyHandled s u
  revert k changed
  generalize handIf s u fnKey u = w
  intro changed k
  have reached : (handIf s u fnInhibit w).sup.hold = w.sup.hold ∧ (handIf s u fnInhibit w).store = w.store ∧
      (handIf s u fnInhibit w).gen.fuelLow = u.gen.fuelLow := by
    by_cases on : TurnsOn s u fnInhibit
    · rw [handIf_inhibit_on k on]
      exact ⟨(endRun_step .inhibit w).hold, by simp, (endRun_fuelLow _ w).trans k.tried.fuelLow⟩
    · obtain ⟨tried, sup⟩ := handIf_inhibit_tried k on
      refine ⟨by rw [sup], ?_, tried.fuelLow⟩
      unfold handIf
      split
      · rfl
      · have inhibit : handFunction fnInhibit w = inhibitChanged w := rfl
        rw [inhibit]
        simp
  generalize inhibit : handIf s u fnInhibit w = v at *
  obtain ⟨hold, store, fuelLow⟩ := reached
  have meas : v.meas = u.meas := by rw [← inhibit]; simp [k.meas]
  have work : v.store.work = u.store.work := by rw [store, k.store]
  have functions (f : Nat) : v.functionActive f = u.functionActive f := functionActive_work meas work f
  have faults := faultsHanded_eq (s := s) functions
  have faulted : (faultsHanded s u v).sup.hold = v.sup.hold ∧ (faultsHanded s u v).store = v.store ∧
      (faultsHanded s u v).meas = v.meas ∧ (faultsHanded s u v).gen.fuelLow = v.gen.fuelLow := by
    rw [faults]
    split
    · exact ⟨(takeEngineFault_step v).hold, by simp, by simp, takeEngineFault_fuelLow v⟩
    · exact ⟨rfl, rfl, rfl, rfl⟩
  have floated : (handChanged s u).sup = (faultsHanded s u v).sup ∧ (handChanged s u).store = (faultsHanded s u v).store ∧
      (handChanged s u).gen = (faultsHanded s u v).gen := by
    rw [changed, handIf_fuel]
    split <;> simp
  obtain ⟨hold', store', meas', fuelLow'⟩ := faulted
  obtain ⟨sup'', store'', gen''⟩ := floated
  have unfaulted (h : ¬ Faults s u) : faultsHanded s u v = v := by rw [faults, if_neg h]
  have offInhibit (h : ¬ TurnsOn s u fnInhibit) := inhibit ▸ handIf_inhibit_tried k h
  refine { hold := ?_, store := ?_, fuel := fun moved complete => ?_, inhibited := fun on no => ?_,
           sup := fun no noFault => ?_, tried := fun no noFault => ?_, stood := fun no notOff notEnds spared => ?_,
           faulted := fun fault armed no => ?_, alarms := alarms }
  · rw [sup'', hold', hold, k.sup]
  · rw [store'', store', store, k.store]
  · have moves : u.functionActive fnFuelFloat ≠ s.functionActive fnFuelFloat := by
      rcases moved with h | h <;> simp [h.1, h.2]
    rw [handIf_fuel, if_neg moves] at changed
    have length : (faultsHanded s u v).alarm.records.length = 40 := by
      rw [← (reportFuel_step _).length, ← changed, alarms.length, complete]
    have float : (faultsHanded s u v).functionActive fnFuelFloat = u.functionActive fnFuelFloat :=
      functionActive_work (meas'.trans meas) (by rw [store', work]) _
    rw [changed, reportFuel, report_record_ne _ _ _ _ (by decide), report_cond _ _ _ (by rw [length]; decide), float,
      fuelLow', fuelLow]
  · refine ⟨w, ?_, k.gen_inhibited on.2, k.meas, k.inForce, k.functions⟩
    rw [gen'', unfaulted no, ← inhibit, handIf_inhibit_on k on]
  · rw [sup'', unfaulted noFault, (offInhibit no).2, k.sup]
  · have same : (handChanged s u).sup = w.sup := by rw [sup'', unfaulted noFault, (offInhibit no).2]
    have stored : (handChanged s u).store = w.store := by rw [store'', store', store]
    rw [gen'', unfaulted noFault, same, stored]
    exact (offInhibit no).1.congr rfl (gates_congr rfl rfl k.acct.symm k.meas.symm rfl rfl)
  · have still : v.gen = u.gen := (offInhibit no).1.untried fun h => h.elim notEnds notOff
    rw [gen'', faults]
    split
    · next fault =>
      have unarmed : faultArmed v = false := by
        by_contra armed
        exact spared ⟨fault, by simpa [faultArmed, still] using armed⟩
      rw [takeEngineFault_unarmed unarmed, still]
    · exact still
  · have notIdle : u.gen.machine ≠ .idle := by
      intro idle
      simp [faultArmed, idle] at armed
    have shut : gatesOpen { w with gen := u.gen } = false := by
      by_contra open_
      exact notIdle (gatesOpen_idle { w with gen := u.gen } (by simpa using open_))
    have still : v.gen = u.gen := (offInhibit no).1.shut (.inl shut)
    have taken := takeEngineFault_armed (s := v) (by simpa [faultArmed, still] using armed)
    rw [gen'', faults, if_pos fault, ← meas]
    exact ⟨taken.1, taken.2.1⟩

end Sys2Proof.Machine
end

section
/-! SUPPORT. A site input takes a new qualified state (R11 to R13). -/

namespace Sys2Proof.Machine

/-! ## An input's qualified state -/

/-- What an input holds once its qualified state has taken the sense. -/
def SiteInput.qualify (active : Bool) (x : SiteInput) : SiteInput := { x with active := active, timer := none }

theorem onInput_input {n : Nat} {f : SiteInput → SiteInput} {s : State} (h : n < s.meas.inputs.length) :
    (onInput n f s).input n = f (s.input n) := by
  simp [onInput, State.input, State.onMeas, List.getD_eq_getElem?_getD, h]

theorem onInput_input_ne {n m : Nat} (f : SiteInput → SiteInput) (s : State) (h : m ≠ n) :
    (onInput n f s).input m = s.input m := by
  simp [onInput, State.input, State.onMeas, List.getD_eq_getElem?_getD, Ne.symm h]

/-- A timer runs in an input that is there. -/
theorem input_there {n : Nat} {s : State} (h : (s.input n).timer.isSome = true) : n < s.meas.inputs.length := by
  by_contra beyond
  simp [State.input, List.getD_eq_getElem?_getD, List.getElem?_eq_none (Nat.le_of_not_lt beyond)] at h

/-- R11 to R13: the input has its new state, its notice and its report, and the function's owner is yet to be told. -/
def inputQualified (n : Nat) (s : State) : State :=
  reportInput n (postEdge n (s.sense n) (onInput n (SiteInput.qualify (s.sense n)) s))

theorem inputQualifies_eq (n : Nat) (s : State) :
    inputQualifies n s = handIfChanged (s.inputFunction n) (s.functionActive (s.inputFunction n)) (inputQualified n s) :=
  rfl

theorem inputQualified_meas (n : Nat) (s : State) : (inputQualified n s).meas =
    { s.meas with inputs := s.meas.inputs.modify n (SiteInput.qualify (s.sense n)) } := by
  simp [inputQualified, onInput, State.onMeas]

@[simp] theorem inputQualified_frame (n : Nat) (s : State) :
    (inputQualified n s).pending = s.pending ∧ (inputQualified n s).powered = s.powered ∧
    (inputQualified n s).markerGood = s.markerGood ∧ (inputQualified n s).sup = s.sup ∧
    (inputQualified n s).acct = s.acct ∧ (inputQualified n s).charge = s.charge ∧
    (inputQualified n s).prot = s.prot ∧ (inputQualified n s).rect = s.rect ∧ (inputQualified n s).bus = s.bus ∧
    (inputQualified n s).gen = s.gen ∧ (inputQualified n s).cal = s.cal ∧ (inputQualified n s).store = s.store ∧
    (inputQualified n s).link = s.link := by
  simp [inputQualified]

theorem inputQualified_input {n : Nat} {s : State} (h : n < s.meas.inputs.length) :
    (inputQualified n s).input n = (s.input n).qualify (s.sense n) := by
  have same : (inputQualified n s).input n = (onInput n (SiteInput.qualify (s.sense n)) s).input n := by
    simp [State.input, inputQualified_meas, onInput, State.onMeas]
  rw [same, onInput_input h]

theorem inputQualified_input_ne {n m : Nat} (s : State) (h : m ≠ n) : (inputQualified n s).input m = s.input m := by
  have same : (inputQualified n s).input m = (onInput n (SiteInput.qualify (s.sense n)) s).input m := by
    simp [State.input, inputQualified_meas, onInput, State.onMeas]
  rw [same, onInput_input_ne _ _ h]

/-- R13: a change of an input changes no other function than its own. -/
theorem inputQualified_function {n g : Nat} (s : State) (h : g ≠ s.inputFunction n) :
    (inputQualified n s).functionActive g = s.functionActive g := by
  have functions (m : Nat) : (inputQualified n s).inputFunction m = s.inputFunction m := by
    simp [State.inputFunction, State.now]
  unfold State.functionActive
  congr 1
  funext m
  by_cases same : m = n
  · subst same
    have other : (s.inputFunction m == g) = false := by simpa using h.symm
    rw [functions, other]
    simp
  · rw [functions, inputQualified_input_ne s same]

theorem reportInput_record {n : Nat} {s : State} (h : alSiteInput + n < s.alarm.records.length) :
    ((reportInput n s).record (alSiteInput + n)).cond = (s.now 7 n == 1 && (s.input n).active) :=
  report_cond _ _ _ h

theorem postEdge_within (codes : List Nat) (n : Nat) (active : Bool) (s : State) :
    AlarmsWithin codes s (postEdge n active s) := by
  unfold postEdge
  split
  · exact post_within codes _ _ _ s
  · exact .of_eq rfl

theorem inputQualified_within {codes : List Nat} {n : Nat} (s : State) (h : alSiteInput + n ∈ codes) :
    AlarmsWithin codes s (inputQualified n s) :=
  AlarmsWithin.trans (t := onInput n (SiteInput.qualify (s.sense n)) s) (.of_eq rfl)
    ((postEdge_within codes n _ _).trans (report_within _ _ _ h))

theorem inputQualified_record {n : Nat} {s : State} (there : n < s.meas.inputs.length)
    (h : alSiteInput + n < s.alarm.records.length) :
    ((inputQualified n s).record (alSiteInput + n)).cond = (s.now 7 n == 1 && s.sense n) := by
  have length : (postEdge n (s.sense n) (onInput n (SiteInput.qualify (s.sense n)) s)).alarm.records.length =
      s.alarm.records.length := (postEdge_within [] n _ _).length
  rw [inputQualified, reportInput_record (length ▸ h)]
  have input : (postEdge n (s.sense n) (onInput n (SiteInput.qualify (s.sense n)) s)).input n =
      (s.input n).qualify (s.sense n) := by
    rw [← onInput_input (f := SiteInput.qualify (s.sense n)) there]
    simp [State.input]
  have function : (postEdge n (s.sense n) (onInput n (SiteInput.qualify (s.sense n)) s)).now 7 n = s.now 7 n := by
    simp [State.now]
  rw [input, function]
  rfl

/-- R12: the notice of an enabled edge. -/
theorem inputQualified_notice {n : Nat} {s : State} (edge : edgeEnabled s n (s.sense n) = true)
    (room : s.alarm.notices.length < 32) :
    ({ kind := .inputEdge, subject := n + 1, value := if s.sense n then 1 else 0, time := s.stamp } : Notice) ∈
      (inputQualified n s).alarm.notices := by
  have enabled : edgeEnabled (onInput n (SiteInput.qualify (s.sense n)) s) n (s.sense n) = true := edge
  refine (report_prefix _ _ _).subset ?_
  rw [postEdge, if_pos enabled, post_room _ _ _ _ (by simpa using room)]
  exact List.mem_append_right _ (List.mem_singleton_self _)

/-! ## One changed function -/

/-- A function without an owner is handed to nobody. -/
theorem handFunction_other {f : Nat} (h : f ≠ fnKey ∧ f ≠ fnInhibit ∧ f ≠ fnOil ∧ f ≠ fnTemp ∧ f ≠ fnFuelFloat)
    (s : State) : handFunction f s = s := by
  obtain ⟨key, inhibit, oil, temp, float⟩ := h
  unfold handFunction
  rw [if_neg key, if_neg inhibit, if_neg (not_or.2 ⟨oil, temp⟩), if_neg float]

/-- Handing on the one function that can have changed is handing on all that have. -/
theorem handIfChanged_eq {s u : State} {f : Nat} (h : ∀ g, g ≠ f → u.functionActive g = s.functionActive g) :
    handIfChanged f (s.functionActive f) u = handChanged s u := by
  have one : handIfChanged f (s.functionActive f) u = handIf s u f u := rfl
  have others {g : Nat} (hg : g ≠ f) (w : State) : handIf s u g w = w := handIf_same (h g hg) w
  rw [one, handChanged]
  by_cases key : f = fnKey
  · subst key
    rw [others (g := fnFuelFloat) (by decide), others (g := fnTemp) (by decide), others (g := fnOil) (by decide),
      others (g := fnInhibit) (by decide)]
  · by_cases inhibit : f = fnInhibit
    · subst inhibit
      rw [others (g := fnFuelFloat) (by decide), others (g := fnTemp) (by decide), others (g := fnOil) (by decide),
        others (g := fnKey) (by decide)]
    · by_cases oil : f = fnOil
      · subst oil
        rw [others (g := fnFuelFloat) (by decide), others (g := fnTemp) (by decide), others (g := fnInhibit) (by decide),
          others (g := fnKey) (by decide)]
      · by_cases temp : f = fnTemp
        · subst temp
          rw [others (g := fnFuelFloat) (by decide), others (g := fnOil) (by decide), others (g := fnInhibit) (by decide),
            others (g := fnKey) (by decide)]
        · rw [others (g := fnTemp) (Ne.symm temp), others (g := fnOil) (Ne.symm oil),
            others (g := fnInhibit) (Ne.symm inhibit), others (g := fnKey) (Ne.symm key)]
          by_cases float : f = fnFuelFloat
          · rw [float]
          · rw [others (Ne.symm float)]
            unfold handIf
            rw [handFunction_other ⟨key, inhibit, oil, temp, float⟩, ite_self]

theorem inputQualifies_handed (n : Nat) (s : State) :
    inputQualifies n s = handChanged s (inputQualified n s) := by
  rw [inputQualifies_eq, handIfChanged_eq fun g hg => inputQualified_function s hg]

theorem siteInput_not_handed (n : Nat) : alSiteInput + n ∉ handCodes := by
  have low : ∀ c ∈ handCodes, c < alSiteInput := by decide
  intro within
  have := low _ within
  omega

end Sys2Proof.Machine
end

section
/-! SUPPORT and the statement about the site inputs (R11 to R13). -/

namespace Sys2Proof.Machine

/-! ## What the changed function states bring to a run -/

/-- R143: GEN_INHIBIT ends a run that does not yet carry the plant through STOPPING. -/
theorem FunctionsHanded.stopping {s u t : State} (h : FunctionsHanded s u t) (on : TurnsOn s u fnInhibit)
    (no : ¬ Faults s u) (early : u.gen.machine.Early) (present : u.meas.genPresent = true) :
    t.gen.machine = .stopping ∧ t.gen.run = u.gen.run.map fun r => { r with stopReason := some .inhibit } := by
  obtain ⟨w, led, gen, meas, -, -⟩ := h.inhibited on no
  rw [led, ← gen]
  exact endRun_early_present (gen ▸ early) (meas ▸ present)

theorem FunctionsHanded.stopped {s u t : State} (h : FunctionsHanded s u t) (on : TurnsOn s u fnInhibit)
    (no : ¬ Faults s u) (early : u.gen.machine.Early) (absent : u.meas.genPresent = false) :
    t.gen.machine = .failed ∨ t.gen.machine = .idle := by
  obtain ⟨w, led, gen, meas, -, functions⟩ := h.inhibited on no
  rw [led]
  exact endRun_early_absent (gen ▸ early) (meas ▸ absent) ((functions _).trans on.2)

/-- R143: GEN_INHIBIT ends a run that carries the plant through COOLDOWN. -/
theorem FunctionsHanded.cooling {s u t : State} (h : FunctionsHanded s u t) (on : TurnsOn s u fnInhibit)
    (no : ¬ Faults s u) (carries : u.gen.machine.Carries) (cools : 0 < u.inForce 3 18) :
    t.gen.machine = .cooldown ∧ t.gen.run = u.gen.run.map fun r => { r with stopReason := some .inhibit } := by
  obtain ⟨w, led, gen, -, inForce, -⟩ := h.inhibited on no
  rw [led, ← gen]
  exact endRun_cooldown (gen ▸ carries) (by rw [inForce]; exact cools)

theorem FunctionsHanded.unended {s u t : State} (h : FunctionsHanded s u t) (on : TurnsOn s u fnInhibit)
    (no : ¬ Faults s u) (early : ¬ u.gen.machine.Early) (carries : ¬ u.gen.machine.Carries) : t.gen = u.gen := by
  obtain ⟨w, led, gen, -, -, -⟩ := h.inhibited on no
  rw [led, endRun_other (by rwa [gen]) (by rwa [gen]), gen]

/-! ## The one function of an input -/

theorem inputQualified_turns {n g : Nat} {s : State}
    (h : TurnsOn s (inputQualified n s) g ∨ TurnsOff s (inputQualified n s) g) : g = s.inputFunction n := by
  by_contra other
  have same := inputQualified_function s other
  rcases h with ⟨was, is_⟩ | ⟨was, is_⟩
  · exact absurd (same.symm.trans is_) (by simp [was])
  · exact absurd (same.symm.trans is_) (by simp [was])

/-- Two functions do not change at one input. -/
theorem inputQualified_turns_one {n f g : Nat} {s : State}
    (h : TurnsOn s (inputQualified n s) f ∨ TurnsOff s (inputQualified n s) f) (ne : g ≠ f) :
    ¬ TurnsOn s (inputQualified n s) g ∧ ¬ TurnsOff s (inputQualified n s) g := by
  rw [inputQualified_turns h] at ne
  exact ⟨fun k => ne (inputQualified_turns (.inl k)), fun k => ne (inputQualified_turns (.inr k))⟩

theorem inputQualified_active {n : Nat} {s : State} (hn : n < 8) (there : n < s.meas.inputs.length)
    (sense : s.sense n = true) : (inputQualified n s).functionActive (s.inputFunction n) = true := by
  refine List.any_eq_true.2 ⟨n, List.mem_range.2 hn, ?_⟩
  have function : (inputQualified n s).inputFunction n = s.inputFunction n := by simp [State.inputFunction, State.now]
  simp [function, inputQualified_input there, SiteInput.qualify, sense]

/-- R13: PERSISTENCE_EXPIRY and the handing on it ends with. -/
theorem inputHanded (n : Nat) (s : State) : FunctionsHanded s (inputQualified n s) (inputQualifies n s) :=
  inputQualifies_handed n s ▸ functionsHanded s (inputQualified n s)

theorem inputQualifies_meas (n : Nat) (s : State) : (inputQualifies n s).meas =
    { s.meas with inputs := s.meas.inputs.modify n (SiteInput.qualify (s.sense n)) } := by
  rw [inputQualifies_handed, ← inputQualified_meas]
  simp

/-- The functions a completed persistence leaves are those of the state before with its measurements alone. -/
theorem inputQualified_functionActive (n f : Nat) (s : State) :
    (inputQualified n s).functionActive f = State.functionActive { s with meas := (inputQualifies n s).meas } f :=
  functionActive_work (by rw [inputQualifies_meas, inputQualified_meas]) (by simp) f

theorem inputQualifies_kept (n : Nat) (s : State) : inputQualifies n s =
    { s with
      meas := (inputQualifies n s).meas, sup := (inputQualifies n s).sup, acct := (inputQualifies n s).acct
      charge := (inputQualifies n s).charge, rect := (inputQualifies n s).rect, prot := (inputQualifies n s).prot
      gen := (inputQualifies n s).gen, cal := (inputQualifies n s).cal, alarm := (inputQualifies n s).alarm
      store := { s.store with unlocked := (inputQualifies n s).store.unlocked } } := by
  have store := (inputHanded n s).store
  rw [inputQualifies_handed] at store ⊢
  apply State.ext_parts <;> simp [store]

/-- The gates after one function has changed are those with the new measurements, unless the key ended its hold. -/
theorem inputHanded_tried {n : Nat} {s : State} (off : TurnsOff s (inputQualified n s) fnInhibit) :
    StartTried True { s with meas := (inputQualifies n s).meas } (inputQualifies n s).gen := by
  have handed := inputHanded n s
  have other {g : Nat} (ne : g ≠ fnInhibit) := inputQualified_turns_one (.inr off) ne
  have noFault : ¬ Faults s (inputQualified n s) := not_or.2 ⟨(other (by decide)).1, (other (by decide)).1⟩
  have sup : (inputQualifies n s).sup = s.sup := by
    rw [handed.sup off.not_on noFault, keyHold, if_neg (other (by decide)).1, if_neg (other (by decide)).2]
    simp
  have store := handed.store
  refine ((handed.tried off.not_on noFault).mono ⟨fun _ => .inr off, fun _ => trivial⟩).congr (by simp) ?_
  exact gates_congr (by simp) sup.symm (by simp) (by rw [inputQualifies_meas, inputQualified_meas])
    (by simp [store]) (by simp [store])

end Sys2Proof.Machine

open Sys2Proof Sys2Proof.Machine

/-- Settles O23: the one function that can have changed is handed to its owner. -/
theorem siteInputEdges : Obligations.SiteInputEdges := by
  intro n s on complete
  refine ⟨fun idle => ?_, fun timed => ?_⟩
  · exact (whenPowered_on s _ on).trans (congrArg _ (if_neg (by simp [idle])))
  · have led : exec (.persistenceExpiry n) s = .next (inputQualifies n s) :=
      (whenPowered_on s _ on).trans (congrArg _ (if_pos timed))
    refine ⟨_, led, ?_⟩
    have there := input_there timed
    have handed := inputHanded n s
    have gen : (inputQualified n s).gen = s.gen := by simp
    have genPresent : (inputQualified n s).meas.genPresent = s.meas.genPresent := by rw [inputQualified_meas]
    have one {f g : Nat} (h : TurnsOn s (inputQualified n s) f) (ne : g ≠ f) := inputQualified_turns_one (.inl h) ne
    have noFault (on : TurnsOn s (inputQualified n s) fnInhibit) : ¬ Faults s (inputQualified n s) :=
      not_or.2 ⟨(one on (by decide)).1, (one on (by decide)).1⟩
    have faulty {g : Nat} (h : Faults s (inputQualified n s)) (oil : g ≠ fnOil) (temp : g ≠ fnTemp) :=
      h.elim (fun on => one on oil) fun on => one on temp
    dsimp only
    simp only [← inputQualified_functionActive]
    refine ⟨inputQualifies_meas n s, ?_, fun edge room => ?_, fun key inactive sense free => ?_, fun off => ?_, ?_,
      fun on early present => ?_, fun on early absent => ?_, fun on carries cools => ?_, fun on early carries => ?_,
      fun off shut => ?_, fun off open_ b cause other => ?_, fun fault armed => ?_, fun fault unarmed => ?_,
      fun moved => ?_, inputQualifies_kept n s⟩
    · rw [handed.alarms.record _ (siteInput_not_handed n)]
      exact inputQualified_record there (by rw [complete]; exact Nat.add_lt_add_left n.isLt 32)
    · exact handed.alarms.notices.subset (inputQualified_notice edge room)
    · have on : TurnsOn s (inputQualified n s) fnKey :=
        ⟨inactive, by rw [← (show s.inputFunction n = fnKey from key)]; exact inputQualified_active n.isLt there sense⟩
      rw [handed.hold, keyHold, if_pos on]
      simp [free, State.now]
    · rw [handed.hold, keyHold, if_neg (TurnsOff.not_on off), if_pos off]
      simp
    · rw [handed.store, keyUnlocked]
      simp
    · exact gen ▸ handed.stopping on (noFault on) (gen.symm ▸ early) (genPresent.trans present)
    · exact handed.stopped on (noFault on) (gen.symm ▸ early) (genPresent.trans absent)
    · exact gen ▸ handed.cooling on (noFault on) (gen.symm ▸ carries) (by simpa [State.inForce] using cools)
    · exact gen ▸ handed.unended on (noFault on) (gen.symm ▸ early) (gen.symm ▸ carries)
    · exact (inputHanded_tried off).shut shut
    · exact (inputHanded_tried off).begun trivial open_ b cause other
    · rw [← genPresent]
      exact handed.faulted fault ((faultArmed_iff _).2 (gen.symm ▸ armed)) (faulty fault (by decide) (by decide)).1
    · have still := handed.stood (faulty fault (by decide) (by decide)).1 (faulty fault (by decide) (by decide)).2
        (fun ends => (faulty fault (by decide) (by decide)).2 ends.1)
        (fun both => unarmed (gen ▸ (faultArmed_iff _).1 both.2))
      exact still.trans gen
    · rw [← gen]
      exact handed.fuel moved (by rw [(inputQualified_within (codes := [alSiteInput + n]) s (by simp)).length, complete])
end

section
/-! SUPPORT. What the completed write of a group brings (R9, R94, R162, R171, R190, R194). -/

namespace Sys2Proof.Machine

/-! ## Installing the values -/

/-- R194 steps 1 and 2: the group's values stand in the working copy and SETTINGS_LOST is told. -/
def groupInstalled (g : Nat) (values : List Nat) (s : State) : State := reportSettings (installGroup g values s)

theorem groupWriteCompletes_group {s : State} {g : Nat} {values : List Nat}
    (h : s.store.write = some (.group g values)) :
    groupWriteCompletes s = postWritten g (handGroup g s (groupInstalled g values s)) := by
  rw [groupWriteCompletes, h]
  rfl

@[simp] theorem groupInstalled_frame (g : Nat) (values : List Nat) (s : State) :
    (groupInstalled g values s).pending = s.pending ∧ (groupInstalled g values s).powered = s.powered ∧
    (groupInstalled g values s).markerGood = s.markerGood ∧ (groupInstalled g values s).meas = s.meas ∧
    (groupInstalled g values s).sup = s.sup ∧ (groupInstalled g values s).acct = s.acct ∧
    (groupInstalled g values s).charge = s.charge ∧ (groupInstalled g values s).prot = s.prot ∧
    (groupInstalled g values s).rect = s.rect ∧ (groupInstalled g values s).bus = s.bus ∧
    (groupInstalled g values s).gen = s.gen ∧ (groupInstalled g values s).cal = s.cal ∧
    (groupInstalled g values s).link = s.link := by
  simp [groupInstalled]

theorem groupInstalled_store (g : Nat) (values : List Nat) (s : State) : (groupInstalled g values s).store =
    { s.store with
      work := s.store.work.set g values, images := s.store.images.set g { values := values, good := true }
      damaged := s.store.damaged.set g false, write := none
      fresh := if s.store.fresh.contains g then s.store.fresh else s.store.fresh ++ [g] } := by
  simp [groupInstalled, installGroup, State.onStore]

theorem groupInstalled_fresh (g : Nat) (values : List Nat) (s : State) : g ∈ (groupInstalled g values s).store.fresh := by
  rw [groupInstalled_store]
  dsimp only
  split
  · next there => simpa using there
  · simp

theorem groupInstalled_group {g : Nat} (values : List Nat) {s : State} (h : g < s.store.work.length) :
    (groupInstalled g values s).group g = values := by
  simp [State.group, groupInstalled_store, List.getD_eq_getElem?_getD, h]

theorem groupInstalled_now {g : Nat} (values : List Nat) {s : State} (h : g < s.store.work.length) (i : Nat) :
    (groupInstalled g values s).now g i = values.getD i 0 := congrArg (List.getD · i 0) (groupInstalled_group values h)

theorem groupInstalled_now_ne {g k : Nat} (values : List Nat) (s : State) (h : k ≠ g) (i : Nat) :
    (groupInstalled g values s).now k i = s.now k i := by
  simp [State.now, groupInstalled_store, List.getD_eq_getElem?_getD, Ne.symm h]

theorem groupInstalled_inForce (g : Nat) (values : List Nat) (s : State) (k i : Nat) :
    (groupInstalled g values s).inForce k i = s.inForce k i := by
  simp [State.inForce, groupInstalled_store]

theorem groupInstalled_within (g : Nat) (values : List Nat) (s : State) :
    AlarmsWithin [alSettingsLost] s (groupInstalled g values s) :=
  AlarmsWithin.trans (t := installGroup g values s) (.of_eq (by simp [installGroup]))
    (report_within alSettingsLost _ _ (by simp))

theorem groupInstalled_lost {g : Nat} (values : List Nat) {s : State} (complete : s.alarm.records.length = 40) :
    ((groupInstalled g values s).record alSettingsLost).cond =
      ((s.store.damaged.set g false).any id || s.store.tableDamaged) := by
  rw [groupInstalled, reportSettings, report_cond _ _ _ (by simp only [installGroup, State.onStore, complete]; decide)]
  rfl

/-! ## SETTING_WRITTEN (R190) -/

/-- A notice that is not discarded is the last in the queue (R173). -/
theorem post_last {kind : NoticeKind} {subject value : Nat} {s : State}
    (kept : (post kind subject value s).alarm.resync = false) :
    (post kind subject value s).alarm.notices.getLast? =
      some { kind := kind, subject := subject, value := value, time := s.stamp } := by
  by_cases room : s.alarm.notices.length < 32
  · rw [post_room _ _ _ _ room]
    simp [State.onAlarm]
  · rw [post_full _ _ _ _ room] at kept
    exact absurd kept (by simp [State.onAlarm])

theorem postWritten_last {g : Nat} {values : List Nat} {s w : State} (group : w.group g = values)
    (stamp : w.stamp = s.stamp) (kept : (postWritten g w).alarm.resync = false) :
    (postWritten g w).alarm.notices.getLast? = some
      { kind := .settingWritten, subject := g, value := (check (values.flatMap (bytesBE 2))).toNat, time := s.stamp } := by
  rw [postWritten, post_last kept, State.signature, group, stamp]
  rfl

@[simp] theorem postWritten_record (g c : Nat) (s : State) : (postWritten g s).record c = s.record c :=
  post_record _ _ _ c s

/-! ## The generator cap (R94) -/

/-- R93: between the slot found so far and the next one, the next one unless the other has more hours. -/
def moreHours (s : State) (best : Option Nat) (i : Nat) : Option Nat :=
  match best with
  | none => some i
  | some b => if s.hours b ≤ s.hours i then some i else some b

theorem mostHours_eq (s : State) (l : List Nat) : mostHours s l = l.foldl (moreHours s) none := rfl

theorem moreHours_cases (s : State) (best : Option Nat) (i : Nat) :
    moreHours s best i = some i ∨ best.isSome = true ∧ moreHours s best i = best := by
  cases best with
  | none => exact .inl rfl
  | some b =>
    by_cases more : s.hours b ≤ s.hours i
    · exact .inl (if_pos more)
    · exact .inr ⟨rfl, if_neg more⟩

theorem foldl_moreHours (s : State) {l : List Nat} {best : Option Nat} (h : best.isSome = true ∨ l ≠ []) :
    ∃ i, l.foldl (moreHours s) best = some i ∧ (i ∈ l ∨ best = some i) := by
  induction l generalizing best with
  | nil =>
    obtain ⟨i, found⟩ := Option.isSome_iff_exists.1 (h.resolve_right fun n => n rfl)
    exact ⟨i, found, .inr found⟩
  | cons j l ih =>
    rw [List.foldl_cons]
    rcases moreHours_cases s best j with next | ⟨held, stays⟩
    · rw [next]
      obtain ⟨i, found, tail | head⟩ := ih (best := some j) (.inl rfl)
      · exact ⟨i, found, .inl (List.mem_cons_of_mem j tail)⟩
      · exact ⟨i, found, .inl (Option.some.inj head ▸ List.mem_cons_self)⟩
    · rw [stays]
      obtain ⟨i, found, from_⟩ := ih (.inl held)
      exact ⟨i, found, from_.imp_left (List.mem_cons_of_mem j)⟩

/-- R93: the slot to stop of a list is one of it. -/
theorem mostHours_mem {s : State} {l : List Nat} (h : l ≠ []) : ∃ i, mostHours s l = some i ∧ i ∈ l := by
  obtain ⟨i, found, from_⟩ := foldl_moreHours s (best := none) (.inr h)
  exact ⟨i, found, from_.resolve_right (by simp)⟩

theorem changeSlot_swap (i : Nat) (new : SlotState) (s : State) : (changeSlot i new s).rect.swap = s.rect.swap := by
  by_cases same : (s.slot i).state = new
  · rw [changeSlot_same i new s same]
  · rw [changeSlot_rect i new s same]

/-- One slot fewer runs. -/
theorem RunningLive.stopOne {s : State} (h : RunningLive s) (some_ : 0 < s.nRun) :
    RunningLive (stopOne s) ∧ (stopOne s).nRun = s.nRun - 1 ∧ (Machine.stopOne s).rect.swap = s.rect.swap := by
  obtain ⟨i, most, mem⟩ := mostHours_mem (s := s) (l := s.rect.running) (List.ne_nil_of_length_pos some_)
  have stops : Machine.stopOne s = changeSlot i .standby s := by rw [Machine.stopOne, most]
  rw [stops]
  refine ⟨h.stopped mem, ?_, changeSlot_swap i _ s⟩
  rw [State.nRun, changeSlot_standby_running (h.live i mem), List.length_erase_of_mem mem]
  rfl

theorem RunningLive.stopMany {s : State} (h : RunningLive s) (n : Nat) (enough : n ≤ s.nRun) :
    RunningLive ((List.range n).foldl (fun s _ => Machine.stopOne s) s) ∧
      ((List.range n).foldl (fun s _ => Machine.stopOne s) s).nRun = s.nRun - n ∧
      ((List.range n).foldl (fun s _ => Machine.stopOne s) s).rect.swap = s.rect.swap := by
  induction n with
  | zero => exact ⟨h, rfl, rfl⟩
  | succ n ih =>
    obtain ⟨live, count, swap⟩ := ih (by omega)
    rw [List.range_succ, List.foldl_concat]
    obtain ⟨live', count', swap'⟩ := live.stopOne (by omega)
    exact ⟨live', by omega, swap'.trans swap⟩

theorem endSwap_gone (outcome : SwapOutcome) (s : State) : (endSwap outcome s).rect.swap = none := by
  unfold endSwap
  split
  · next none_ => exact none_
  · simp

theorem trimToGen_within {s : State} (h : s.nRun ≤ s.nGen) : trimToGen s = s :=
  if_neg fun trims => Nat.not_lt.2 h trims.2

theorem trimToGen_offline {s : State} (h : s.gen.machine ≠ .online) : trimToGen s = s :=
  if_neg fun trims => h (by simpa [State.online] using trims.1)

/-- R94: in ONLINE n_run is brought down to n_gen, and a swap ends where it must fall (log 60). -/
theorem trimToGen_trims {s : State} (online : s.gen.machine = .online) (live : RunningLive s) :
    (trimToGen s).nRun = min s.nRun s.nGen ∧
      (trimToGen s).rect.swap = (if s.nGen < s.nRun then none else s.rect.swap) := by
  by_cases exceeds : s.nGen < s.nRun
  · have trims : trimToGen s =
        (List.range (s.nRun - s.nGen)).foldl (fun s _ => stopOne s) (endSwap .abandoned s) := by
      obtain ⟨running, -⟩ := endSwap_lists .abandoned s
      have generator : (endSwap .abandoned s).nGen = s.nGen := by simp [State.nGen, State.now]
      have count : (endSwap .abandoned s).nRun = s.nRun := congrArg List.length running
      have held : s.online = true ∧ s.nGen < s.nRun := ⟨by simp [State.online, online], exceeds⟩
      rw [trimToGen, if_pos held]
      dsimp only
      rw [generator, count]
    obtain ⟨running, slots⟩ := endSwap_lists .abandoned s
    have count : (endSwap .abandoned s).nRun = s.nRun := congrArg List.length running
    obtain ⟨-, left, swap⟩ := (live.congr running slots).stopMany (s.nRun - s.nGen) (by omega)
    rw [trims, if_pos exceeds]
    exact ⟨by omega, swap.trans (endSwap_gone _ s)⟩
  · rw [trimToGen_within (by omega), if_neg exceeds]
    exact ⟨by omega, rfl⟩

/-! ## Exercises owed (R162), the mains delays (R9) -/

theorem exerciseSettings_withdrawn (s : State) :
    (exerciseSettings s).cal = (if s.now 3 27 = 1 ∧ s.now 3 0 = 1 ∨ s.cal.exState = .none then s.cal
      else { s.cal with exState := .none, exDuration := 0, exWindow := 0 }) ∧
    (exerciseSettings s).gen.exercise =
      (if s.now 3 27 = 1 ∧ s.now 3 0 = 1 ∨ s.cal.exState = .none then s.gen.exercise else none) := by
  by_cases fitted : s.now 3 27 = 1 ∧ s.now 3 0 = 1
  · simp [exerciseSettings, fitted]
  · by_cases owed : s.cal.exState = .none
    · simp [exerciseSettings, exerciseWithdrawn, fitted, owed]
    · have withdrawn : exerciseSettings s = dropCause (s.onCal Cal.noExercise) := by
        rw [exerciseSettings, if_neg fitted, exerciseWithdrawn, if_neg owed]
      rw [withdrawn, if_neg (not_or.2 ⟨fitted, owed⟩), if_neg (not_or.2 ⟨fitted, owed⟩)]
      exact ⟨rfl, rfl⟩

/-- R9: delay `i` of group 2 has changed to one that the mains timer, where it runs, has reached. -/
abbrev mainsReached (old s : State) (i : Nat) : Prop :=
  s.now 2 i ≠ old.now 2 i ∧ (s.meas.mainsTimer.any fun n => decide (s.now 2 i ≤ n)) = true

theorem mainsReached_timed {old s : State} {i : Nat} (h : mainsReached old s i) : s.meas.mainsTimer.isSome = true := by
  obtain ⟨-, timer⟩ := h
  cases running : s.meas.mainsTimer <;> simp_all

theorem mainsDelaysChanged_eq (old s : State) : mainsDelaysChanged old s =
    if s.meas.mainsQualified = false ∧ mainsReached old s 12 then mainsReturns s
    else if s.meas.mainsQualified = true ∧ mainsReached old s 13 then mainsFails s
    else s := by
  simp [mainsDelaysChanged, mainsReached]

theorem mainsDelaysChanged_meas (old s : State) (complete : s.alarm.records.length = 40) :
    (mainsDelaysChanged old s).meas =
      if s.meas.mainsQualified = false ∧ mainsReached old s 12 then
        { s.meas with mainsQualified := true, mainsTimer := none }
      else if s.meas.mainsQualified = true ∧ mainsReached old s 13 then
        { s.meas with mainsQualified := false, mainsTimer := none }
      else s.meas := by
  have plant (qualified : Bool) := (setMains_plant qualified s complete).1
  rw [mainsDelaysChanged_eq]
  split
  · next returns => rw [mainsReturns, if_pos ⟨returns.1, mainsReached_timed returns.2⟩, plant]
  · split
    · next fails => rw [mainsFails, if_pos ⟨fails.1, mainsReached_timed fails.2⟩, plant]
    · rfl

/-! ## Latching withdrawn (R171) -/

theorem unlatchRecord_ne {c d : Nat} (s : State) (h : d ≠ c) : (unlatchRecord c s).record d = s.record d := by
  unfold unlatchRecord
  dsimp only
  split
  · rw [settle_record_ne _ _ _ h, changeRecord_record_ne _ _ _ _ h]
  · rfl

@[simp] theorem unlatchRecord_length (c : Nat) (s : State) :
    (unlatchRecord c s).alarm.records.length = s.alarm.records.length := by
  unfold unlatchRecord
  dsimp only
  split
  · simp
  · rfl

theorem settle_still {c : Nat} {s : State} (raises : (s.record c).raising = true → 0 < s.raiseDelay c)
    (clears : (s.record c).clearing = false) : settle c s = s := by
  have raised : ((s.record c).raising && s.raiseDelay c == 0) = false := by
    cases h : (s.record c).raising
    · rfl
    · simpa using Nat.ne_of_gt (raises h)
  simp [settle, raised, clears]

/-- R170, R171: the record becomes IDLE, and no condition that stands raises it again at once. -/
theorem unlatchRecord_record {c : Nat} {s : State} (h : c < s.alarm.records.length)
    (stands : (s.record c).cond = false ∨ 0 < s.inForce 5 (4 * c + 2)) :
    (unlatchRecord c s).record c = if (s.record c).state = .goneUnseen then
      { s.record c with state := .idle, firstRaised := none, lastChange := some s.stamp } else s.record c := by
  unfold unlatchRecord
  dsimp only
  split
  · have changed := changeRecord_record c (s.record c).toIdle s h
    have delay : (changeRecord c (s.record c).toIdle s).raiseDelay c = s.inForce 5 (4 * c + 2) := by
      simp [State.raiseDelay, State.inForce]
    rw [settle_still _ _, changed]
    · rfl
    · rw [changed, delay]
      intro raises
      refine stands.resolve_left fun false_ => ?_
      simp [AlarmRec.raising, AlarmRec.toIdle, false_] at raises
    · rw [changed]
      rfl
  · rfl

/-- R171: what a record makes of a latching that has been withdrawn. -/
def unlatchIf (old : State) (c : Nat) (s : State) : State :=
  if old.latching c && !s.latching c then unlatchRecord c s else s

theorem latchingChanged_eq (old s : State) :
    latchingChanged old s = (List.range 40).foldl (fun s c => unlatchIf old c s) s := rfl

@[simp] theorem unlatchIf_frame (old : State) (c : Nat) (s : State) :
    (unlatchIf old c s).cal = s.cal ∧ (unlatchIf old c s).store = s.store ∧
      (unlatchIf old c s).alarm.records.length = s.alarm.records.length := by
  unfold unlatchIf
  split <;> simp

theorem unlatchIf_ne (old : State) {c d : Nat} (s : State) (h : d ≠ c) : (unlatchIf old c s).record d = s.record d := by
  unfold unlatchIf
  split
  · exact unlatchRecord_ne s h
  · rfl

theorem foldl_unlatchIf_others (old : State) {d : Nat} (l : List Nat) (h : d ∉ l) (s : State) :
    (l.foldl (fun s c => unlatchIf old c s) s).record d = s.record d ∧
      (l.foldl (fun s c => unlatchIf old c s) s).cal = s.cal ∧
      (l.foldl (fun s c => unlatchIf old c s) s).store = s.store ∧
      (l.foldl (fun s c => unlatchIf old c s) s).alarm.records.length = s.alarm.records.length := by
  induction l generalizing s with
  | nil => exact ⟨rfl, rfl, rfl, rfl⟩
  | cons c l ih =>
    obtain ⟨record, cal, store, length⟩ := ih (fun m => h (List.mem_cons_of_mem c m)) (unlatchIf old c s)
    have ne : d ≠ c := fun e => h (e ▸ List.mem_cons_self)
    exact ⟨record.trans (unlatchIf_ne old s ne), cal.trans (by simp), store.trans (by simp), length.trans (by simp)⟩

/-- An element of a list without duplicates parts it into what comes before and after. -/
theorem split_at_mem {l : List Nat} (nodup : l.Nodup) {i : Nat} (h : i ∈ l) :
    ∃ l₁ l₂, l = l₁ ++ i :: l₂ ∧ i ∉ l₁ ∧ i ∉ l₂ := by
  obtain ⟨l₁, l₂, rfl⟩ := List.append_of_mem h
  rw [List.nodup_append] at nodup
  obtain ⟨-, tail, apart⟩ := nodup
  exact ⟨l₁, l₂, rfl, fun m => apart i m i List.mem_cons_self rfl, (List.nodup_cons.1 tail).1⟩

theorem latchingChanged_record {old s : State} {c : Nat} (hc : c < 40) (complete : s.alarm.records.length = 40)
    (stands : (s.record c).cond = false ∨ 0 < s.inForce 5 (4 * c + 2)) : (latchingChanged old s).record c =
      if old.latching c = true ∧ s.latching c = false ∧ (s.record c).state = .goneUnseen then
        { s.record c with state := .idle, firstRaised := none, lastChange := some s.stamp } else s.record c := by
  obtain ⟨l₁, l₂, range, before, after⟩ := split_at_mem (List.nodup_range (n := 40)) (List.mem_range.2 hc)
  rw [latchingChanged_eq, range, List.foldl_append, List.foldl_cons, (foldl_unlatchIf_others old l₂ after _).1]
  obtain ⟨record, cal, store, length⟩ := foldl_unlatchIf_others old l₁ before s
  generalize l₁.foldl (fun s c => unlatchIf old c s) s = u at *
  have latching : u.latching c = s.latching c := by simp [State.latching, State.now, store]
  have inForce : u.inForce 5 (4 * c + 2) = s.inForce 5 (4 * c + 2) := by simp [State.inForce, store]
  have stamp : u.stamp = s.stamp := by simp [State.stamp, cal]
  rw [unlatchIf, latching]
  have unlatched := unlatchRecord_record (c := c) (s := u) (by omega) (by rwa [record, inForce])
  cases was : old.latching c <;> cases is_ : s.latching c <;> simp [record, unlatched, stamp]

end Sys2Proof.Machine
end

section
/-! SUPPORT. What the completed write of group 7 brings (R13, R14, R194). -/

namespace Sys2Proof.Machine

/-! ## What no handing on touches of the store and the time -/

/-- From `s` to `t` the store keeps all but the unlocked group, and the time stands. -/
structure SiteStep (s t : State) : Prop where
  store : t.store = { s.store with unlocked := t.store.unlocked }
  time : s.cal.SameTime t.cal

theorem SiteStep.of_eq {s t : State} (h : t.store = s.store ∧ t.cal = s.cal) : SiteStep s t :=
  ⟨by rw [h.1], by rw [h.2]; exact .refl _⟩

theorem SiteStep.trans {s t u : State} (h : SiteStep s t) (k : SiteStep t u) : SiteStep s u :=
  ⟨k.store.trans (by rw [h.store]), h.time.trans k.time⟩

theorem SiteStep.foldl {α : Type} (f : State → α → State) (step : ∀ s a, SiteStep s (f s a)) (l : List α) (s : State) :
    SiteStep s (l.foldl f s) := by
  induction l generalizing s with
  | nil => exact .of_eq ⟨rfl, rfl⟩
  | cons a l ih => exact (step s a).trans (ih (f s a))

theorem keyWithdrawn_time (s : State) : s.cal.SameTime (keyWithdrawn s).cal := by
  cases held : s.keyHeld with
  | true =>
    have evaluated := (evaluateStart_step (clearHold s)).time
    rw [keyWithdrawn_held held]
    simpa using evaluated
  | false =>
    rw [keyWithdrawn_free held]
    exact (show (relockKeyed s).cal = s.cal by simp) ▸ .refl _

theorem handFunction_site (f : Nat) (s : State) : SiteStep s (handFunction f s) := by
  unfold handFunction
  split
  · split
    · exact .of_eq (by simp)
    · exact ⟨by rw [keyWithdrawn_store], keyWithdrawn_time s⟩
  · split
    · exact ⟨by simp, (inhibitChanged_step s).time⟩
    · split
      · split
        · exact ⟨by simp, (takeEngineFault_step s).time⟩
        · exact .of_eq ⟨rfl, rfl⟩
      · split
        · exact .of_eq (by simp)
        · exact .of_eq ⟨rfl, rfl⟩

theorem inputQualifies_site (n : Nat) (s : State) : SiteStep s (inputQualifies n s) := by
  have qualified : SiteStep s (inputQualified n s) := .of_eq (by simp)
  rw [inputQualifies_eq]
  unfold handIfChanged
  split
  · exact qualified
  · exact qualified.trans (handFunction_site _ _)

theorem persistenceChanged_site (old : State) (n : Nat) (s : State) : SiteStep s (persistenceChanged old n s) := by
  unfold persistenceChanged
  split
  · exact inputQualifies_site n s
  · exact .of_eq ⟨rfl, rfl⟩

/-! ## One input and its report -/

/-- From `s` to `t` input `i` and its SITE_INPUT record stand, with the settings and the sizes of the tables. -/
structure InputStands (i : Nat) (s t : State) : Prop where
  input : t.input i = s.input i
  record : t.record (alSiteInput + i) = s.record (alSiteInput + i)
  inputs : t.meas.inputs.length = s.meas.inputs.length
  records : t.alarm.records.length = s.alarm.records.length
  work : t.store.work = s.store.work

theorem InputStands.refl (i : Nat) (s : State) : InputStands i s s := ⟨rfl, rfl, rfl, rfl, rfl⟩

theorem InputStands.trans {i : Nat} {s t u : State} (h : InputStands i s t) (k : InputStands i t u) : InputStands i s u :=
  ⟨k.input.trans h.input, k.record.trans h.record, k.inputs.trans h.inputs, k.records.trans h.records,
    k.work.trans h.work⟩

theorem InputStands.foldl {α : Type} {i : Nat} {f : State → α → State} {l : List α}
    (step : ∀ a ∈ l, ∀ s, InputStands i s (f s a)) (s : State) : InputStands i s (l.foldl f s) := by
  induction l generalizing s with
  | nil => exact .refl i s
  | cons a l ih =>
    exact (step a List.mem_cons_self s).trans (ih (fun b hb => step b (List.mem_cons_of_mem a hb)) (f s a))

theorem InputStands.now {i : Nat} {s t : State} (h : InputStands i s t) (g k : Nat) : t.now g k = s.now g k := by
  simp [State.now, h.work]

theorem handFunction_stands (i f : Nat) (s : State) : InputStands i s (handFunction f s) where
  input := by simp [State.input]
  record := (handFunction_within f s).record _ (siteInput_not_handed i)
  inputs := by simp
  records := (handFunction_within f s).length
  work := by rw [(handFunction_site f s).store]

theorem inputQualifies_within (n : Nat) (s : State) :
    AlarmsWithin ((alSiteInput + n) :: handCodes) s (inputQualifies n s) :=
  (inputQualified_within s (by simp)).trans ((inputHanded n s).alarms.mono (by simp))

theorem inputQualifies_input {n : Nat} {s : State} (there : n < s.meas.inputs.length) :
    (inputQualifies n s).input n = (s.input n).qualify (s.sense n) := by
  rw [← inputQualified_input there]
  simp [State.input, inputQualifies_meas, inputQualified_meas]

theorem inputQualifies_input_ne {n m : Nat} (s : State) (h : m ≠ n) : (inputQualifies n s).input m = s.input m := by
  rw [← inputQualified_input_ne s h]
  simp [State.input, inputQualifies_meas, inputQualified_meas]

theorem inputQualifies_record {n : Nat} {s : State} (there : n < s.meas.inputs.length)
    (h : alSiteInput + n < s.alarm.records.length) :
    ((inputQualifies n s).record (alSiteInput + n)).cond = (s.now 7 n == 1 && s.sense n) := by
  rw [(inputHanded n s).alarms.record _ (siteInput_not_handed n)]
  exact inputQualified_record there h

theorem inputQualifies_stands {n i : Nat} (s : State) (h : i ≠ n) : InputStands i s (inputQualifies n s) where
  input := inputQualifies_input_ne s h
  record := (inputQualifies_within n s).record _ fun m =>
    (List.mem_cons.1 m).elim (fun e => h (Nat.add_left_cancel e)) (siteInput_not_handed i)
  inputs := by simp [inputQualifies_meas]
  records := (inputQualifies_within n s).length
  work := by rw [(inputQualifies_site n s).store]

/-! ## A changed persistence (R14) -/

/-- The running timer of input `n` has reached a persistence that is new. -/
abbrev PersistenceReached (old : State) (n : Nat) (s : State) : Prop :=
  s.now 7 (16 + n) ≠ old.now 7 (16 + n) ∧ ((s.input n).timer.any fun t => decide (s.now 7 (16 + n) ≤ t)) = true

theorem persistenceChanged_reached {old s : State} {n : Nat} (h : PersistenceReached old n s) :
    persistenceChanged old n s = inputQualifies n s := if_pos h

theorem persistenceChanged_idle {old s : State} {n : Nat} (h : ¬ PersistenceReached old n s) :
    persistenceChanged old n s = s := if_neg h

theorem persistenceChanged_stands (old : State) {n i : Nat} (s : State) (h : i ≠ n) :
    InputStands i s (persistenceChanged old n s) := by
  unfold persistenceChanged
  split
  · exact inputQualifies_stands s h
  · exact .refl i s

/-- The count of input `i`, 0 where none runs, has reached a persistence that is new. -/
abbrev CountReached (old s : State) (i : Nat) : Prop :=
  s.now 7 (16 + i) ≠ old.now 7 (16 + i) ∧ s.now 7 (16 + i) ≤ (s.input i).timer.getD 0

/-- The input differs from its sense, and its count has reached a persistence that is new. -/
abbrev InputFull (old s : State) (i : Nat) : Prop := (s.input i).active ≠ s.sense i ∧ CountReached old s i

theorem repolarise_input {i : Nat} {s : State} (there : i < s.meas.inputs.length) : (repolarise s).input i =
    { s.input i with timer := if s.sense i = (s.input i).active then none else some ((s.input i).timer.getD 0) } := by
  simp [repolarise, State.input, State.sense, State.onMeas, List.getD_eq_getElem?_getD, there]

/-- Input `i` of `u` stands as `s` has it once its timer runs under the new polarity, by the same settings. -/
structure Repolarised (s u : State) (i : Nat) : Prop where
  input : u.input i = (repolarise s).input i
  inputs : u.meas.inputs.length = s.meas.inputs.length
  work : u.store.work = s.store.work

theorem Repolarised.stands {s u t : State} {i : Nat} (h : Repolarised s u i) (k : InputStands i u t) :
    Repolarised s t i := ⟨k.input.trans h.input, k.inputs.trans h.inputs, k.work.trans h.work⟩

theorem Repolarised.now {s u : State} {i : Nat} (h : Repolarised s u i) (g k : Nat) : u.now g k = s.now g k := by
  simp [State.now, h.work]

theorem Repolarised.sense {s u : State} {i : Nat} (h : Repolarised s u i) (there : i < s.meas.inputs.length) :
    u.sense i = s.sense i := by
  rw [State.sense, h.input, repolarise_input there, h.now]
  rfl

theorem Repolarised.reached {old s u : State} {i : Nat} (h : Repolarised s u i) (there : i < s.meas.inputs.length) :
    PersistenceReached old i u ↔ InputFull old s i := by
  rw [PersistenceReached, InputFull, CountReached, h.now, h.input, repolarise_input there]
  by_cases agrees : s.sense i = (s.input i).active
  · simp [agrees]
  · simp [agrees, Ne.symm agrees]

/-- R14: the persistence of an input whose count has reached it is complete, and no other. -/
theorem Repolarised.persistence {old s u : State} {i : Nat} (h : Repolarised s u i)
    (there : i < s.meas.inputs.length) :
    (InputFull old s i → persistenceChanged old i u = inputQualifies i u) ∧
      (¬ InputFull old s i → persistenceChanged old i u = u) :=
  ⟨fun full => persistenceChanged_reached ((h.reached there).2 full),
    fun idle => persistenceChanged_idle (mt (h.reached there).1 idle)⟩

/-! ## Functions that have changed (R13) -/

/-- R13, R14: SITE_INPUT of input `n` where its function has changed. -/
def functionReport (old : State) (n : Nat) (s : State) : State :=
  if s.inputFunction n = old.inputFunction n then s else reportInput n s

theorem functionReports_eq (old s : State) :
    functionReports old s = (List.range 8).foldl (fun s n => functionReport old n s) s := rfl

theorem functionReport_stands (old : State) {n i : Nat} (s : State) (h : i ≠ n) :
    InputStands i s (functionReport old n s) := by
  unfold functionReport
  split
  · exact .refl i s
  · exact ⟨by simp [State.input], report_record_ne _ _ _ _ fun e => h (Nat.add_left_cancel e), by simp,
      report_length _ _ _, by simp⟩

/-- R13: SITE_INPUT is reported where the function has changed. -/
theorem functionReports_record {old s : State} {i : Nat} (hi : i < 8) (complete : s.alarm.records.length = 40)
    (changed : s.inputFunction i ≠ old.inputFunction i) :
    ((functionReports old s).record (alSiteInput + i)).cond = (s.now 7 i == 1 && (s.input i).active) := by
  obtain ⟨l₁, l₂, range, before, after⟩ := split_at_mem (List.nodup_range (n := 8)) (List.mem_range.2 hi)
  have ne {l : List Nat} (h : i ∉ l) : ∀ n ∈ l, ∀ s, InputStands i s (functionReport old n s) := fun n hn s =>
    functionReport_stands old s fun e => h (e ▸ hn)
  rw [functionReports_eq, range, List.foldl_append, List.foldl_cons, (InputStands.foldl (ne after) _).record]
  have stands := InputStands.foldl (ne before) s
  generalize l₁.foldl (fun s n => functionReport old n s) s = u at *
  have function : u.inputFunction i = s.inputFunction i := stands.now 7 i
  have there : alSiteInput + i < u.alarm.records.length := by
    rw [stands.records, complete]
    exact Nat.add_lt_add_left hi 32
  rw [functionReport, if_neg (by rw [function]; exact changed), reportInput_record there, stands.now, stands.input]

theorem functionReports_stands (old s : State) {i : Nat} (h : 8 ≤ i) : InputStands i s (functionReports old s) :=
  InputStands.foldl (fun _ hn s => functionReport_stands old s fun e =>
    absurd (List.mem_range.1 (e ▸ hn)) (Nat.not_lt.2 h)) s

@[simp] theorem functionReports_length (old s : State) :
    (functionReports old s).alarm.records.length = s.alarm.records.length :=
  (functionReports_stands old s (Nat.le_refl 8)).records

theorem functionReports_same {old s : State} (h : ∀ n, n < 8 → s.inputFunction n = old.inputFunction n) :
    functionReports old s = s := by
  have still (l : List Nat) (hl : ∀ n ∈ l, n < 8) : l.foldl (fun s n => functionReport old n s) s = s := by
    induction l with
    | nil => rfl
    | cons n l ih =>
      rw [List.foldl_cons, functionReport, if_pos (h n (hl n List.mem_cons_self))]
      exact ih fun m hm => hl m (List.mem_cons_of_mem n hm)
  exact still _ fun n hn => List.mem_range.1 hn

theorem handIf_other {s u : State} {f : Nat}
    (h : f ≠ fnKey ∧ f ≠ fnInhibit ∧ f ≠ fnOil ∧ f ≠ fnTemp ∧ f ≠ fnFuelFloat) (w : State) : handIf s u f w = w := by
  rw [handIf, handFunction_other h, ite_self]

theorem changedFunctions_handed {old s u : State} (h : ∀ f, u.functionActive f = s.functionActive f) :
    (changedFunctions old s).foldl (fun s f => handFunction f s) u = handChanged old u := by
  have step (f : Nat) (w : State) :
      (if (s.functionActive f != old.functionActive f) = true then handFunction f w else w) = handIf old u f w := by
    rw [handIf, h]
    by_cases same : s.functionActive f = old.functionActive f <;> simp [same]
  have codes : List.range' 1 7 = [1, fnKey, fnInhibit, fnRemote, fnOil, fnTemp, fnFuelFloat] := rfl
  rw [changedFunctions, List.foldl_filter, codes]
  simp only [step, List.foldl_cons, List.foldl_nil]
  rw [handIf_other (f := 1) (by decide), handIf_other (f := fnRemote) (by decide)]
  rfl

theorem handChanged_congr {s s' : State} (u : State) (h : ∀ f, s'.functionActive f = s.functionActive f) :
    handChanged s' u = handChanged s u := by
  have same (f : Nat) (w : State) : handIf s' u f w = handIf s u f w := by rw [handIf, handIf, h]
  simp only [handChanged, same]

theorem handChanged_same {s u : State} (h : ∀ f, u.functionActive f = s.functionActive f) : handChanged s u = u := by
  simp only [handChanged, handIf_same (h _)]

/-! ## The whole of it (R14) -/

/-- The functions' owners told, before the persistences are looked at. -/
def functionsTold (old s : State) : State :=
  (changedFunctions old s).foldl (fun s f => handFunction f s) (functionReports old (repolarise s))

theorem inputSettings_eq (old s : State) :
    inputSettings old s = (List.range 8).foldl (fun s n => persistenceChanged old n s) (functionsTold old s) := rfl

theorem functionReports_site (old s : State) : SiteStep s (functionReports old (repolarise s)) := .of_eq (by simp)

theorem inputSettings_site (old s : State) : SiteStep s (inputSettings old s) :=
  ((functionReports_site old s).trans (.foldl _ (fun s f => handFunction_site f s) _ _)).trans
    (.foldl _ (fun s n => persistenceChanged_site old n s) _ _)

/-- Telling the owners leaves each input as the new polarity has it. -/
theorem functionsTold_stands (old s : State) (i : Nat) :
    InputStands i (functionReports old (repolarise s)) (functionsTold old s) :=
  InputStands.foldl (fun f _ s => handFunction_stands i f s) _

theorem functionsTold_repolarised (old s : State) (i : Nat) : Repolarised s (functionsTold old s) i := by
  have reported : Repolarised s (functionReports old (repolarise s)) i :=
    ⟨by simp [State.input], by simp [repolarise, State.onMeas], by simp⟩
  exact reported.stands (functionsTold_stands old s i)

/-- The persistence of each input is looked at once, and no other touches the input. -/
theorem inputSettings_split (old s : State) {i : Nat} (hi : i < 8) : ∃ u, Repolarised s u i ∧
    InputStands i (functionsTold old s) u ∧ InputStands i (persistenceChanged old i u) (inputSettings old s) := by
  obtain ⟨l₁, l₂, range, before, after⟩ := split_at_mem (List.nodup_range (n := 8)) (List.mem_range.2 hi)
  have ne {l : List Nat} (h : i ∉ l) : ∀ n ∈ l, ∀ s, InputStands i s (persistenceChanged old n s) := fun n hn s =>
    persistenceChanged_stands old s fun e => h (e ▸ hn)
  have told := InputStands.foldl (ne before) (functionsTold old s)
  refine ⟨l₁.foldl (fun s n => persistenceChanged old n s) (functionsTold old s),
    (functionsTold_repolarised old s i).stands told, told, ?_⟩
  rw [inputSettings_eq, range, List.foldl_append, List.foldl_cons]
  exact InputStands.foldl (ne after) _

/-- What the write leaves of input `i` (R11, R14). -/
theorem inputSettings_input {old s : State} {i : Nat} (hi : i < 8) (inputs : s.meas.inputs.length = 8) :
    (inputSettings old s).input i =
      if (s.input i).active = s.sense i then { s.input i with timer := none }
      else if CountReached old s i then { s.input i with active := s.sense i, timer := none }
      else { s.input i with timer := some ((s.input i).timer.getD 0) } := by
  have there : i < s.meas.inputs.length := by omega
  obtain ⟨u, polarised, -, rest⟩ := inputSettings_split old s hi
  obtain ⟨complete, idle⟩ := polarised.persistence (old := old) there
  rw [rest.input]
  by_cases full : InputFull old s i
  · rw [complete full, inputQualifies_input (by rw [polarised.inputs]; exact there), if_neg full.1, if_pos full.2,
      polarised.sense there, polarised.input, repolarise_input there]
    rfl
  · rw [idle full, polarised.input, repolarise_input there]
    by_cases agrees : (s.input i).active = s.sense i
    · rw [if_pos agrees, if_pos agrees.symm]
    · rw [if_neg agrees, if_neg fun reached => full ⟨agrees, reached⟩, if_neg (Ne.symm agrees)]

/-- R13, R14: SITE_INPUT is reported where the function or the state of the input has changed. -/
theorem inputSettings_record {old s : State} {i : Nat} (hi : i < 8) (inputs : s.meas.inputs.length = 8)
    (complete : s.alarm.records.length = 40)
    (changed : s.now 7 i ≠ old.now 7 i ∨ ((inputSettings old s).input i).active ≠ (s.input i).active) :
    ((inputSettings old s).record (alSiteInput + i)).cond =
      (s.now 7 i == 1 && ((inputSettings old s).input i).active) := by
  have there : i < s.meas.inputs.length := by omega
  obtain ⟨u, polarised, told, rest⟩ := inputSettings_split old s hi
  obtain ⟨full_, idle⟩ := polarised.persistence (old := old) there
  rw [rest.input] at changed
  rw [rest.record, rest.input]
  by_cases full : InputFull old s i
  · have records : alSiteInput + i < u.alarm.records.length := by
      rw [told.records, (functionsTold_stands old s i).records, functionReports_length]
      simp only [repolarise_frame, complete]
      exact Nat.add_lt_add_left hi 32
    have here : i < u.meas.inputs.length := by rw [polarised.inputs]; exact there
    rw [full_ full, inputQualifies_record here records, inputQualifies_input here, polarised.now]
    rfl
  · rw [idle full] at changed ⊢
    have same : (u.input i).active = (s.input i).active := by rw [polarised.input, repolarise_input there]
    have function : (repolarise s).inputFunction i ≠ old.inputFunction i :=
      changed.resolve_right fun ne => ne same
    rw [told.record, (functionsTold_stands old s i).record, functionReports_record hi (by simpa using complete) function,
      same, repolarise_input there]
    rfl

/-- Looking at persistences that no count has reached does nothing. -/
theorem foldl_persistence_idle {old s u : State} {l : List Nat} (inputs : s.meas.inputs.length = 8)
    (polarised : ∀ i ∈ l, Repolarised s u i) (below : ∀ i ∈ l, i < 8) (idle : ∀ i ∈ l, ¬ InputFull old s i) :
    l.foldl (fun s n => persistenceChanged old n s) u = u := by
  induction l with
  | nil => rfl
  | cons i l ih =>
    have mem {j : Nat} (hj : j ∈ l) : j ∈ i :: l := List.mem_cons_of_mem i hj
    have head := List.mem_cons_self (a := i) (l := l)
    rw [List.foldl_cons, ((polarised i head).persistence (by rw [inputs]; exact below i head)).2 (idle i head)]
    exact ih (fun j hj => polarised j (mem hj)) (fun j hj => below j (mem hj)) fun j hj => idle j (mem hj)

/-- No persistence is completed by the write, or one is and no function is written. -/
def QualifiesOnce (old s : State) : Prop :=
  (∀ i, i < 8 → ¬ InputFull old s i) ∨
    (∀ i, i < 8 → s.now 7 i = old.now 7 i) ∧ ∃ n, n < 8 ∧ ∀ i, i < 8 → InputFull old s i → i = n

theorem repolarise_functions (s : State) (f : Nat) : (repolarise s).functionActive f = s.functionActive f := by
  have same (n : Nat) : ((repolarise s).input n).active = (s.input n).active := by
    by_cases there : n < s.meas.inputs.length
    · rw [repolarise_input there]
    · simp [repolarise, State.input, State.onMeas, List.getD_eq_getElem?_getD,
        List.getElem?_eq_none (Nat.le_of_not_lt there)]
  simp [State.functionActive, State.inputFunction, State.now, same]

theorem functionsTold_eq (old s : State) :
    functionsTold old s = handChanged old (functionReports old (repolarise s)) :=
  changedFunctions_handed fun f =>
    (functionActive_work (by simp) (by simp) f).trans (repolarise_functions s f)

/-- Where no function is written the function states are those of the inputs. -/
theorem functionActive_written {old s : State} (meas : s.meas = old.meas)
    (functions : ∀ i, i < 8 → s.now 7 i = old.now 7 i) (f : Nat) : s.functionActive f = old.functionActive f := by
  unfold State.functionActive
  rw [Bool.eq_iff_iff, List.any_eq_true, List.any_eq_true]
  refine exists_congr fun i => and_congr_right fun hi => ?_
  have function : s.inputFunction i = old.inputFunction i := functions i (List.mem_range.1 hi)
  rw [function, State.input, State.input, meas]

/-- From `s` to `u` all stands that the owners of the functions read, but for the inputs. -/
structure OwnersStand (s u : State) : Prop where
  gen : u.gen = s.gen
  sup : u.sup = s.sup
  acct : u.acct = s.acct
  store : u.store = s.store
  genPresent : u.meas.genPresent = s.meas.genPresent
  records : u.alarm.records.length = s.alarm.records.length

/-- R13, R14: the function states that the write has changed are handed on as after a PERSISTENCE_EXPIRY. -/
theorem inputSettings_handed {old s : State} (inputs : s.meas.inputs.length = 8) (meas : s.meas = old.meas)
    (once : QualifiesOnce old s) : ∃ u, OwnersStand s u ∧ inputSettings old s = handChanged old u := by
  have polarised (i : Nat) := functionsTold_repolarised old s i
  by_cases idle : ∀ i, i < 8 → ¬ InputFull old s i
  · refine ⟨functionReports old (repolarise s),
      ⟨by simp, by simp, by simp, by simp, by simp [repolarise, State.onMeas], by simp⟩, ?_⟩
    rw [← functionsTold_eq, inputSettings_eq]
    exact foldl_persistence_idle inputs (fun i _ => polarised i) (fun i hi => List.mem_range.1 hi)
      fun i hi => idle i (List.mem_range.1 hi)
  · obtain ⟨functions, n, hn, only⟩ := once.resolve_left idle
    have full : InputFull old s n := by
      by_contra not_
      refine idle fun i hi full => not_ ?_
      rwa [← only i hi full]
    have active (f : Nat) : s.functionActive f = old.functionActive f := functionActive_written meas functions f
    have repolarised (f : Nat) : (repolarise s).functionActive f = old.functionActive f :=
      (repolarise_functions s f).trans (active f)
    have untold : functionsTold old s = repolarise s := by
      have unreported : functionReports old (repolarise s) = repolarise s :=
        functionReports_same fun i hi => by simpa [State.inputFunction, State.now] using functions i hi
      rw [functionsTold_eq, unreported, handChanged_same repolarised]
    rw [untold] at polarised
    have after {i : Nat} (ne : i ≠ n) : Repolarised s (inputQualifies n (repolarise s)) i :=
      (polarised i).stands (inputQualifies_stands _ ne)
    obtain ⟨l₁, l₂, range, before, later⟩ := split_at_mem (List.nodup_range (n := 8)) (List.mem_range.2 hn)
    have below {i : Nat} (hi : i ∈ l₁ ∨ i ∈ l₂) : i < 8 :=
      List.mem_range.1 (range ▸ List.mem_append.2 (hi.imp_right (List.mem_cons_of_mem n)))
    have ne₁ {i : Nat} (hi : i ∈ l₁) : i ≠ n := fun e => before (e ▸ hi)
    have ne₂ {i : Nat} (hi : i ∈ l₂) : i ≠ n := fun e => later (e ▸ hi)
    refine ⟨inputQualified n (repolarise s),
      ⟨by simp, by simp, by simp, by simp, by simp [inputQualified_meas, repolarise, State.onMeas],
        (inputQualified_within (codes := [alSiteInput + n]) _ (by simp)).length⟩, ?_⟩
    have qualifies : inputSettings old s = inputQualifies n (repolarise s) := by
      rw [inputSettings_eq, untold, range, List.foldl_append, List.foldl_cons,
        foldl_persistence_idle inputs (fun i _ => polarised i) (fun i hi => below (.inl hi))
          (fun i hi full => ne₁ hi (only i (below (.inl hi)) full)),
        ((polarised n).persistence (by omega)).1 full]
      exact foldl_persistence_idle inputs (fun i hi => after (ne₂ hi)) (fun i hi => below (.inr hi))
        fun i hi full => ne₂ hi (only i (below (.inr hi)) full)
    rw [qualifies, inputQualifies_handed]
    exact handChanged_congr _ repolarised

end Sys2Proof.Machine
end

section
/-! SUPPORT and the statement about completed store writes (R190, R194). -/

namespace Sys2Proof.Machine

/-! ## Every group's hand-on -/

theorem handGroup_site (g : Nat) (old s : State) : SiteStep s (handGroup g old s) := by
  have trimmed : SiteStep s (trimToGen s) := .of_eq (by simp)
  have exercised : SiteStep (trimToGen s) (exerciseSettings (trimToGen s)) := by
    unfold exerciseSettings
    split
    · exact .of_eq ⟨rfl, rfl⟩
    · exact ⟨by simp, (exerciseWithdrawn_step [] _).time⟩
  unfold handGroup
  split
  · exact trimmed
  · split
    · exact .of_eq (by simp)
    · split
      · exact trimmed.trans exercised
      · split
        · exact .of_eq (by simp)
        · split
          · exact inputSettings_site old s
          · exact .of_eq ⟨rfl, rfl⟩

theorem handGroup_unlocked {g : Nat} (h : g ≠ 7) (old s : State) : (handGroup g old s).store = s.store := by
  unfold handGroup
  rw [if_neg h]
  (repeat' split) <;> simp

theorem handGroup_meas {g : Nat} (mains : g ≠ 2) (site : g ≠ 7) (old s : State) :
    (handGroup g old s).meas = s.meas := by
  unfold handGroup
  rw [if_neg mains, if_neg site]
  (repeat' split) <;> simp

theorem handGroup_cal {g : Nat} (generator : g ≠ 3) (site : g ≠ 7) (old s : State) : (handGroup g old s).cal = s.cal := by
  unfold handGroup
  rw [if_neg generator, if_neg site]
  (repeat' split) <;> simp

/-- R94: of the scheduler, the writes of Plant and Generator do what the cap asks. -/
theorem handGroup_rect {g : Nat} (h : g = 0 ∨ g = 3) (old s : State) :
    (handGroup g old s).rect = (trimToGen s).rect := by
  rcases h with rfl | rfl
  · rfl
  · show (exerciseSettings (trimToGen s)).rect = _
    simp

theorem handGroup_nGen {g : Nat} (h : g = 0 ∨ g = 3) (old s : State) : (handGroup g old s).nGen = s.nGen := by
  simp [State.nGen, State.now, handGroup_unlocked (show g ≠ 7 by omega)]

theorem handGroup_idle {g : Nat} (h : g = 1 ∨ g = 4 ∨ g = 6) (old s : State) : handGroup g old s = s := by
  rcases h with rfl | rfl | rfl <;> rfl

/-! ## What a group's write leaves -/

section
variable {g : Nat} (values : List Nat) {s : State}

/-- The state once the blocks have acted on the write of group `g`. -/
def groupHanded (g : Nat) (values : List Nat) (s : State) : State := handGroup g s (groupInstalled g values s)

theorem groupWriteCompletes_handed (write : s.store.write = some (.group g values)) :
    groupWriteCompletes s = postWritten g (groupHanded g values s) := groupWriteCompletes_group write

@[simp] theorem groupHanded_frame (g : Nat) (values : List Nat) (s : State) :
    (groupHanded g values s).pending = s.pending ∧ (groupHanded g values s).powered = s.powered ∧
    (groupHanded g values s).markerGood = s.markerGood ∧ (groupHanded g values s).bus = s.bus ∧
    (groupHanded g values s).link = s.link := by
  simp [groupHanded]

theorem groupHanded_store (g : Nat) (values : List Nat) (s : State) : (groupHanded g values s).store =
    { s.store with
      work := s.store.work.set g values, images := s.store.images.set g { values := values, good := true }
      damaged := s.store.damaged.set g false, write := none
      fresh := (groupHanded g values s).store.fresh, unlocked := (groupHanded g values s).store.unlocked } := by
  have store := (handGroup_site g s (groupInstalled g values s)).store
  have fresh : (groupHanded g values s).store.fresh = (groupInstalled g values s).store.fresh :=
    (congrArg Store.fresh store :)
  refine store.trans ?_
  rw [fresh, groupInstalled_store]
  rfl

theorem groupHanded_fresh (g : Nat) (values : List Nat) (s : State) : g ∈ (groupHanded g values s).store.fresh := by
  have store := (handGroup_site g s (groupInstalled g values s)).store
  have fresh : (groupHanded g values s).store.fresh = (groupInstalled g values s).store.fresh :=
    (congrArg Store.fresh store :)
  exact fresh ▸ groupInstalled_fresh g values s

theorem groupHanded_stamp (g : Nat) (values : List Nat) (s : State) : (groupHanded g values s).stamp = s.stamp :=
  (handGroup_site g s (groupInstalled g values s)).time.1.trans (by simp [State.stamp])

theorem groupHanded_group (there : g < s.store.work.length) : (groupHanded g values s).group g = values := by
  rw [State.group, groupHanded_store]
  simp [List.getD_eq_getElem?_getD, there]

theorem groupHanded_unlocked (h : g ≠ 7) : (groupHanded g values s).store.unlocked = s.store.unlocked := by
  rw [groupHanded, handGroup_unlocked h, groupInstalled_store]

theorem groupHanded_meas (mains : g ≠ 2) (site : g ≠ 7) : (groupHanded g values s).meas = s.meas := by
  rw [groupHanded, handGroup_meas mains site]
  simp

theorem groupHanded_cal (generator : g ≠ 3) (site : g ≠ 7) : (groupHanded g values s).cal = s.cal := by
  rw [groupHanded, handGroup_cal generator site]
  simp

theorem groupHanded_idle (h : g = 1 ∨ g = 4 ∨ g = 6) : groupHanded g values s = groupInstalled g values s :=
  handGroup_idle h s _

theorem groupHanded_cap (h : g = 0 ∨ g = 3) (online : s.gen.machine = .online) (placed : s.RosterPlaced) :
    (groupHanded g values s).nRun = min s.nRun (groupHanded g values s).nGen ∧
      (groupHanded g values s).rect.swap =
        (if (groupHanded g values s).nGen < s.nRun then none else s.rect.swap) ∧
      (s.nRun ≤ (groupHanded g values s).nGen → (groupHanded g values s).rect = s.rect) := by
  have rect := handGroup_rect h s (groupInstalled g values s)
  have count : (groupInstalled g values s).nRun = s.nRun := by simp [State.nRun]
  have live : RunningLive (groupInstalled g values s) := placed.live.congr (by simp) (by simp)
  obtain ⟨trimmed, swap⟩ := trimToGen_trims (s := groupInstalled g values s) (by simpa using online) live
  rw [groupHanded, handGroup_nGen h, State.nRun, rect, ← count]
  refine ⟨trimmed, by simpa using swap, fun within => ?_⟩
  rw [trimToGen_within within]
  simp

theorem groupHanded_rect (h : g = 0 ∨ g = 3) (offline : s.gen.machine ≠ .online) :
    (groupHanded g values s).rect = s.rect := by
  rw [groupHanded, handGroup_rect h, trimToGen_offline (by simpa using offline)]
  simp

theorem groupHanded_exercise (there : 3 < s.store.work.length) :
    (groupHanded 3 values s).cal =
        (if values.getD 27 0 = 1 ∧ values.getD 0 0 = 1 ∨ s.cal.exState = .none then s.cal
        else { s.cal with exState := .none, exDuration := 0, exWindow := 0 }) ∧
      (groupHanded 3 values s).gen.exercise =
        (if values.getD 27 0 = 1 ∧ values.getD 0 0 = 1 ∨ s.cal.exState = .none then s.gen.exercise else none) := by
  have now (i : Nat) : (trimToGen (groupInstalled 3 values s)).now 3 i = values.getD i 0 := by
    rw [← groupInstalled_now values there]
    simp [State.now]
  have withdrawn := exerciseSettings_withdrawn (trimToGen (groupInstalled 3 values s))
  simp only [now, trimToGen_frame, groupInstalled_frame] at withdrawn
  exact withdrawn

theorem groupHanded_mains (there : 2 < s.store.work.length) (complete : s.alarm.records.length = 40) :
    (groupHanded 2 values s).meas =
      if s.meas.mainsQualified = false ∧ values.getD 12 0 ≠ s.now 2 12 ∧
          (s.meas.mainsTimer.any fun n => decide (values.getD 12 0 ≤ n)) = true then
        { s.meas with mainsQualified := true, mainsTimer := none }
      else if s.meas.mainsQualified = true ∧ values.getD 13 0 ≠ s.now 2 13 ∧
          (s.meas.mainsTimer.any fun n => decide (values.getD 13 0 ≤ n)) = true then
        { s.meas with mainsQualified := false, mainsTimer := none }
      else s.meas := by
  have delayed := mainsDelaysChanged_meas s (groupInstalled 2 values s)
    ((groupInstalled_within 2 values s).length.trans complete)
  simp only [mainsReached, groupInstalled_now values there, groupInstalled_frame] at delayed
  exact delayed

theorem groupHanded_latching (there : 5 < s.store.work.length) (complete : s.alarm.records.length = 40) {c : Nat}
    (hc : c < 40) (other : c ≠ alSettingsLost)
    (stands : (s.record c).cond = false ∨ 0 < s.inForce 5 (4 * c + 2)) : (groupHanded 5 values s).record c =
      if s.now 5 (4 * c + 1) = 1 ∧ values.getD (4 * c + 1) 0 ≠ 1 ∧ (s.record c).state = .goneUnseen then
        { s.record c with state := .idle, firstRaised := none, lastChange := some s.stamp }
      else s.record c := by
  have installed := groupInstalled_within 5 values s
  have record : (groupInstalled 5 values s).record c = s.record c := installed.record c (by simpa using other)
  have stamp : (groupInstalled 5 values s).stamp = s.stamp := by simp [State.stamp]
  have unlatched := latchingChanged_record (old := s) (s := groupInstalled 5 values s) hc
    (installed.length.trans complete) (by rwa [record, groupInstalled_inForce])
  simp only [State.latching, groupInstalled_now values there, record, stamp, beq_iff_eq, beq_eq_false_iff_ne,
    ne_eq] at unlatched
  exact unlatched

/-! ## What the write of the inputs leaves -/

theorem groupInstalled_input (i : Nat) : (groupInstalled g values s).input i = s.input i := by simp [State.input]

theorem groupInstalled_sense (there : 7 < s.store.work.length) (i : Nat) :
    (groupInstalled 7 values s).sense i = ((s.input i).level != (values.getD (8 + i) 0 == 1)) := by
  rw [State.sense, groupInstalled_now values there, groupInstalled_input]
  rfl

theorem groupHanded_input (there : 7 < s.store.work.length) (inputs : s.meas.inputs.length = 8) {i : Nat}
    (hi : i < 8) : (groupHanded 7 values s).input i =
      if (s.input i).active = ((s.input i).level != (values.getD (8 + i) 0 == 1)) then { s.input i with timer := none }
      else if values.getD (16 + i) 0 ≠ s.now 7 (16 + i) ∧ values.getD (16 + i) 0 ≤ (s.input i).timer.getD 0 then
        { s.input i with active := (s.input i).level != (values.getD (8 + i) 0 == 1), timer := none }
      else { s.input i with timer := some ((s.input i).timer.getD 0) } := by
  have settled := inputSettings_input (old := s) (s := groupInstalled 7 values s) hi (by simpa using inputs)
  simp only [groupInstalled_input, groupInstalled_sense values there, CountReached,
    groupInstalled_now values there] at settled
  exact settled

theorem groupHanded_inputRecord (there : 7 < s.store.work.length) (complete : s.alarm.records.length = 40)
    (inputs : s.meas.inputs.length = 8) {i : Nat} (hi : i < 8)
    (changed : values.getD i 0 ≠ s.now 7 i ∨ ((groupHanded 7 values s).input i).active ≠ (s.input i).active) :
    ((groupHanded 7 values s).record (32 + i)).cond =
      (values.getD i 0 == 1 && ((groupHanded 7 values s).input i).active) := by
  have reported := inputSettings_record (old := s) (s := groupInstalled 7 values s) hi (by simpa using inputs)
    ((groupInstalled_within 7 values s).length.trans complete)
  rw [groupInstalled_now values there, groupInstalled_input] at reported
  exact reported changed

/-- No persistence is completed by the write, or one is and no function is written (the statement's words). -/
theorem groupInstalled_once (there : 7 < s.store.work.length) :
    QualifiesOnce s (groupInstalled 7 values s) ↔
      (∀ i, i < 8 → ¬ ((s.input i).active ≠ ((s.input i).level != (values.getD (8 + i) 0 == 1)) ∧
        values.getD (16 + i) 0 ≠ s.now 7 (16 + i) ∧ values.getD (16 + i) 0 ≤ (s.input i).timer.getD 0)) ∨
      (∀ i, i < 8 → values.getD i 0 = s.now 7 i) ∧ ∃ n, n < 8 ∧ ∀ i, i < 8 →
        ((s.input i).active ≠ ((s.input i).level != (values.getD (8 + i) 0 == 1)) ∧
          values.getD (16 + i) 0 ≠ s.now 7 (16 + i) ∧ values.getD (16 + i) 0 ≤ (s.input i).timer.getD 0) → i = n := by
  simp only [QualifiesOnce, InputFull, CountReached, groupInstalled_input, groupInstalled_sense values there,
    groupInstalled_now values there]

/-- What the write of the inputs leaves once the function states it changes, from `s` to `u`, have been handed on. -/
structure SiteWritten (s u t : State) : Prop where
  handed : FunctionsHanded s u t
  functions : ∀ f, t.functionActive f = u.functionActive f
  gen : u.gen = s.gen
  genPresent : u.meas.genPresent = s.meas.genPresent
  cools : u.inForce 3 18 = s.inForce 3 18
  held : u.keyHeld = s.keyHeld
  records : u.alarm.records.length = s.alarm.records.length
  hold : t.sup.hold =
    if TurnsOn s u fnKey then s.sup.hold.or (some { cause := .key, left := s.now 5 161 * 60 })
    else if TurnsOff s u fnKey then s.sup.hold.filter fun h => h.cause != .key
    else s.sup.hold
  unlocked : t.store.unlocked =
    if TurnsOff s u fnKey then s.store.unlocked.filter fun g => s.store.modes.getD g .keyed != .keyed
    else s.store.unlocked
  tried : ¬ TurnsOn s u fnInhibit → ¬ Faults s u → StartTried (KeyEnds s u ∨ TurnsOff s u fnInhibit)
    { s with meas := t.meas, sup := t.sup, store := t.store } t.gen

section
variable {u t : State} (h : SiteWritten s u t)
include h

theorem SiteWritten.fuel (complete : s.alarm.records.length = 40)
    (moved : TurnsOn s u fnFuelFloat ∨ TurnsOff s u fnFuelFloat) :
    (t.record alFuelLow).cond = (s.gen.fuelLow || u.functionActive fnFuelFloat) := by
  rw [← h.gen]
  exact h.handed.fuel moved (h.records.trans complete)

theorem SiteWritten.keyEnds_iff : KeyEnds s u ↔ TurnsOff s u fnKey ∧ s.keyHeld = true := by
  rw [← h.held]

theorem SiteWritten.armed_iff : faultArmed u = true ↔
    s.gen.machine.Carries ∨ s.gen.machine = .cooldown ∨ s.gen.machine = .warmup ∧ 10 ≤ s.gen.stateCount := by
  rw [faultArmed_iff, h.gen]

theorem SiteWritten.stood (on : ¬ TurnsOn s u fnInhibit) (off : ¬ TurnsOff s u fnInhibit)
    (ends : ¬ (TurnsOff s u fnKey ∧ s.keyHeld = true))
    (calm : ¬ (Faults s u ∧ (s.gen.machine.Carries ∨ s.gen.machine = .cooldown ∨
      s.gen.machine = .warmup ∧ 10 ≤ s.gen.stateCount))) : t.gen = s.gen :=
  (h.handed.stood on off (mt h.keyEnds_iff.1 ends) fun k => calm ⟨k.1, h.armed_iff.1 k.2⟩).trans h.gen

theorem SiteWritten.stopping (on : TurnsOn s u fnInhibit) (no : ¬ Faults s u) (early : s.gen.machine.Early)
    (present : s.meas.genPresent = true) : t.gen.machine = .stopping ∧
      t.gen.run = s.gen.run.map fun r => { r with stopReason := some .inhibit } := by
  rw [← h.gen] at early ⊢
  exact h.handed.stopping on no early (h.genPresent.trans present)

theorem SiteWritten.stopped (on : TurnsOn s u fnInhibit) (no : ¬ Faults s u) (early : s.gen.machine.Early)
    (absent : s.meas.genPresent = false) : t.gen.machine = .failed ∨ t.gen.machine = .idle := by
  rw [← h.gen] at early
  exact h.handed.stopped on no early (h.genPresent.trans absent)

theorem SiteWritten.cooling (on : TurnsOn s u fnInhibit) (no : ¬ Faults s u) (carries : s.gen.machine.Carries)
    (cools : 0 < s.inForce 3 18) : t.gen.machine = .cooldown ∧
      t.gen.run = s.gen.run.map fun r => { r with stopReason := some .inhibit } := by
  rw [← h.gen] at carries ⊢
  exact h.handed.cooling on no carries (by rwa [h.cools])

theorem SiteWritten.unended (on : TurnsOn s u fnInhibit) (no : ¬ Faults s u) (early : ¬ s.gen.machine.Early)
    (carries : ¬ s.gen.machine.Carries) : t.gen = s.gen := by
  rw [← h.gen] at early carries ⊢
  exact h.handed.unended on no early carries

theorem SiteWritten.faulted (faults : Faults s u) (armed : s.gen.machine.Carries ∨ s.gen.machine = .cooldown ∨
    s.gen.machine = .warmup ∧ 10 ≤ s.gen.stateCount) (on : ¬ TurnsOn s u fnInhibit) :
    t.gen.machine = (if s.meas.genPresent = true then .stopping else .failed) ∧
      t.gen.failReason = some .engineFault := by
  rw [← h.genPresent]
  exact h.handed.faulted faults (h.armed_iff.2 armed) on

theorem SiteWritten.begun (tried : TurnsOff s u fnInhibit ∨
      (TurnsOff s u fnKey ∧ s.keyHeld = true) ∧ ¬ TurnsOn s u fnInhibit) (no : ¬ Faults s u)
    (gates : gatesOpen { s with meas := t.meas, sup := t.sup, store := t.store } = true) {b : Basis}
    (cause : firstCause { s with meas := t.meas, sup := t.sup, store := t.store } = some b) (other : b ≠ .exercise) :
    t.gen.run.map Run.basis = some b := by
  have on : ¬ TurnsOn s u fnInhibit := tried.elim TurnsOff.not_on And.right
  exact (h.tried on no).begun (tried.symm.imp_left fun k => h.keyEnds_iff.2 k.1) gates b cause other

end

theorem siteWritten {u t : State} (stand : OwnersStand (groupInstalled 7 values s) u) (eq : t = handChanged s u) :
    SiteWritten s u t := by
  have handed : FunctionsHanded s u t := eq ▸ functionsHanded s u
  have meas : t.meas = u.meas := by simp [eq]
  have store := stand.store.trans (groupInstalled_store 7 values s)
  have gen : u.gen = s.gen := stand.gen.trans (by simp)
  have sup : u.sup = s.sup := stand.sup.trans (by simp)
  have acct : u.acct = s.acct := stand.acct.trans (by simp)
  have limit : u.now 5 161 = s.now 5 161 := by
    rw [← groupInstalled_now_ne values s (g := 7) (by decide) 161]
    simp [State.now, stand.store]
  refine { handed := handed, functions := ?_, gen := gen, genPresent := ?_, cools := ?_, held := ?_, records := ?_,
           hold := ?_, unlocked := ?_, tried := fun on no => ?_ }
  · exact functionActive_work meas (by rw [handed.store])
  · exact stand.genPresent.trans (by simp)
  · simp [State.inForce, store]
  · rw [State.keyHeld, State.keyHeld, sup]
  · exact stand.records.trans (groupInstalled_within 7 values s).length
  · rw [handed.hold, keyHold, sup, limit]
  · rw [handed.store]
    simp only [keyUnlocked, store]
  · exact (handed.tried on no).congr gen.symm (gates_congr gen.symm rfl acct.symm meas rfl rfl)

theorem groupHanded_site (inputs : s.meas.inputs.length = 8)
    (once : QualifiesOnce s (groupInstalled 7 values s)) : ∃ u, SiteWritten s u (groupHanded 7 values s) := by
  obtain ⟨u, stand, eq⟩ := inputSettings_handed (old := s) (by simpa using inputs) (by simp) once
  exact ⟨u, siteWritten values stand eq⟩

end

/-! ## The mode table (R190) -/

theorem modeWriteCompletes_modes {s : State} {g : Nat} {mode : ProtectMode}
    (h : s.store.write = some (.modeTable g mode)) :
    modeWriteCompletes s = postWritten g (reportSettings (installModes g mode s)) := by
  rw [modeWriteCompletes, h]

theorem modesInstalled_reported {g : Nat} {mode : ProtectMode} {s : State} (complete : s.alarm.records.length = 40) :
    Reported alSettingsLost (s.store.damaged.any id) s
      (postWritten g (reportSettings (installModes g mode s))) := by
  have same : (installModes g mode s).alarm = s.alarm := by simp [installModes]
  have condition : ((installModes g mode s).store.damaged.any id || (installModes g mode s).store.tableDamaged) =
      s.store.damaged.any id := by simp [installModes, State.onStore]
  have reported := report_reported alSettingsLost (s.store.damaged.any id) (installModes g mode s)
    (by rw [same, complete]; decide)
  have record (c : Nat) : (installModes g mode s).record c = s.record c := by simp [State.record]
  rw [reportSettings, condition]
  refine ⟨by simpa using reported.cond, fun d hd ne => ?_, ?_, ?_⟩
  · rw [postWritten_record, reported.others d hd ne, record]
  · exact same ▸ reported.notices.trans (post_prefix _ _ _ _)
  · rw [postWritten, post_evaluated, reported.evaluated, same]

end Sys2Proof.Machine

open Sys2Proof Sys2Proof.Machine

/-- Settles O52, group by group. -/
theorem storeWritesComplete : Obligations.StoreWritesComplete := by
  intro s on complete
  dsimp only
  have groups : exec .storeWriteComplete s = .next (groupWriteCompletes s) := whenPowered_on s _ on
  have modes : exec .modeTableWriteComplete s = .next (modeWriteCompletes s) := whenPowered_on s _ on
  refine ⟨fun g values write there => ?_, fun g mode write => ?_, fun free => ?_⟩
  · have led := groups
    rw [groupWriteCompletes_handed values write] at led
    refine ⟨_, led, ?_, postWritten_last (groupHanded_group values there) (groupHanded_stamp g values s), ?_, ?_, ?_,
      fun ne => ?_, fun cap online placed => ?_, fun cap offline => ?_, fun generator site => ?_, ?_, ?_,
      fun mains site => ?_, ?_, ?_, ?_, fun plain => ?_⟩
    · simpa using groupHanded_store g values s
    · apply State.ext_parts <;> simp
    · simpa using groupHanded_fresh g values s
    · rw [modes, modeWriteCompletes, write]
    · simpa using groupHanded_unlocked values ne
    · exact groupHanded_cap values cap online placed
    · simpa using groupHanded_rect values cap offline
    · simpa using groupHanded_cal values generator site
    · rintro rfl
      simpa using groupHanded_exercise values there
    · rintro rfl
      simpa using groupHanded_mains values there complete
    · simpa using groupHanded_meas values mains site
    · rintro rfl c hc other stands
      rw [postWritten_record]
      exact groupHanded_latching values there complete hc other stands
    · rintro rfl inputs i hi
      have input : (postWritten 7 (groupHanded 7 values s)).input i = (groupHanded 7 values s).input i := by
        simp [State.input]
      rw [input, postWritten_record]
      exact ⟨groupHanded_input values there inputs hi, groupHanded_inputRecord values there complete inputs hi⟩
    · rintro rfl inputs once
      obtain ⟨u, site⟩ := groupHanded_site values inputs ((groupInstalled_once values there).2 once)
      have functions (f : Nat) : (postWritten 7 (groupHanded 7 values s)).functionActive f = u.functionActive f :=
        (functionActive_work (by simp) (by simp) f).trans (site.functions f)
      simp only [functions, postWritten_record, postWritten_frame]
      generalize groupHanded 7 values s = t at *
      exact ⟨site.hold, site.unlocked, site.fuel complete, site.stood, site.stopping, site.stopped, site.cooling,
        site.unended, fun on no => (site.tried on no).shut, fun tried no gates b => site.begun tried no gates,
        site.faulted⟩
    · rw [groupHanded_idle values plain]
      refine ⟨?_, fun d _ ne => ?_, ?_⟩
      · rw [postWritten_record]
        exact groupInstalled_lost values complete
      · rw [postWritten_record]
        exact (groupInstalled_within g values s).record d (by simpa using ne)
      · apply State.ext_parts <;> simp
  · have led := modes
    rw [modeWriteCompletes_modes write] at led
    refine ⟨_, led, ?_, ?_, modesInstalled_reported complete, ?_, ?_⟩
    · simp [installModes, State.onStore]
    · refine postWritten_last ?_ ?_
      · simp [State.group, installModes, State.onStore]
      · simp [State.stamp]
    · apply State.ext_parts <;> simp
    · rw [groups, groupWriteCompletes, write]
  · exact ⟨by rw [groups, groupWriteCompletes, free], by rw [modes, modeWriteCompletes, free]⟩
end

section
/-! SUPPORT and the statement about integration (R24, R25): the bounds of a string's record. -/

namespace Sys2Proof.Machine

/-! ## Carrying whole cAh (R24) -/

/-- What is left of a sum once its whole cAh are carried, truncated toward zero. -/
theorem carry_rest (sum : Int) :
    let rest := sum - sum.tdiv 36000 * 36000
    rest < 36000 ∧ -36000 < rest ∧ (0 ≤ sum → 0 ≤ rest) ∧ (sum ≤ 0 → rest ≤ 0) := by
  have truncated : sum.tdiv 36000 = sum / 36000 + if 0 ≤ sum ∨ 36000 ∣ sum then 0 else 1 := Int.tdiv_eq_ediv
  dsimp only
  rw [truncated]
  split <;> omega

/-- R24, R25: the three outcomes of an integration. -/
theorem integrate_cases (r : StringRec) (q : Int) :
    let sum := r.residue + q
    let a := (r.account : Int) + sum.tdiv 36000
    (100 * (r.capacity : Int) < a → r.integrate q = { r with account := 100 * r.capacity, residue := 0 }) ∧
      (a < 0 → r.integrate q = { r with account := 0, residue := 0 }) ∧
      (0 ≤ a → a ≤ 100 * (r.capacity : Int) →
        r.integrate q = { r with account := a.toNat, residue := sum - sum.tdiv 36000 * 36000 }) := by
  have amax : (r.amax : Int) = 100 * (r.capacity : Int) := by simp [StringRec.amax]
  refine ⟨fun full => ?_, fun empty => ?_, fun low high => ?_⟩
  · exact if_pos (by omega)
  · exact (if_neg (by omega)).trans (if_pos empty)
  · exact (if_neg (by omega)).trans (if_neg (by omega))

theorem bounded_of_whole {r : StringRec} (account : r.account ≤ 100 * r.capacity) (residue : r.residue = 0) :
    r.Bounded :=
  ⟨account, by rw [residue]; decide, by rw [residue]; decide⟩

/-- R25: an account is bounded once it has been integrated. -/
theorem integrate_bounded (r : StringRec) (q : Int) : (r.integrate q).Bounded := by
  obtain ⟨full, empty, within⟩ := integrate_cases r q
  obtain ⟨below, above, -⟩ := carry_rest (r.residue + q)
  by_cases fills : 100 * (r.capacity : Int) < (r.account : Int) + (r.residue + q).tdiv 36000
  · rw [full fills]
    exact bounded_of_whole (le_refl _) rfl
  · by_cases empties : (r.account : Int) + (r.residue + q).tdiv 36000 < 0
    · rw [empty empties]
      exact bounded_of_whole (Nat.zero_le _) rfl
    · rw [within (by omega) (by omega)]
      exact ⟨by simp only; omega, above, below⟩

end Sys2Proof.Machine

open Sys2Proof Sys2Proof.Machine

/-- Settles O17: what is left of the sum, then the three outcomes. -/
theorem integrationCarriesAndClamps : Obligations.IntegrationCarriesAndClamps := by
  intro r q _ _
  obtain ⟨below, above, pos, neg⟩ := carry_rest (r.residue + q)
  obtain ⟨full, empty, within⟩ := integrate_cases r q
  refine ⟨below, above, pos, neg, full, empty, fun low high => ?_⟩
  rw [within low high]
  exact ⟨Int.toNat_of_nonneg low, rfl, by simp only [Int.toNat_of_nonneg low]; ring⟩
end

section
/-! SUPPORT. Relations that everything the generator controller does keeps, and what a change of the plant mode leaves of
the account unit's records (R39, R40, R69). -/

namespace Sys2Proof.Machine

/-! ## Relations closed under the generator controller's work -/

/-- A preorder of states that holds along the writes of the generator controller and of the calendar, along posts and
reports, and along a move of the feed: so it holds along everything the generator controller does. -/
structure FeedClosed (R : State → State → Prop) : Prop where
  refl : ∀ s, R s s
  trans : ∀ {s t u}, R s t → R t u → R s u
  gen : ∀ f s, R s (s.onGen f)
  cal : ∀ f s, R s (s.onCal f)
  report : ∀ c v s, R s (report c v s)
  post : ∀ kind subject value s, R s (post kind subject value s)
  fed : ∀ s, R s (feedMoved s)

namespace FeedClosed

variable {R : State → State → Prop}

theorem ite (_h : FeedClosed R) {s t u : State} (p : Prop) [Decidable p] (ht : R s t) (hu : R s u) :
    R s (if p then t else u) := by
  split
  · exact ht
  · exact hu

/-- A branch taken or not. -/
theorem ifThen (h : FeedClosed R) {s t : State} (p : Prop) [Decidable p] (ht : R s t) : R s (if p then t else s) :=
  h.ite p ht (h.refl s)

theorem reportLockout (h : FeedClosed R) (s : State) : R s (reportLockout s) :=
  h.trans (h.trans (h.trans (h.report _ _ s) (h.report _ _ _)) (h.report _ _ _)) (h.report _ _ _)

theorem reportFuel (h : FeedClosed R) (s : State) : R s (reportFuel s) := h.trans (h.report _ _ s) (h.report _ _ _)

theorem genEnter (h : FeedClosed R) (new : GenState) (s : State) : R s (genEnter new s) := by
  rw [genEnter_eq]
  exact h.trans (h.trans (h.trans (h.gen _ s) (h.ite _ (h.refl _) (h.fed _))) (h.report _ _ _)) (h.reportLockout _)

/-! ### Exercises -/

theorem exerciseMissed (h : FeedClosed R) (s : State) : R s (exerciseMissed s) :=
  h.trans (h.trans (h.cal _ s) (h.gen _ _)) (h.report _ _ _)

theorem exerciseServed (h : FeedClosed R) (s : State) : R s (exerciseServed s) :=
  h.trans (h.cal _ s) (h.ite _ (h.refl _) (h.trans (h.trans (h.cal _ _) (h.gen _ _)) (h.report _ _ _)))

theorem exerciseReturned (h : FeedClosed R) (s : State) : R s (exerciseReturned s) :=
  h.trans (h.cal _ s) (h.ifThen _ (h.exerciseMissed _))

theorem windowClosed (h : FeedClosed R) (s : State) : R s (windowClosed s) := h.ifThen _ (h.exerciseMissed s)

/-! ### Runs begin and end -/

theorem enterCranking (h : FeedClosed R) (s : State) : R s (enterCranking s) :=
  h.ite _ (h.genEnter _ s) (h.trans (h.trans (h.gen _ s) (h.gen _ _)) (h.genEnter _ _))

theorem enterPriming (h : FeedClosed R) (s : State) : R s (enterPriming s) :=
  h.trans (h.genEnter .priming s) (h.ifThen _ (h.enterCranking _))

theorem beginRun (h : FeedClosed R) (basis : Basis) (opening : Option Basis) (load : Bool) (duration : Option Nat)
    (s : State) : R s (beginRun basis opening load duration s) :=
  h.trans (h.trans (h.gen _ s) (h.ifThen _ (h.cal _ _))) (h.trans (h.post _ _ _ _) (h.enterPriming _))

theorem beginCause (h : FeedClosed R) (b : Basis) (s : State) : R s (beginCause b s) := by
  cases b with
  | exercise => exact h.ite _ (h.beginRun _ _ _ _ s) (h.beginRun _ _ _ _ s)
  | _ => exact h.beginRun _ _ _ _ s

theorem evaluateStart (h : FeedClosed R) (s : State) : R s (evaluateStart s) := by
  refine h.ifThen _ ?_
  split
  · exact h.beginCause _ s
  · exact h.refl s

theorem closeRun (h : FeedClosed R) (final : GenState) (s : State) : R s (closeRun final s) := by
  unfold Machine.closeRun
  split
  · exact h.genEnter final s
  · refine h.trans (h.trans ?_ (h.ifThen _ (h.exerciseReturned _))) (h.evaluateStart _)
    exact h.trans (h.trans (h.trans (h.gen _ s) (h.post _ _ _ _)) (h.gen _ _)) (h.genEnter final _)

theorem enterStopping (h : FeedClosed R) (s : State) : R s (enterStopping s) :=
  h.trans (h.genEnter .stopping s) (h.ite _ (h.refl _) (h.closeRun _ _))

theorem enterCooldown (h : FeedClosed R) (s : State) : R s (enterCooldown s) :=
  h.trans (h.genEnter .cooldown s) (h.ifThen _ (h.enterStopping _))

theorem endRun (h : FeedClosed R) (reason : StopReason) (s : State) : R s (endRun reason s) := by
  cases machine : s.gen.machine <;> simp only [Machine.endRun, machine]
  case priming | cranking | crankRest | warmup => exact h.trans (h.gen _ s) (h.enterStopping _)
  case online | offload => exact h.trans (h.gen _ s) (h.enterCooldown _)
  case idle | cooldown | stopping | failed => exact h.refl s

/-- A failed attempt and an engine that has not stopped alike: the reasons are written and the run closes FAILED. -/
theorem failed (h : FeedClosed R) (reason : StopReason) (f : Gen → Gen) (s : State) :
    R s (Machine.closeRun .failed ((setStop reason s).onGen f)) :=
  h.trans (h.trans (h.gen _ s) (h.gen f _)) (h.closeRun _ _)

theorem engineFails (h : FeedClosed R) (reason : StopReason) (fail : FailReason) (s : State) :
    R s (engineFails reason fail s) :=
  h.trans (h.trans (h.gen _ s) (h.trans (h.gen _ _) (h.reportLockout _))) (h.enterStopping _)

theorem takeEngineFault (h : FeedClosed R) (s : State) : R s (takeEngineFault s) := h.ifThen _ (h.engineFails _ _ s)

theorem attemptFailed (h : FeedClosed R) (s : State) : R s (attemptFailed s) :=
  h.ite _ (h.genEnter _ s) (h.failed _ _ s)

/-! ### Carrying the plant -/

theorem retakeLoad (h : FeedClosed R) (s : State) : R s (retakeLoad s) := by
  unfold Machine.retakeLoad
  split
  · exact h.refl s
  · exact h.ifThen _ (h.genEnter _ s)

theorem warmupEnds (h : FeedClosed R) (s : State) : R s (warmupEnds s) := by
  unfold Machine.warmupEnds
  split
  · exact h.refl s
  · exact h.trans (h.trans (h.trans (h.gen _ s) (h.gen _ _)) (h.ifThen _ (h.exerciseServed _))) (h.genEnter _ _)

theorem genAcChanged (h : FeedClosed R) (s : State) : R s (genAcChanged s) := by
  refine h.ite _ ?_ ?_
  · cases s.gen.machine
    case cranking | crankRest => exact h.genEnter .warmup s
    all_goals exact h.refl s
  · cases s.gen.machine
    case warmup => exact h.attemptFailed s
    case online | offload => exact h.engineFails _ _ s
    case cooldown => exact h.enterStopping s
    case stopping => exact h.closeRun _ s
    all_goals exact h.refl s

theorem convertExercise (h : FeedClosed R) (s : State) : R s (convertExercise s) := by
  unfold Machine.convertExercise
  split
  · exact h.refl s
  · exact h.ifThen _ (h.trans (h.gen _ s) (h.gen _ _))

theorem genMainsChanged (h : FeedClosed R) (s : State) : R s (genMainsChanged s) :=
  h.ite _ (h.trans (h.gen _ s) (h.retakeLoad _)) (h.trans (h.trans (h.gen _ s) (h.convertExercise _)) (h.retakeLoad _))

/-! ### Stop conditions and the measurement event -/

theorem stopRun (h : FeedClosed R) (reason : StopReason) (r : Run) (s : State) : R s (stopRun reason r s) :=
  h.trans (h.ifThen _ (h.gen _ s)) (h.endRun reason _)

theorem stopTest (h : FeedClosed R) (s : State) : R s (stopTest s) := by
  unfold Machine.stopTest
  split
  · exact h.refl s
  · split
    · exact h.stopRun _ _ s
    · exact h.refl s

theorem stopInFlight (h : FeedClosed R) (reason : StopReason) (s : State) : R s (stopInFlight reason s) := by
  unfold Machine.stopInFlight
  split
  · exact h.stopRun _ _ s
  · exact h.refl s

theorem leaveFailed (h : FeedClosed R) (s : State) : R s (leaveFailed s) :=
  h.trans (h.trans (h.gen _ s) (h.genEnter .idle _)) (h.evaluateStart _)

theorem crankExpired (h : FeedClosed R) (s : State) : R s (crankExpired s) := h.ite _ (h.refl s) (h.attemptFailed s)

theorem stopExpired (h : FeedClosed R) (s : State) : R s (stopExpired s) := h.ifThen _ (h.failed _ _ s)

theorem genTimed (h : FeedClosed R) (s : State) : R s (genTimed s) := by
  cases machine : s.gen.machine <;> simp only [Machine.genTimed, machine]
  case idle => exact h.refl s
  case priming | crankRest => exact h.ifThen _ (h.enterCranking s)
  case cranking => exact h.ifThen _ (h.crankExpired s)
  case warmup => exact h.ite _ (h.takeEngineFault s) (h.ifThen _ (h.warmupEnds s))
  case online | offload => exact h.ite _ (h.takeEngineFault s) (h.stopTest s)
  case cooldown => exact h.ite _ (h.takeEngineFault s) (h.ifThen _ (h.enterStopping s))
  case stopping => exact h.ifThen _ (h.stopExpired s)
  case failed => exact h.ifThen _ (h.leaveFailed s)

theorem genFuel (h : FeedClosed R) (s : State) : R s (genFuel s) :=
  h.trans (h.trans (h.gen _ s) (h.reportFuel _)) (h.ifThen _ (h.endRun _ _))

theorem genFitted (h : FeedClosed R) (s : State) : R s (genFitted s) :=
  h.ifThen _ (h.ite _ (h.leaveFailed s) (h.endRun _ s))

theorem genEvent (h : FeedClosed R) (s : State) : R s (genEvent s) :=
  h.trans (h.trans (h.trans (h.trans (h.gen _ s) (h.genFuel _)) (h.genFitted _)) (h.genTimed _)) (h.evaluateStart _)

/-! ### Requests, exercises handed and expiries -/

theorem startManual (h : FeedClosed R) (load : Bool) (minutes : Nat) (s : State) : R s (startManual load minutes s) := by
  have converted (u : State) : R u (convertManual load minutes u) :=
    h.trans (h.trans (h.gen _ u) (h.gen _ _)) (h.retakeLoad _)
  refine h.trans (h.gen (fun g => { g with stopHold := none }) s) ?_
  cases machine : s.gen.machine <;> simp only [Machine.startManual, State.onGen_gen, machine]
  case idle => exact h.beginRun _ _ _ _ _
  case failed => exact h.trans (h.gen _ _) (h.beginRun _ _ _ _ _)
  case cooldown | stopping => exact h.refl _
  all_goals exact converted _

theorem serveGenStart (h : FeedClosed R) (minutes loadFlag : Nat) (s : State) :
    R s (serveGenStart minutes loadFlag s).1 := by
  unfold Machine.serveGenStart
  split
  · exact h.refl s
  · split
    · exact h.refl s
    · exact h.startManual _ _ s

theorem serveGenStop (h : FeedClosed R) (s : State) : R s (serveGenStop s).1 := by
  unfold Machine.serveGenStop
  split
  · exact h.trans (h.trans (h.gen _ s) (h.endRun .manualStop _)) (h.ifThen _ (h.evaluateStart _))
  · exact h.refl s

theorem takeExercise (h : FeedClosed R) (s : State) : R s (takeExercise s) :=
  h.ite _ (h.cal _ s) (h.trans (h.trans (h.gen _ s) (h.cal _ _)) (h.evaluateStart _))

theorem dueTest (h : FeedClosed R) (s : State) : R s (dueTest s) := h.ifThen _ (h.trans (h.cal _ s) (h.takeExercise _))

theorem calendarEvent (h : FeedClosed R) (s : State) : R s (calendarEvent s) :=
  h.ifThen _ (h.trans (h.cal _ s) (h.ite _ (h.refl _) (h.takeExercise _)))

theorem inhibitChanged (h : FeedClosed R) (s : State) : R s (inhibitChanged s) :=
  h.ite _ (h.endRun _ s) (h.evaluateStart s)

/-- The gates are evaluated after the generator controller has written of itself. -/
theorem evaluated (h : FeedClosed R) (f : Gen → Gen) (s : State) : R s (Machine.evaluateStart (s.onGen f)) :=
  h.trans (h.gen f s) (h.evaluateStart _)

theorem armFaults (h : FeedClosed R) (s : State) : R s (armFaults s) :=
  h.trans (h.gen _ s) (h.ifThen _ (h.takeEngineFault _))

theorem warmupTimeReached (h : FeedClosed R) (s : State) : R s (warmupTimeReached s) :=
  h.trans (h.gen _ s) (h.ite _ (h.takeEngineFault _) (h.warmupEnds _))

end FeedClosed

end Sys2Proof.Machine
end

section
/-! SUPPORT. The accounts stay bounded (R24 to R26, R35, R36, R43) along the account unit's operations, the charge
controller's and the generator controller's. -/

namespace Sys2Proof.Machine

/-! ## Bounded records -/

/-- R36, R43: a fresh record is bounded by an initial charge of at most 100 %. -/
theorem freshString_bounded (capacity : Nat) {initial : Nat} (legal : initial ≤ 100) :
    (freshString capacity initial).Bounded := by
  refine bounded_of_whole ?_ rfl
  refine Nat.div_le_of_le_mul ?_
  calc 100 * capacity * initial ≤ 100 * capacity * 100 := Nat.mul_le_mul_left _ legal
    _ = 100 * (100 * capacity) := Nat.mul_comm _ _

theorem recapacity_bounded (r : StringRec) (capacity : Nat) : (r.recapacity capacity).Bounded :=
  bounded_of_whole (min_le_right _ _) rfl

/-- R35, R36. -/
theorem refitString_bounded {fits : Bool} {capacity initial : Nat} {o : Option StringRec} (legal : initial ≤ 100)
    (held : ∀ q, o = some q → q.Bounded) {r : StringRec} (h : refitString fits capacity initial o = some r) :
    r.Bounded := by
  cases o with
  | none =>
    obtain ⟨-, rfl⟩ : fits = true ∧ freshString capacity initial = r := by simpa [refitString] using h
    exact freshString_bounded capacity legal
  | some q =>
    obtain ⟨-, rfl⟩ : fits = true ∧ (if q.capacity = capacity then q else q.recapacity capacity) = r := by
      simpa [refitString] using h
    split
    · exact held q rfl
    · exact recapacity_bounded q capacity

/-- R23 to R30. -/
theorem integrateString_bounded (s : State) (i : Nat) {r : StringRec} (h : r.Bounded) :
    (integrateString s i r).Bounded := by
  unfold integrateString
  split
  · exact h
  · split
    · exact h
    · exact integrate_bounded _ _
  · split
    · exact h
    · exact integrate_bounded _ _
  all_goals exact h

theorem countDelivered_bounded (s : State) (i : Nat) {r : StringRec} (h : r.Bounded) :
    (countDelivered s i r).Bounded := by
  unfold countDelivered
  split <;> exact h

/-- A record of the state is one of the four. -/
theorem stringRec_mem {s : State} {n : Nat} {r : StringRec} (held : s.stringRec n = some r) :
    some r ∈ s.acct.strings := by
  have there : n < s.acct.strings.length := by
    by_contra outside
    simp [State.stringRec, List.getD_eq_getElem?_getD, List.getElem?_eq_none (Nat.le_of_not_lt outside)] at held
  rw [← held, State.stringRec, List.getD_eq_getElem _ _ there]
  exact List.getElem_mem there

/-! ## Steps that keep the accounts bounded -/

/-- From `s` to `t` bounded accounts stay bounded. -/
structure AccountStep (s t : State) : Prop where
  bounded : s.AccountsBounded → t.AccountsBounded

theorem AccountStep.refl (s : State) : AccountStep s s := ⟨id⟩

theorem AccountStep.trans {s t u : State} (h : AccountStep s t) (k : AccountStep t u) : AccountStep s u :=
  ⟨k.bounded ∘ h.bounded⟩

theorem AccountStep.ite {s t u : State} (p : Prop) [Decidable p] (ht : p → AccountStep s t)
    (hu : ¬ p → AccountStep s u) : AccountStep s (if p then t else u) := by
  split
  · exact ht ‹_›
  · exact hu ‹_›

theorem AccountStep.foldl {α : Type} (f : State → α → State) (l : List α) (s : State)
    (h : ∀ s a, AccountStep s (f s a)) : AccountStep s (l.foldl f s) := by
  induction l generalizing s with
  | nil => exact .refl s
  | cons a l ih => exact (h s a).trans (ih (f s a))

theorem initialChargeBounded_congr {s t : State} (work : t.store.work = s.store.work)
    (latched : t.store.latched = s.store.latched) (images : t.store.images = s.store.images)
    (write : t.store.write = s.store.write) : t.InitialChargeBounded ↔ s.InitialChargeBounded := by
  simp only [State.InitialChargeBounded, work, latched, images, write]

/-- What leaves the records and the group 0 that can come into force keeps them bounded. -/
theorem AccountStep.of_eq {s t : State}
    (h : t.acct.strings = s.acct.strings ∧ t.store.work = s.store.work ∧ t.store.latched = s.store.latched ∧
      t.store.images = s.store.images ∧ t.store.write = s.store.write) : AccountStep s t := by
  obtain ⟨strings, work, latched, images, write⟩ := h
  exact ⟨fun ⟨charge, records⟩ => ⟨(initialChargeBounded_congr work latched images write).2 charge, by rwa [strings]⟩⟩

/-- What leaves the records keeps them bounded with an initial charge that is. -/
theorem AccountStep.of_charge {s t : State} (strings : t.acct.strings = s.acct.strings)
    (charge : s.InitialChargeBounded → t.InitialChargeBounded) : AccountStep s t :=
  ⟨fun ⟨legal, records⟩ => ⟨charge legal, by rwa [strings]⟩⟩

/-- New records, each bounded where the old ones are. -/
theorem AccountStep.of_strings {s : State} (new : Nat → Option StringRec)
    (h : s.AccountsBounded → ∀ i r, new i = some r → r.Bounded) :
    AccountStep s (s.onAcct fun a => { a with strings := (List.range 4).map new }) where
  bounded before := by
    refine ⟨before.1, fun r mem => ?_⟩
    obtain ⟨i, -, is⟩ := List.mem_map.1 mem
    exact h before i r is

theorem mapStrings_accountStep {f : Nat → StringRec → StringRec} (h : ∀ i r, r.Bounded → (f i r).Bounded) (s : State) :
    AccountStep s (mapStrings f s) := by
  refine .of_strings _ fun ⟨_, records⟩ i r is => ?_
  obtain ⟨q, held, rfl⟩ := Option.map_eq_some_iff.1 is
  exact h i q (records q (stringRec_mem held))

/-! ## The account unit (R22 to R43) -/

/-- The initial charge in force is legal. -/
theorem inForce_initialCharge {s : State} (h : s.InitialChargeBounded) : s.inForce 0 16 ≤ 100 := h.2.2.1

theorem refitStrings_accountStep (s : State) : AccountStep s (refitStrings s) :=
  .of_strings _ fun ⟨charge, records⟩ _ _ is =>
    refitString_bounded (inForce_initialCharge charge) (fun q held => records q (stringRec_mem held)) is

theorem coldStrings_accountStep (s : State) : AccountStep s (coldStrings s) := by
  refine .of_strings _ fun ⟨charge, _⟩ i r is => ?_
  obtain ⟨-, rfl⟩ : i < s.stringsFitted ∧ freshString (s.inForce 0 (10 + i)) (s.inForce 0 16) = r := by simpa using is
  exact freshString_bounded _ (inForce_initialCharge charge)

theorem accountIntegrate_accountStep (s : State) : AccountStep s (accountIntegrate s) := by
  have counted (u : State) : AccountStep u (mapStrings (countDelivered u) u) :=
    mapStrings_accountStep (fun i _ => countDelivered_bounded u i) u
  have integrated (u : State) : AccountStep u (mapStrings (integrateString u) u) :=
    mapStrings_accountStep (fun i _ => integrateString_bounded u i) u
  have taken (u : State) : AccountStep u (u.onAcct fun a => { a with taken := true }) := .of_eq (by simp)
  unfold accountIntegrate
  exact .ite _ (fun _ => .refl s) fun _ =>
    (((refitStrings_accountStep s).trans (integrated _)).trans (.ite _ (fun _ => counted _) fun _ => .refl _)).trans (taken _)

theorem accountReport_accountStep (s : State) : AccountStep s (accountReport s) := .of_eq (by simp)

/-- R34: a full account is a whole one. -/
theorem fullCharge_accountStep (s : State) : AccountStep s (fullCharge s) := by
  refine (accountIntegrate_accountStep s).trans (mapStrings_accountStep (fun i r h => ?_) _)
  split
  · exact bounded_of_whole (le_refl _) rfl
  · exact h

theorem beginCounts_accountStep (s : State) : AccountStep s (beginCounts s) :=
  mapStrings_accountStep (f := fun _ r => { r with baseline := some r.account, delivered := some 0 }) (fun _ _ h => h) s

theorem clearCounts_accountStep (s : State) : AccountStep s (clearCounts s) :=
  mapStrings_accountStep (f := fun _ r => { r with baseline := none, delivered := none }) (fun _ _ h => h) s

theorem writeResults_accountStep (outcome : TestOutcome) (target minutes : Nat) (s : State) :
    AccountStep s (writeResults outcome target minutes s) :=
  mapStrings_accountStep (f := fun _ r => r.close outcome target minutes s.stamp) (fun _ _ h => h) s

theorem makeUnsync_accountStep (n : Nat) (s : State) : AccountStep s (makeUnsync n s) :=
  mapStrings_accountStep (fun i r h => by split <;> exact h) s

/-! ## The charge controller (R48 to R50, R66 to R69) -/

theorem changeStage_accountStep (new : Stage) (s : State) : AccountStep s (changeStage new s) := .of_eq (by simp)

theorem recomputeIbl_accountStep (s : State) : AccountStep s (recomputeIbl s) := .of_eq (by simp)

theorem endTest_accountStep (outcome : TestOutcome) (next : Stage) (s : State) : AccountStep s (endTest outcome next s) := by
  unfold endTest
  split
  · exact .refl s
  · next t _ => exact (writeResults_accountStep outcome t.target (t.elapsed / 60) s).trans (.of_eq (by simp))

theorem chargeModeChange_accountStep (old : Mode) (s : State) : AccountStep s (chargeModeChange old s) := by
  have discharged : AccountStep s (recomputeIbl (changeStage .discharge (endTest .aborted .discharge (suspendEqualize s)))) :=
    (AccountStep.trans (.of_eq (by simp)) (endTest_accountStep .aborted .discharge (suspendEqualize s))).trans (.of_eq (by simp))
  have entered (new : Stage) : AccountStep s (recomputeIbl (changeStage new s)) := .of_eq (by simp)
  unfold chargeModeChange
  split
  · exact discharged
  · exact discharged
  · split
    · exact entered _
    · exact entered _
    all_goals exact recomputeIbl_accountStep s
  · split
    · exact entered _
    · exact entered _
    · exact recomputeIbl_accountStep s
    · split
      · exact .of_eq (by simp)
      · exact (endTest_accountStep _ _ s).trans (recomputeIbl_accountStep _)
      all_goals exact recomputeIbl_accountStep s

theorem actOnMode_accountStep (old : Sup) (s : State) : AccountStep s (actOnMode old s) := by
  have charged : AccountStep s (if s.sup.mode = old.mode then s else chargeModeChange old.mode s) :=
    .ite _ (fun _ => .refl s) fun _ => chargeModeChange_accountStep _ s
  refine charged.trans ?_
  exact .of_eq (by simp [actOnMode])

theorem rederive_accountStep (s : State) : AccountStep s (rederive s) :=
  AccountStep.trans (t := supervise s) (.of_eq (by simp)) (actOnMode_accountStep s.sup _)

theorem feedMoved_accountStep (s : State) : AccountStep s (feedMoved s) := by
  have moved : AccountStep s (s.onRect fun r => { r with settle := 0 }) := .of_eq (by simp)
  refine (moved.trans (rederive_accountStep _)).trans ?_
  exact .of_eq (by simp [feedMoved])

/-- Everything the generator controller does keeps the accounts bounded. -/
theorem accountStep_closed : FeedClosed AccountStep where
  refl := .refl
  trans := .trans
  gen f s := .of_eq (by simp)
  cal f s := .of_eq (by simp)
  report c v s := .of_eq (by simp)
  post kind subject value s := .of_eq (by simp)
  fed := feedMoved_accountStep

end Sys2Proof.Machine
end

section
/-! SUPPORT. The initial charge stays legal along the setting store's operations (R184, R191 to R194), and the accounts
stay bounded along what a completed write brings. -/

namespace Sys2Proof.Machine

/-! ## An accepted write (R191, R193) -/

/-- The value of an index after a run is applied: the old one, one of the run at its index, or none. -/
theorem applyRun_getD (old values : List Nat) {first i : Nat} (within : first + values.length ≤ i + 1) :
    (applyRun old first values).getD i 0 = old.getD i 0 ∨ (applyRun old first values).getD i 0 = 0 ∨
      ∃ j, j < values.length ∧ first + j = i ∧ (applyRun old first values).getD i 0 = values.getD j 0 := by
  have taken : (old.take first).length = min first old.length := List.length_take
  simp only [applyRun, List.getD_eq_getElem?_getD, List.getElem?_append, List.length_append, taken]
  by_cases short : old.length < first
  · have past : ¬ i < min first old.length + values.length := by omega
    have dropped : old.drop (first + values.length) = [] := List.drop_eq_nil_of_le (by omega)
    exact .inr (.inl (by simp [past, dropped]))
  · have start : min first old.length = first := by omega
    rw [start]
    by_cases inRun : first ≤ i ∧ i < first + values.length
    · refine .inr (.inr ⟨i - first, by omega, by omega, ?_⟩)
      rw [if_pos inRun.2, if_neg (by omega)]
    · refine .inl ?_
      by_cases before : i < first
      · rw [if_pos (by omega), if_pos before, List.getElem?_take_of_lt before]
      · rw [if_neg (by omega), List.getElem?_drop]
        exact congrArg (fun n => (old[n]?).getD 0) (by omega)

/-- R191 step 5: no index of the run is out of range. -/
theorem settingInRange_of_run {s : State} {g first : Nat} {values : List Nat}
    (h : badRangeIndex s g first values = none) {j : Nat} (hj : j < values.length) :
    settingInRange (s.now 0 14) g (first + j) (values.getD j 0) = true := by
  have checked := List.findSome?_eq_none_iff.1 h j (List.mem_range.2 hj)
  by_contra out
  exact absurd checked (by rw [if_neg out]; exact Option.some_ne_none _)

/-- R191: a run within group 0 that is in range leaves the initial charge legal. -/
theorem applyRun_legal {s : State} {first : Nat} {values : List Nat} (legal : InitialChargeLegal (s.group 0))
    (within : first + values.length ≤ groupSize 0) (range : badRangeIndex s 0 first values = none) :
    InitialChargeLegal (applyRun (s.group 0) first values) := by
  rcases applyRun_getD (s.group 0) values (i := 16) within with old | zero | ⟨j, hj, place, value⟩
  · rw [InitialChargeLegal, old]
    exact legal
  · rw [InitialChargeLegal, zero]
    decide
  · have checked := settingInRange_of_run range hj
    rw [place] at checked
    have row : (settingTable.getD 0 []).getD 16 default = ⟨10, 100, 70, false⟩ := rfl
    rw [InitialChargeLegal, value]
    generalize values.getD j 0 = v at checked ⊢
    simp only [settingInRange, row] at checked
    obtain ⟨-, high⟩ : 10 ≤ v ∧ v ≤ 100 := by simpa using checked
    exact high

/-- R193: the values of a write come into force with its completion, and with no start before it. -/
theorem beginGroupWrite_accountStep (g : Nat) (new : List Nat) (s : State)
    (legal : s.InitialChargeBounded → g = 0 → InitialChargeLegal new) : AccountStep s (beginGroupWrite g new s) := by
  refine .of_charge rfl fun charge => ?_
  have accepted := legal charge
  obtain ⟨groups, work, latched, images, -⟩ := charge
  refine ⟨groups, work, latched, fun m image good => ?_, fun values write => ?_⟩
  · by_cases first : g = 0
    · have spoilt : m.good = false := by
        obtain ⟨-, rfl⟩ : 0 < s.store.images.length ∧ ({ values := new, good := false } : Image) = m := by
          simpa [beginGroupWrite, State.onStore, first, List.getElem?_set] using image
        rfl
      exact absurd good (by simp [spoilt])
    · refine images m ?_ good
      rw [← image]
      simp [beginGroupWrite, State.onStore, first]
  · obtain ⟨rfl, rfl⟩ : g = 0 ∧ new = values := by simpa [beginGroupWrite, State.onStore] using write
    exact accepted rfl

theorem serveWrite_accountStep (g first count : Nat) (values : List Nat) (s : State) :
    AccountStep s (serveWrite g first count values s).1 := by
  by_cases short : count = 0 ∨ 40 < count ∨ values.length ≠ count
  · rw [serveWrite, if_pos short]
    exact .refl s
  by_cases named : 7 < g
  · rw [serveWrite, if_neg short, if_pos named]
    exact .refl s
  by_cases outside : groupSize g < first + count
  · rw [serveWrite, if_neg short, if_neg named, if_pos outside]
    exact .refl s
  by_cases busy : s.store.write.isSome = true
  · rw [serveWrite, if_neg short, if_neg named, if_neg outside, if_pos busy]
    exact .refl s
  rw [serveWrite, if_neg short, if_neg named, if_neg outside, if_neg busy]
  unfold judgeWrite
  split
  · exact .refl s
  · split
    · exact .refl s
    · next range =>
      split
      · exact .refl s
      · refine beginGroupWrite_accountStep g _ s fun charge identity => ?_
        subst identity
        exact applyRun_legal charge.2.1 (by omega) range

/-! ## A write that completes (R190, R194) -/

/-- R194: the values of the write in flight come into force. -/
theorem groupInstalled_accountStep {g : Nat} {values : List Nat} {s : State}
    (write : s.store.write = some (.group g values)) : AccountStep s (groupInstalled g values s) := by
  refine .of_charge (by simp) fun ⟨groups, work, latched, images, inFlight⟩ => ?_
  have legal (identity : g = 0) : InitialChargeLegal values := inFlight values (by rw [write, identity])
  simp only [State.InitialChargeBounded, groupInstalled_store]
  refine ⟨by simpa using groups, ?_, latched, fun m image good => ?_, fun _ none_ => by simp at none_⟩
  · by_cases identity : g = 0
    · subst identity
      simpa [List.getD_eq_getElem?_getD, groups] using legal rfl
    · simpa [List.getD_eq_getElem?_getD, identity] using work
  · by_cases identity : g = 0
    · obtain ⟨-, rfl⟩ : 0 < s.store.images.length ∧ ({ values := values, good := true } : Image) = m := by
        simpa [identity, List.getElem?_set] using image
      exact legal identity
    · exact images m (by simpa [identity] using image) good

end Sys2Proof.Machine
end

section
/-! SUPPORT. The accounts stay bounded along the contactors, the qualification of mains, the site inputs, a completed
write, the measurement event, the clock and the starts. -/

namespace Sys2Proof.Machine

/-! ## The charge controller's turn at a measurement event, part by part -/

/-- R46, R60: the temperatures are formed, and a new equalize interval is looked at. -/
def tempsFormed (s : State) : State :=
  if (formTemps s).store.fresh.contains 1 then intervalTest (formTemps s) else formTemps s

/-- R47: Tb is at or above the stop temperature. -/
def isHot (s : State) : Bool := decide ((s.inForce 1 7 : Int) ≤ (tempsFormed s).charge.tb)

/-- R47: Tb is at least 5 degrees below the stop temperature. -/
def isCool (s : State) : Bool := decide ((tempsFormed s).charge.tb ≤ (s.inForce 1 7 : Int) - 50)

/-- R47: the latch is newly set by this event. -/
def newlyHot (s : State) : Bool := isHot s && !s.charge.latch

/-- R47: the latch is newly clear by this event. -/
def newlyCool (s : State) : Bool := isCool s && s.charge.latch

/-- R47: the latch stands as this event leaves it. -/
def latchFormed (s : State) : State :=
  (tempsFormed s).onCharge fun c =>
    { c with latch := isHot s || (c.latch && !isCool s), armed := c.armed && !newlyHot s }

/-- R68: a test goes on, or ends for a fitted string that is UNSYNC. -/
def testKept (s : State) : State := recomputeSetpoint (abortIfUnsync (latchFormed s))

@[simp] theorem tempsFormed_frame (s : State) :
    (tempsFormed s).powered = s.powered ∧ (tempsFormed s).markerGood = s.markerGood ∧
    (tempsFormed s).meas = s.meas ∧ (tempsFormed s).sup = s.sup ∧ (tempsFormed s).acct = s.acct ∧
    (tempsFormed s).prot = s.prot ∧ (tempsFormed s).rect = s.rect ∧ (tempsFormed s).bus = s.bus ∧
    (tempsFormed s).gen = s.gen ∧ (tempsFormed s).cal = s.cal ∧ (tempsFormed s).store = s.store ∧
    (tempsFormed s).link = s.link := by
  unfold tempsFormed
  split <;> simp

theorem intervalTest_charge (s : State) : ∃ eq, (intervalTest s).charge = { s.charge with eq := eq } := by
  unfold intervalTest
  split
  · exact ⟨_, rfl⟩
  · exact ⟨s.charge.eq, rfl⟩

/-- R46: the temperatures formed, all but the equalize record stands. -/
theorem tempsFormed_charge (s : State) : ∃ eq, (tempsFormed s).charge =
    { s.charge with
      tb := (warmest s).getD (s.inForce 1 6), tc := compTemp ((warmest s).getD (s.inForce 1 6)), eq := eq } := by
  have formed : (formTemps s).charge = { s.charge with
      tb := (warmest s).getD (s.inForce 1 6), tc := compTemp ((warmest s).getD (s.inForce 1 6)) } := by
    simp [formTemps]
  unfold tempsFormed
  split
  · obtain ⟨eq, tested⟩ := intervalTest_charge (formTemps s)
    exact ⟨eq, by rw [tested, formed]⟩
  · exact ⟨s.charge.eq, formed⟩

@[simp] theorem tempsFormed_stands (s : State) :
    (tempsFormed s).charge.stage = s.charge.stage ∧ (tempsFormed s).charge.test = s.charge.test ∧
      (tempsFormed s).charge.latch = s.charge.latch := by
  obtain ⟨eq, h⟩ := tempsFormed_charge s
  simp [h]

@[simp] theorem latchFormed_frame (s : State) :
    (latchFormed s).powered = s.powered ∧ (latchFormed s).markerGood = s.markerGood ∧
    (latchFormed s).meas = s.meas ∧ (latchFormed s).sup = s.sup ∧ (latchFormed s).acct = s.acct ∧
    (latchFormed s).prot = s.prot ∧ (latchFormed s).rect = s.rect ∧ (latchFormed s).bus = s.bus ∧
    (latchFormed s).gen = s.gen ∧ (latchFormed s).cal = s.cal ∧ (latchFormed s).store = s.store ∧
    (latchFormed s).link = s.link := by
  simp [latchFormed]

/-- The turn is the temperatures, the latch, the test, the stage's own work where the test did not move it, and Ibl. -/
theorem chargeEvent_eq (s : State) : chargeEvent s = reportCapacityLow (reportOverdue (recomputeIbl
    (if (testKept s).charge.stage = s.charge.stage then stageWork (newlyHot s) (newlyCool s) (testKept s)
      else testKept s))) := by
  have stage : (tempsFormed s).charge.stage = s.charge.stage := (tempsFormed_stands s).1
  have latch : (tempsFormed s).charge.latch = s.charge.latch := (tempsFormed_stands s).2.2
  have force : (tempsFormed s).inForce 1 7 = s.inForce 1 7 := by simp [State.inForce]
  simp only [testKept, latchFormed, newlyHot, newlyCool, isHot, isCool, ← stage, ← latch, ← force]
  rfl

/-! ## The contactors (R79, R81) -/

theorem openBpd_accountStep (s : State) : AccountStep s (openBpd s) :=
  AccountStep.trans (.of_eq (by simp)) (rederive_accountStep _)

theorem closeBpd_accountStep (s : State) : AccountStep s (closeBpd s) :=
  AccountStep.trans (.of_eq (by simp)) (rederive_accountStep _)

theorem disconnectWork_accountStep (s : State) : AccountStep s (disconnectWork s) := by
  unfold disconnectWork
  exact .ite _ (fun _ => .ite _ (fun _ => openBpd_accountStep s) fun _ => .of_eq (by simp)) fun _ => .of_eq (by simp)

theorem reconnectWork_accountStep (s : State) : AccountStep s (reconnectWork s) := by
  unfold reconnectWork
  exact .ite _ (fun _ => .ite _ (fun _ => closeBpd_accountStep s) fun _ => .of_eq (by simp)) fun _ => .of_eq (by simp)

theorem protectionEvent_accountStep (s : State) : AccountStep s (protectionEvent s) := by
  have nel : AccountStep s (if s.prot.nel = .opened then nelWork s else shedWork s) :=
    .ite _ (fun _ => .of_eq (by simp)) fun _ => .of_eq (by simp)
  have reported (u : State) : AccountStep u (reportBus (dischargeWork u)) := .of_eq (by simp)
  have bpd (u : State) : AccountStep u (if s.prot.bpd = .opened then reconnectWork u else disconnectWork u) :=
    .ite _ (fun _ => reconnectWork_accountStep u) fun _ => disconnectWork_accountStep u
  exact (nel.trans (bpd _)).trans (reported _)

/-! ## Mains and the generator's AC (R9, R10) -/

theorem setMains_accountStep (qualified : Bool) (s : State) : AccountStep s (setMains qualified s) := by
  have supervised : AccountStep s (report alMainsFail (!qualified) (mainsSupervised qualified s)) :=
    .of_eq (by simp [mainsSupervised])
  rw [setMains_eq]
  exact (supervised.trans (actOnMode_accountStep s.sup _)).trans (accountStep_closed.genMainsChanged _)

theorem mainsReturns_accountStep (s : State) : AccountStep s (mainsReturns s) :=
  .ite _ (fun _ => setMains_accountStep true s) fun _ => .refl s

theorem mainsFails_accountStep (s : State) : AccountStep s (mainsFails s) :=
  .ite _ (fun _ => setMains_accountStep false s) fun _ => .refl s

theorem genQualifies_accountStep (s : State) : AccountStep s (genQualifies s) :=
  .ite _ (fun _ => AccountStep.trans (.of_eq (by simp)) (accountStep_closed.genAcChanged _)) fun _ => .refl s

/-! ## The hold and the site inputs (R11 to R14, R21) -/

theorem endHold_accountStep (s : State) : AccountStep s (endHold s) :=
  .ite _ (fun _ => AccountStep.trans (.of_eq (by simp)) (accountStep_closed.evaluateStart _)) fun _ => .refl s

theorem relock_accountStep (s : State) : AccountStep s (relock s) := .of_eq (by simp [relock])

theorem relockKeyed_accountStep (s : State) : AccountStep s (relockKeyed s) := by
  unfold relockKeyed
  split
  · exact .ite _ (fun _ => relock_accountStep s) fun _ => .refl _
  · exact .refl _

theorem keyWithdrawn_accountStep (s : State) : AccountStep s (keyWithdrawn s) := by
  have held : AccountStep s (if s.sup.hold.any fun h => h.cause == .key then endHold s else s) :=
    .ite _ (fun _ => endHold_accountStep s) fun _ => .refl s
  exact held.trans (relockKeyed_accountStep _)

theorem handFunction_accountStep (f : Nat) (s : State) : AccountStep s (handFunction f s) := by
  unfold handFunction
  exact .ite _ (fun _ => .ite _ (fun _ => .of_eq (by simp)) fun _ => keyWithdrawn_accountStep s) fun _ =>
    .ite _ (fun _ => accountStep_closed.inhibitChanged s) fun _ =>
    .ite _ (fun _ => .ite _ (fun _ => accountStep_closed.takeEngineFault s) fun _ => .refl s) fun _ =>
    .ite _ (fun _ => accountStep_closed.reportFuel s) fun _ => .refl s

theorem inputQualifies_accountStep (n : Nat) (s : State) : AccountStep s (inputQualifies n s) := by
  have qualified : AccountStep s (inputQualified n s) := .of_eq (by simp)
  rw [inputQualifies_eq]
  exact qualified.trans (.ite _ (fun _ => .refl _) fun _ => handFunction_accountStep _ _)

theorem persistenceExpires_accountStep (n : Nat) (s : State) : AccountStep s (persistenceExpires n s) :=
  .ite _ (fun _ => inputQualifies_accountStep n s) fun _ => .refl s

/-! ## Completed store writes (R190, R194) -/

theorem mainsDelaysChanged_accountStep (old s : State) : AccountStep s (mainsDelaysChanged old s) := by
  unfold mainsDelaysChanged
  exact .ite _ (fun _ => mainsReturns_accountStep s) fun _ => .ite _ (fun _ => mainsFails_accountStep s) fun _ => .refl s

theorem inputSettings_accountStep (old s : State) : AccountStep s (inputSettings old s) := by
  have reported : AccountStep s (functionReports old (repolarise s)) := .of_eq (by simp)
  have persisted (u : State) (n : Nat) : AccountStep u (persistenceChanged old n u) :=
    .ite _ (fun _ => inputQualifies_accountStep n u) fun _ => .refl u
  exact (reported.trans (.foldl _ _ _ fun u f => handFunction_accountStep f u)).trans (.foldl _ _ _ persisted)

theorem handGroup_accountStep (g : Nat) (old s : State) : AccountStep s (handGroup g old s) := by
  unfold handGroup
  exact .ite _ (fun _ => .of_eq (by simp)) fun _ => .ite _ (fun _ => mainsDelaysChanged_accountStep old s) fun _ =>
    .ite _ (fun _ => .of_eq (by simp)) fun _ => .ite _ (fun _ => .of_eq (by simp)) fun _ =>
    .ite _ (fun _ => inputSettings_accountStep old s) fun _ => .refl s

theorem groupWriteCompletes_accountStep (s : State) : AccountStep s (groupWriteCompletes s) := by
  cases write : s.store.write with
  | none => rw [groupWriteCompletes, write]; exact .refl s
  | some w =>
    cases w with
    | modeTable g mode => rw [groupWriteCompletes, write]; exact .refl s
    | group g values =>
      rw [groupWriteCompletes_group write]
      refine ((groupInstalled_accountStep write).trans (handGroup_accountStep g s _)).trans ?_
      exact .of_eq (by simp [postWritten])

/-- R190: the mode table is no group. -/
theorem modeWriteCompletes_accountStep (s : State) : AccountStep s (modeWriteCompletes s) := by
  unfold modeWriteCompletes
  split
  · refine .of_charge (by simp [postWritten]) fun ⟨groups, work, latched, images, _⟩ => ?_
    exact ⟨by simpa [postWritten, installModes] using groups, by simpa [postWritten, installModes] using work,
      by simpa [postWritten, installModes] using latched, by simpa [postWritten, installModes] using images,
      by simp [postWritten, installModes]⟩
  · exact .refl s
  · exact .refl s

/-! ## The measurement event (R3, R22) -/

/-- R22: the completed writes come into force with the event. -/
theorem raiseEvent_accountStep (r : Readings) (s : State) : AccountStep s (raiseEvent r s) :=
  .of_charge (by simp [raiseEvent]) fun ⟨groups, work, _, images, write⟩ => ⟨groups, work, work, images, write⟩

theorem judgeTest_accountStep (s : State) : AccountStep s (judgeTest s) := by
  unfold judgeTest
  split
  · exact .refl s
  · have counted (t : TestRec) : AccountStep s (s.onCharge fun c => { c with test := some t }) := .of_eq (by simp)
    exact (counted _).trans
      (.ite _ (fun _ => endTest_accountStep _ _ _) fun _ => .ite _ (fun _ => endTest_accountStep _ _ _) fun _ => .refl _)

theorem abortIfUnsync_accountStep (s : State) : AccountStep s (abortIfUnsync s) :=
  .ite _ (fun _ => endTest_accountStep _ _ s) fun _ => .refl s

theorem accountEvent_accountStep (s : State) : AccountStep s (accountEvent s) :=
  ((accountIntegrate_accountStep s).trans (judgeTest_accountStep _)).trans (accountReport_accountStep _)

/-- R34: at the exit by the tail the accounts are full. -/
theorem tailExit_accountStep (s : State) : AccountStep s (tailExit s) := by
  refine (fullCharge_accountStep s).trans ?_
  exact .of_eq (by simp [tailExit])

theorem stageWork_accountStep (hot cooled : Bool) (s : State) : AccountStep s (stageWork hot cooled s) := by
  have stands (u : State) (acct : u.acct = s.acct) (store : u.store = s.store) : AccountStep s u :=
    .of_eq (by simp [acct, store])
  cases stage : s.charge.stage <;> simp only [stageWork, stage]
  case absorb =>
    exact .ite _ (fun _ => tailExit_accountStep s) fun _ => stands _ (by simp) (by simp)
  all_goals exact stands _ (by simp) (by simp)

theorem chargeEvent_accountStep (s : State) : AccountStep s (chargeEvent s) := by
  have latched : AccountStep s (latchFormed s) := .of_eq (by simp)
  have judged : AccountStep s (testKept s) := by
    refine (latched.trans (abortIfUnsync_accountStep _)).trans ?_
    exact .of_eq (by simp [testKept])
  have worked (u : State) : AccountStep u (if u.charge.stage = s.charge.stage then
      stageWork (newlyHot s) (newlyCool s) u else u) := .ite _ (fun _ => stageWork_accountStep _ _ u) fun _ => .refl u
  rw [chargeEvent_eq]
  refine (judged.trans (worked _)).trans ?_
  exact .of_eq (by simp)

theorem storeEvent_accountStep (s : State) : AccountStep s (storeEvent s) := by
  have kept := (storeEvent_kept s).store
  exact .of_eq ⟨by simp, by rw [kept], by rw [kept], by rw [kept], by rw [kept]⟩

theorem blockEvent_accountStep (b : Block) (s : State) : AccountStep s (blockEvent b s) := by
  cases b with
  | account => exact accountEvent_accountStep s
  | charge => exact chargeEvent_accountStep s
  | protection => exact protectionEvent_accountStep s
  | generator => exact accountStep_closed.genEvent s
  | calendar => exact accountStep_closed.calendarEvent s
  | store => exact storeEvent_accountStep s
  | _ => exact .of_eq (by simp [blockEvent])

theorem measurementEvent_accountStep (r : Readings) (order : List Block) (s : State) :
    AccountStep s (measurementEvent r order s) := by
  have seen (u : State) : AccountStep u (u.onStore fun x => { x with fresh := [] }) := .of_eq (by simp)
  exact ((raiseEvent_accountStep r s).trans (.foldl _ _ _ fun u b => blockEvent_accountStep b u)).trans (seen _)

end Sys2Proof.Machine
end

section
/-! SUPPORT and the statement about the accounts: every command keeps them bounded (R22, R24, R25, R35, R36, R43). -/

namespace Sys2Proof.Machine

/-! ## The clock (R153 to R157) -/

theorem timeCarried_accountStep (was : Bool) (s : State) : AccountStep s (timeCarried was s) := by
  have tested : AccountStep s (clockTest was s) := .of_eq (by simp)
  have bounded (u : State) : AccountStep u (boundaryTest u) := .of_eq (by simp)
  exact (tested.trans (bounded _)).trans (accountStep_closed.dueTest _)

theorem poweredTick_accountStep (s : State) : AccountStep s (poweredTick s) := by
  have ticked : AccountStep s (s.onCal fun c => c.tick.windowTick) := .of_eq (by simp)
  exact (ticked.trans (accountStep_closed.windowClosed _)).trans (timeCarried_accountStep _ _)

theorem serveAlign_accountStep (s : State) : AccountStep s (serveAlign s).1 := by
  unfold serveAlign
  split
  · split
    · exact .of_eq (by simp)
    · have aligned (f : Cal → Cal) : AccountStep s (s.onCal f) := .of_eq (by simp)
      exact (aligned _).trans (timeCarried_accountStep _ _)
  · exact .refl s

/-! ## Starts (R1, R37, R41 to R43, R184) -/

theorem storeStart_size (x : Store) : x.start.work.length = 8 := by
  have loaded := load_damagedAtDefaults x
  rw [storeStart_work]
  exact ((loaded.resolve (a := 1) (b := 2) (by omega) (by omega) (by omega)).resolve (a := 0) (b := 3) (by omega)
    (by omega) (by omega)).groups

theorem resolve_images (a b : Nat) (x : Store) : (x.resolve a b).images = x.images := by
  unfold Store.resolve Store.spoil
  dsimp only
  (repeat' split) <;> rfl

theorem loadModes_images (x : Store) : x.loadModes.images = x.images := by
  unfold Store.loadModes
  (repeat' split) <;> rfl

theorem storeStart_images (x : Store) : x.start.images = x.images := by
  have loaded : x.start.images = ((x.load.resolve 1 2).resolve 0 3).loadModes.images := rfl
  rw [loaded, loadModes_images, resolve_images, resolve_images]
  rfl

/-- R184: a start loads group 0 from a good image, or with its defaults. -/
theorem storeStart_initialCharge {s : State} (charge : s.InitialChargeBounded) :
    InitialChargeLegal (s.store.start.work.getD 0 []) := by
  have factory : InitialChargeLegal (groupDefaults 0) := by
    unfold InitialChargeLegal
    decide
  obtain ⟨-, -, -, images, -⟩ := charge
  by_cases disordered : s.store.Disordered 0
  · rw [((storeStart_group s.store 0 (by omega)).1 disordered).1]
    exact factory
  · rw [((storeStart_group s.store 0 (by omega)).2 disordered).1, Store.verified]
    cases image : (s.store.images[0]?).filter Image.good with
    | none => exact factory
    | some m =>
      obtain ⟨found, good⟩ := Option.filter_eq_some_iff.1 image
      exact images m found good

theorem supplyStarted_accountStep (blank : Bool) (p : Pins) (s : State) : AccountStep s (supplyStarted blank p s) := by
  have acct : (supplyStarted blank p s).acct = s.acct := by simp [supplyStarted, rosterStarted]
  have store : (supplyStarted blank p s).store = s.store.start := by simp
  refine .of_charge (congrArg Acct.strings acct) fun charge => ?_
  have legal := storeStart_initialCharge charge
  simp only [State.InitialChargeBounded, store]
  refine ⟨storeStart_size _, legal, legal, by rw [storeStart_images]; exact charge.2.2.2.1, fun values write => ?_⟩
  simp [Store.start] at write

theorem acctStart_accountStep (cold : Bool) (s : State) : AccountStep s (acctStart cold s) := by
  have records : AccountStep s (if cold then coldStrings s else refitStrings (clearCounts s)) :=
    .ite _ (fun _ => coldStrings_accountStep s) fun _ => (clearCounts_accountStep s).trans (refitStrings_accountStep _)
  refine records.trans ?_
  exact .of_eq (by simp [acctStart])

theorem makeStart_accountStep (cause : StartCause) (blank : Bool) (p : Pins) (s : State) :
    AccountStep s (makeStart cause blank p s) := by
  refine ((supplyStarted_accountStep blank p s).trans (acctStart_accountStep (!s.markerGood) _)).trans ?_
  exact .of_eq (by simp [batteryStarted])

/-! ## Requests -/

theorem serveTestStart_accountStep (target : Nat) (s : State) : AccountStep s (serveTestStart target s).1 := by
  unfold serveTestStart
  split
  · exact .refl s
  · split
    · have accepted (f : Charge → Charge) : AccountStep s (s.onCharge f) := .of_eq (by simp)
      exact ((accepted _).trans (beginCounts_accountStep _)).trans (changeStage_accountStep _ _)
    · exact .refl s

theorem serveTestAbort_accountStep (s : State) : AccountStep s (serveTestAbort s).1 := by
  unfold serveTestAbort
  split
  · exact endTest_accountStep _ _ s
  · exact .refl s

/-- R190: a LOCK GROUP relocks, seals, or begins the write of the mode table, none of which is a group's. -/
theorem serveLock_accountStep (g : Nat) (s : State) (act : State → Served) (h : AccountStep s (act s).1) :
    AccountStep s (serveLock g s act).1 := by
  unfold serveLock
  split
  · exact .refl s
  · split
    · exact .refl s
    · exact h

theorem relockGroup_accountStep (g : Nat) (s : State) : AccountStep s (relockGroup g s) :=
  .ite _ (fun _ => relock_accountStep s) fun _ => .refl s

theorem beginModeWrite_accountStep (g : Nat) (mode : ProtectMode) (s : State) : AccountStep s (beginModeWrite g mode s) :=
  .of_charge rfl fun ⟨groups, work, latched, images, _⟩ =>
    ⟨groups, work, latched, images, fun _ write => by simp [beginModeWrite, State.onStore] at write⟩

theorem serveMode_accountStep (g : Nat) (mode : ProtectMode) (s : State) : AccountStep s (serveMode g mode s).1 := by
  refine serveLock_accountStep g s _ ?_
  split
  · split
    · exact relock_accountStep s
    · exact (relock_accountStep s).trans (beginModeWrite_accountStep g mode _)
  · exact .refl s

theorem serveUnlock_accountStep (g : Nat) (signature : Half) (s : State) : AccountStep s (serveUnlock g signature s).1 := by
  have unlocked (u : State) (f : Option Nat) : AccountStep u (u.onStore fun x => { x with unlocked := f, idle := 0 }) :=
    .of_eq (by simp)
  have judged (u : State) : AccountStep u (judgeUnlock g signature u).1 := by
    unfold judgeUnlock
    split
    · exact .refl u
    · split
      · exact .refl u
      · exact unlocked u _
  unfold serveUnlock
  split
  · exact .refl s
  · split
    · exact .refl s
    · exact (relock_accountStep s).trans (judged _)

theorem beginHold_accountStep (cause : HoldCause) (minutes : Nat) (s : State) : AccountStep s (beginHold cause minutes s) :=
  .of_eq (by simp)

theorem serveRequest_accountStep (i : Instr) (s : State) : AccountStep s (serveRequest i s).1 := by
  cases i
  case nextNotice source => exact .of_eq (t := (serveNotice source s).1) (by simp)
  case snapshot => exact .of_eq (t := (serveSnapshot s).1) (by simp)
  case setClock year month day hour minute second =>
    exact .of_eq (t := (serveSetClock year.toNat month.toNat day.toNat hour.toNat minute.toNat second.toNat s).1) (by simp)
  case alignClock => exact serveAlign_accountStep s
  case ackAlarm form selector => exact .of_eq (t := (serveAck form selector s).1) (by simp)
  case resetLatch => exact .of_eq (t := (serveResetLatch s).1) (by simp)
  case hold => exact beginHold_accountStep _ _ s
  case release => exact endHold_accountStep s
  case genStart => exact accountStep_closed.serveGenStart _ _ s
  case genStop => exact accountStep_closed.serveGenStop s
  case equalizeStart => exact .of_eq (t := (serveEqualizeStart s).1) (by simp)
  case equalizeStop => exact .of_eq (t := (serveEqualizeStop s).1) (by simp)
  case capacityTestStart => exact serveTestStart_accountStep _ s
  case capacityTestAbort => exact serveTestAbort_accountStep s
  case rectifierLockout slot => exact .of_eq (t := (serveLockout slot.toNat s).1) (by simp)
  case rectifierRestore slot => exact .of_eq (t := (serveRestore slot.toNat s).1) (by simp)
  case rotateNow => exact .of_eq (t := (serveRotateNow s).1) (by simp)
  case unlock group signature => exact serveUnlock_accountStep group.toNat signature s
  case lockGroupRelock group => exact serveLock_accountStep _ s _ (relockGroup_accountStep _ s)
  case lockGroupSeal group =>
    exact serveLock_accountStep _ s _ ((relockGroup_accountStep group.toNat s).trans (.of_eq (by simp)))
  case lockGroupMode group mode => exact serveMode_accountStep group.toNat mode s
  case writeSettings group first count values => exact serveWrite_accountStep _ _ _ _ s
  case restart => exact .of_eq (t := (serveRestart s).1) (by simp)
  all_goals exact .refl s

theorem takeRequest_accountStep (kind : Byte) (serve : State → Served) (s : State) (h : AccountStep s (serve s).1) :
    AccountStep s (takeRequest kind serve s) :=
  h.trans (.of_eq (t := holdAnswer kind (serve s).2 (serve s).1) ⟨rfl, rfl, rfl, rfl, rfl⟩)

theorem runCloses_accountStep (s : State) : AccountStep s (runCloses s) := by
  unfold runCloses
  refine .ite _ (fun _ => .ite _ (fun _ => ?_) fun _ => .of_eq (by simp)) fun _ => .refl s
  unfold takeFrame
  dsimp only
  split
  · exact takeRequest_accountStep _ _ s (serveRequest_accountStep _ s)
  · exact takeRequest_accountStep _ _ s (.refl s)

/-! ## Commands -/

/-- A command that acts while the supply stands. -/
theorem whenPowered_accountStep {s t : State} {f : State → State} (h : whenPowered s f = .next t)
    (step : AccountStep s (f s)) : AccountStep s t := by
  obtain rfl : (if s.powered then f s else s) = t := Host.Outcome.next.inj h
  exact .ite _ (fun _ => step) fun _ => .refl s

/-- A count's expiry that acts when it is due. -/
theorem onExpiry_accountStep {s t : State} {isDue : State → Bool} {f : State → State} (h : onExpiry s isDue f = .next t)
    (step : AccountStep s (f s)) : AccountStep s t :=
  whenPowered_accountStep h (.ite _ (fun _ => step) fun _ => .refl s)

theorem onRequest_accountStep {s t : State} {kind : Byte} {i : Instr} (h : onRequest kind i s = .next t) : AccountStep s t := by
  have discarded : AccountStep s (discardByte s) := .of_eq (by simp)
  exact whenPowered_accountStep h (.ite _ (fun _ => takeRequest_accountStep _ _ s (serveRequest_accountStep i s)) fun _ => discarded)

theorem channelExpires_accountStep (i : Nat) (s : State) : AccountStep s (channelExpires i s) := by
  refine .ite _ (fun _ => ?_) fun _ => .refl s
  have lost : AccountStep s (report (alStringFault + i) true
      (onChannel i (fun c => { c with reading := 0, validity := .unusable, held := 10 }) s)) := .of_eq (by simp)
  exact ((lost.trans (makeUnsync_accountStep i _)).trans (accountReport_accountStep _)).trans (abortIfUnsync_accountStep _)

/-- R193: a loss of supply cuts short the write in flight. -/
theorem loseSupply_accountStep (s : State) : AccountStep s (loseSupply s) :=
  .of_charge rfl fun ⟨groups, work, latched, images, _⟩ =>
    ⟨groups, work, latched, images, fun _ write => by simp [loseSupply, State.onStore] at write⟩

/-- What every command does. -/
theorem exec_accountStep (i : Instr) {s t : State} (h : exec i s = .next t) : AccountStep s t := by
  have closed := accountStep_closed
  cases i
  case powerReturnStart p =>
    obtain rfl := Host.Outcome.next.inj h
    exact (loseSupply_accountStep s).trans (makeStart_accountStep _ _ _ _)
  case resetPinStart p => exact whenPowered_accountStep h (makeStart_accountStep _ _ _ s)
  case restartWarmStart p => exact whenPowered_accountStep h (.ite _ (fun _ => makeStart_accountStep _ _ _ s) fun _ => .refl s)
  case plantSupplyLoss => exact whenPowered_accountStep h (loseSupply_accountStep s)
  case backupCellFailure =>
    obtain rfl := Host.Outcome.next.inj h
    exact .ite _ (fun _ => .refl s) fun _ => .of_eq ⟨rfl, rfl, rfl, rfl, rfl⟩
  case measurementEvent r order => exact whenPowered_accountStep h (measurementEvent_accountStep r order s)
  case stringChannelUnusable i => exact whenPowered_accountStep h (channelExpires_accountStep i s)
  case mainsReturnTimerExpiry => exact whenPowered_accountStep h (mainsReturns_accountStep s)
  case mainsFailTimerExpiry => exact whenPowered_accountStep h (mainsFails_accountStep s)
  case genAcQualified => exact whenPowered_accountStep h (genQualifies_accountStep s)
  case persistenceExpiry n => exact whenPowered_accountStep h (persistenceExpires_accountStep n s)
  case holdExpiry => exact whenPowered_accountStep h (endHold_accountStep s)
  case tailExit => exact onExpiry_accountStep h (tailExit_accountStep s)
  case batteryDisconnect => exact onExpiry_accountStep h (openBpd_accountStep s)
  case bpdReconnect => exact onExpiry_accountStep h (closeBpd_accountStep s)
  case primeTimeExpiry => exact onExpiry_accountStep h (closed.enterCranking s)
  case crankRestExpiry => exact onExpiry_accountStep h (closed.enterCranking s)
  case crankMaximumExpiry => exact onExpiry_accountStep h (closed.crankExpired s)
  case warmupFaultArm => exact onExpiry_accountStep h (closed.armFaults s)
  case warmupEnd => exact onExpiry_accountStep h (closed.warmupTimeReached s)
  case mainsFailStartDelay | busStartQualified | restCountComplete | manualStopHoldExpiry =>
    exact whenPowered_accountStep h (.ite _ (fun _ => closed.evaluated _ s) fun _ => .refl s)
  case maxRun => exact onExpiry_accountStep h (closed.stopInFlight .maxRun s)
  case duration => exact whenPowered_accountStep h (.ite _ (fun _ => closed.stopInFlight _ s) fun _ => .refl s)
  case cooldownExpiry => exact onExpiry_accountStep h (closed.enterStopping s)
  case stopConfirmExpiry => exact onExpiry_accountStep h (closed.stopExpired s)
  case rearmExpiry => exact onExpiry_accountStep h (closed.leaveFailed s)
  case calendarTick =>
    obtain rfl := Host.Outcome.next.inj h
    exact .ite _ (fun _ => poweredTick_accountStep s) fun _ => .of_eq (by simp)
  case windowClose =>
    exact whenPowered_accountStep h (.ite _ (fun _ => closed.trans (closed.cal _ s) (closed.windowClosed _)) fun _ => .refl s)
  case storeWriteComplete => exact whenPowered_accountStep h (groupWriteCompletes_accountStep s)
  case modeTableWriteComplete => exact whenPowered_accountStep h (modeWriteCompletes_accountStep s)
  case runClose => exact whenPowered_accountStep h (runCloses_accountStep s)
  case thermistorFallback | mainsSenseChange | genSenseChange | siteInputLevelChange =>
    exact whenPowered_accountStep h (.of_eq (by simp))
  case absorbEntry | absorbTimerExpiry | equalizeComplete | shedDelayExpiry | nelReconnect
      | startTimeout | faultRecovery | swapOverlapExpiry =>
    exact onExpiry_accountStep h (.of_eq (by simp))
  case dischargeCountExpiry => exact onExpiry_accountStep h (.of_eq (by simp [dischargeFull]))
  case rotationDue =>
    refine whenPowered_accountStep h (.ite _ (fun _ => ?_) fun _ => .refl s)
    exact .of_eq ⟨rfl, rfl, rfl, rfl, rfl⟩
  case qualificationCountExpiry c =>
    refine whenPowered_accountStep h (.ite _ (fun _ => ?_) fun _ => .refl s)
    exact .ite _ (fun _ => .of_eq (by simp)) fun _ => .ite _ (fun _ => .of_eq (by simp)) fun _ => .refl s
  case idleCountExpiry => exact onExpiry_accountStep h (relock_accountStep s)
  case commandSent | replyWindowExpiry | replyGapTimeout | trailingBytes | moduleReplyByte | statusFrame
      | turnaroundEnd | lampHalfPeriod | linkByteDiscard | linkByteBegins | replyBegin | replyEnd | deafIdleExpiry
      | snapshotDrop =>
    exact whenPowered_accountStep h (.of_eq (by simp))
  all_goals exact onRequest_accountStep h

end Sys2Proof.Machine

open Sys2Proof Sys2Proof.Machine

/-- Settles O8: an empty queue leaves the state, and every command is an `AccountStep`. -/
theorem stepsKeepTheAccountsBounded : Obligations.StepsKeepTheAccountsBounded := by
  intro s t bounded h
  have step : AccountStep s t := by
    cases queue : s.pending with
    | nil =>
      rw [step_nil s queue] at h
      exact Host.Outcome.next.inj h ▸ AccountStep.refl s
    | cons c rest =>
      rw [step_cons s c rest queue] at h
      exact AccountStep.trans (t := { s with pending := rest }) ⟨id⟩ (exec_accountStep c h)
  exact step.bounded bounded
end

section
/-! SUPPORT and the statement about the accounts at a start (R35, R36, R41 to R43): each place's record under the
operations of the account unit that bring the records to the settings in force. -/

namespace Sys2Proof.Machine

/-! ## The record of one place -/

theorem refitStrings_stringRec (s : State) {i : Nat} (hi : i < 4) : (refitStrings s).stringRec i =
    refitString (decide (i < s.stringsFitted)) (s.inForce 0 (10 + i)) (s.inForce 0 16) (s.stringRec i) := by
  simp [refitStrings, State.stringRec, State.onAcct, hi]

theorem coldStrings_stringRec (s : State) {i : Nat} (hi : i < 4) : (coldStrings s).stringRec i =
    if i < s.stringsFitted then some (freshString (s.inForce 0 (10 + i)) (s.inForce 0 16)) else none := by
  simp [coldStrings, State.stringRec, State.onAcct, hi]

/-- R36, R42: a place above the strings fitted has no record. -/
theorem refitString_unfitted (capacity initial : Nat) (o : Option StringRec) :
    refitString false capacity initial o = none := by
  cases o <;> rfl

/-- R35, R42: a fitted string's record, of the capacity in force or of another. -/
theorem refitString_kept (capacity initial : Nat) (r : StringRec) :
    refitString true capacity initial (some r) =
      some (if r.capacity = capacity then r else r.recapacity capacity) := rfl

/-! ## The records after a start -/

theorem acctStart_stringRec (cold : Bool) (s : State) {i : Nat} (hi : i < 4) : (acctStart cold s).stringRec i =
    refitString (decide (i < s.stringsFitted)) (s.inForce 0 (10 + i)) (s.inForce 0 16)
      (if cold then none else (s.stringRec i).map fun r => { r with baseline := none, delivered := none }) := by
  have records : (acctStart cold s).stringRec i =
      (if cold then coldStrings s else refitStrings (clearCounts s)).stringRec i := rfl
  have cleared : (clearCounts s).stringRec i =
      (s.stringRec i).map fun r => { r with baseline := none, delivered := none } := mapStrings_stringRec _ s hi
  rw [records]
  cases cold with
  | true =>
    rw [if_pos rfl, coldStrings_stringRec s hi]
    simp [refitString]
  | false =>
    rw [if_neg Bool.false_ne_true, refitStrings_stringRec _ hi, cleared]
    rfl

/-- R35, R41 to R43: a start's records, by the settings that stand after it. -/
theorem makeStart_stringRec (cause : StartCause) (blank : Bool) (p : Pins) (s : State) {i : Nat} (hi : i < 4) :
    let t := makeStart cause blank p s
    t.stringRec i = refitString (decide (i < t.now 0 9)) (t.now 0 (10 + i)) (t.now 0 16)
      (if s.markerGood then (s.stringRec i).map fun r => { r with baseline := none, delivered := none } else none) := by
  have started := acctStart_stringRec (!s.markerGood) (supplyStarted blank p s) hi
  have settings (k : Nat) : (supplyStarted blank p s).inForce 0 k = (makeStart cause blank p s).now 0 k := by
    simp [State.inForce, State.now]
  have before : (supplyStarted blank p s).acct = s.acct := by simp [supplyStarted, rosterStarted]
  have after : (makeStart cause blank p s).acct = (acctStart (!s.markerGood) (supplyStarted blank p s)).acct := by
    simp [batteryStarted]
  rw [stringRec_congr before, State.stringsFitted, settings, settings, settings] at started
  dsimp only
  rw [stringRec_congr after, started]
  cases s.markerGood <;> rfl

end Sys2Proof.Machine

open Sys2Proof Sys2Proof.Machine

/-- Settles O13: all three are `makeStart`, whose records are those of `refitString`, from none after a cold start. -/
theorem startsKeepOrRenewTheAccounts : Obligations.StartsKeepOrRenewTheAccounts := by
  intro p s renewed
  have started (cause : StartCause) (blank : Bool) : renewed (makeStart cause blank p s) := by
    intro i hi
    have record := makeStart_stringRec cause blank p s hi
    generalize makeStart cause blank p s = t at record ⊢
    dsimp only at record
    refine ⟨fun above => ?_, fun fitted renews => ?_, fun fitted warm r held => ?_⟩
    · rw [record, decide_eq_false (Nat.not_lt.2 above), refitString_unfitted]
    · have source : (if s.markerGood then (s.stringRec i).map fun r => { r with baseline := none, delivered := none }
          else none) = (none : Option StringRec) := by
        rcases renews with cold | fresh
        · simp [cold]
        · simp [fresh]
      rw [record, source, decide_eq_true fitted]
      rfl
    · rw [record, decide_eq_true fitted, if_pos warm, held, Option.map_some, refitString_kept]
      dsimp only
      split <;> rfl
  refine ⟨⟨_, rfl, ?_⟩, fun on => ⟨_, whenPowered_on s _ on, started .resetPin false⟩, fun on due reply => ?_⟩
  · rw [makeStart_loseSupply]
    exact started .supplyReturned true
  · have replying : restartReplying s = true := by simp [restartReplying, due, Option.isSome_iff_ne_none, reply]
    exact ⟨makeStart .restart false p s,
      (whenPowered_on s _ on).trans (congrArg Host.Outcome.next (if_pos replying)), started .restart false⟩
end

section
/-! SUPPORT. What the blocks other than the account unit leave of its records: with the stage not ABSORB, no turn at a
measurement event moves an account (R34, R39, R40, R52). -/

namespace Sys2Proof.Machine

/-! ## Steps that leave the accounts -/

/-- From `s` to `t` the accounts stand, and with no test in flight none begins and the records stand whole. -/
structure BooksKept (s t : State) : Prop extends AccountsKept s t where
  marks : t.acct.taken = s.acct.taken ∧ t.acct.halted = s.acct.halted
  idle : s.charge.test = none → t.charge.test = none ∧ t.acct = s.acct

/-- So it is, and ABSORB is not entered. -/
structure BooksQuiet (s t : State) : Prop extends BooksKept s t where
  absorb : s.charge.stage ≠ .absorb → t.charge.stage ≠ .absorb

theorem BooksKept.of_eq {s t : State} (h : t.acct = s.acct ∧ t.charge.test = s.charge.test) : BooksKept s t := by
  obtain ⟨acct, test⟩ := h
  exact ⟨.of_eq acct, by rw [acct]; exact ⟨rfl, rfl⟩, fun none_ => ⟨test.trans none_, acct⟩⟩

theorem BooksKept.trans {s t u : State} (h : BooksKept s t) (k : BooksKept t u) : BooksKept s u where
  toAccountsKept := h.toAccountsKept.trans k.toAccountsKept
  marks := ⟨k.marks.1.trans h.marks.1, k.marks.2.trans h.marks.2⟩
  idle none_ := by
    obtain ⟨test, acct⟩ := h.idle none_
    obtain ⟨test', acct'⟩ := k.idle test
    exact ⟨test', acct'.trans acct⟩

theorem BooksQuiet.of_eq {s t : State}
    (h : t.acct = s.acct ∧ t.charge.test = s.charge.test ∧ t.charge.stage = s.charge.stage) : BooksQuiet s t :=
  ⟨.of_eq ⟨h.1, h.2.1⟩, by rw [h.2.2]; exact id⟩

theorem BooksQuiet.refl (s : State) : BooksQuiet s s := .of_eq ⟨rfl, rfl, rfl⟩

theorem BooksQuiet.trans {s t u : State} (h : BooksQuiet s t) (k : BooksQuiet t u) : BooksQuiet s u :=
  ⟨h.toBooksKept.trans k.toBooksKept, k.absorb ∘ h.absorb⟩

theorem BooksQuiet.ite {s t u : State} (p : Prop) [Decidable p] (ht : BooksQuiet s t) (hu : BooksQuiet s u) :
    BooksQuiet s (if p then t else u) := by
  split
  · exact ht
  · exact hu

/-! ## The charge controller's moves (R45, R47, R50, R68, R69) -/

theorem bulkOrFloat_ne_absorb (s : State) : bulkOrFloat s ≠ .absorb := by
  rw [bulkOrFloat_eq]
  split <;> decide

theorem changeStage_quiet {new : Stage} (ne : new ≠ .absorb) (s : State) : BooksQuiet s (changeStage new s) where
  toBooksKept := .of_eq (by simp)
  absorb _ := by rwa [changeStage_stage]

theorem recomputeIbl_quiet (s : State) : BooksQuiet s (recomputeIbl s) := .of_eq (by simp)

theorem endTest_quiet (outcome : TestOutcome) {next : Stage} (ne : next ≠ .absorb) (s : State) :
    BooksQuiet s (endTest outcome next s) := by
  cases test : s.charge.test with
  | none =>
    rw [endTest, test]
    exact .refl s
  | some x =>
    refine ⟨⟨endTest_accounts outcome next s, ?_, fun none_ => by simp [test] at none_⟩, fun _ => ?_⟩
    · simp [endTest, test, writeResults, mapStrings]
    · rw [(endTest_charge outcome next s).2.2, test]
      exact ne

theorem suspendEqualize_quiet (s : State) : BooksQuiet s (suspendEqualize s) := by
  refine .ite _ ?_ (.refl s)
  exact .of_eq (by simp)

theorem chargeModeChange_quiet (old : Mode) (s : State) : BooksQuiet s (chargeModeChange old s) := by
  have entered {new : Stage} (ne : new ≠ .absorb) (u : State) : BooksQuiet u (recomputeIbl (changeStage new u)) :=
    (changeStage_quiet ne u).trans (recomputeIbl_quiet _)
  have discharged : BooksQuiet s (recomputeIbl (changeStage .discharge (endTest .aborted .discharge (suspendEqualize s)))) :=
    ((suspendEqualize_quiet s).trans (endTest_quiet _ (by decide) _)).trans (entered (by decide) _)
  have returned : (if returnTest s then bulkOrFloat s else .float : Stage) ≠ .absorb := by
    split
    · exact bulkOrFloat_ne_absorb s
    · decide
  unfold chargeModeChange
  split
  · exact discharged
  · exact discharged
  · split
    · exact entered returned s
    · exact entered (bulkOrFloat_ne_absorb s) s
    all_goals exact recomputeIbl_quiet s
  · split
    · exact entered returned s
    · exact entered (bulkOrFloat_ne_absorb s) s
    · exact recomputeIbl_quiet s
    · split
      · exact (suspendEqualize_quiet s).trans (entered (by decide) _)
      · exact (endTest_quiet _ (bulkOrFloat_ne_absorb s) s).trans (recomputeIbl_quiet _)
      all_goals exact recomputeIbl_quiet s

theorem rederive_quiet (s : State) : BooksQuiet s (rederive s) := by
  have supervised : BooksQuiet s (supervise s) := .of_eq (by simp)
  have acted (u : State) : BooksQuiet u (if u.sup.mode = s.sup.mode then u else chargeModeChange s.sup.mode u) :=
    .ite _ (.refl u) (chargeModeChange_quiet _ u)
  refine (supervised.trans (acted _)).trans ?_
  exact .of_eq (by simp [rederive, actOnMode])

theorem feedMoved_quiet (s : State) : BooksQuiet s (feedMoved s) := by
  have unsettled : BooksQuiet s (s.onRect fun r => { r with settle := 0 }) := .of_eq (by simp)
  refine (unsettled.trans (rederive_quiet _)).trans ?_
  exact .of_eq (by simp [feedMoved])

/-- Nothing the generator controller does moves an account. -/
theorem booksQuiet_closed : FeedClosed BooksQuiet where
  refl := .refl
  trans := .trans
  gen f s := .of_eq (by simp)
  cal f s := .of_eq (by simp)
  report c v s := .of_eq (by simp)
  post kind subject value s := .of_eq (by simp)
  fed := feedMoved_quiet

/-! ## The turns of a measurement event -/

theorem openBpd_quiet (s : State) : BooksQuiet s (openBpd s) := BooksQuiet.trans (.of_eq (by simp)) (rederive_quiet _)

theorem closeBpd_quiet (s : State) : BooksQuiet s (closeBpd s) := BooksQuiet.trans (.of_eq (by simp)) (rederive_quiet _)

theorem protectionEvent_quiet (s : State) : BooksQuiet s (protectionEvent s) := by
  have nel : BooksQuiet s (if s.prot.nel = .opened then nelWork s else shedWork s) :=
    .ite _ (.of_eq (by simp)) (.of_eq (by simp))
  have closes (u : State) : BooksQuiet u (reconnectWork u) := by
    refine .ite _ (.ite _ (closeBpd_quiet u) ?_) ?_
    all_goals exact .of_eq (by simp)
  have opens (u : State) : BooksQuiet u (disconnectWork u) := by
    refine .ite _ (.ite _ (openBpd_quiet u) ?_) ?_
    all_goals exact .of_eq (by simp)
  have bpd (u : State) : BooksQuiet u (if s.prot.bpd = .opened then reconnectWork u else disconnectWork u) :=
    .ite _ (closes u) (opens u)
  have reported (u : State) : BooksQuiet u (reportBus (dischargeWork u)) := .of_eq (by simp)
  exact (nel.trans (bpd _)).trans (reported _)

theorem judgeTest_quiet (s : State) : BooksQuiet s (judgeTest s) := by
  unfold judgeTest
  split
  · exact .refl s
  · next x test =>
    have counted : BooksQuiet s (s.onCharge fun c => { c with test := some { x with elapsed := x.elapsed + 1 } }) :=
      ⟨⟨.of_eq rfl, ⟨rfl, rfl⟩, fun none_ => by simp [test] at none_⟩, id⟩
    exact counted.trans (.ite _ (endTest_quiet _ (bulkOrFloat_ne_absorb _) _)
      (.ite _ (endTest_quiet _ (bulkOrFloat_ne_absorb _) _) (.refl _)))

theorem abortIfUnsync_quiet (s : State) : BooksQuiet s (abortIfUnsync s) :=
  .ite _ (endTest_quiet _ (bulkOrFloat_ne_absorb s) s) (.refl s)

theorem testKept_quiet (s : State) : BooksQuiet s (testKept s) := by
  have latched : BooksQuiet s (latchFormed s) := .of_eq (by simp [latchFormed])
  refine (latched.trans (abortIfUnsync_quiet _)).trans ?_
  exact .of_eq (by simp [testKept])

theorem equalizeBegin_test (s : State) : (equalizeBegin s).charge.test = s.charge.test := by
  unfold equalizeBegin
  split
  · split <;> simp
  · rfl

theorem bulkWork_test (hot : Bool) (s : State) : (bulkWork hot s).charge.test = s.charge.test := by
  unfold bulkWork
  dsimp only
  (repeat' split) <;> simp

theorem floatWork_test (cooled : Bool) (s : State) : (floatWork cooled s).charge.test = s.charge.test := by
  unfold floatWork
  (repeat' split) <;> simp [equalizeBegin_test]

theorem equalizeWork_test (s : State) : (equalizeWork s).charge.test = s.charge.test := by
  unfold equalizeWork equalizeDone suspendEqualize
  dsimp only
  (repeat' split) <;> simp

/-- Out of ABSORB the stage's own work touches no record. -/
theorem stageWork_books (hot cooled : Bool) {s : State} (ne : s.charge.stage ≠ .absorb) :
    BooksKept s (stageWork hot cooled s) := by
  cases stage : s.charge.stage <;> simp only [stageWork, stage]
  case absorb => exact absurd stage ne
  case bulk => exact .of_eq (by simp [bulkWork_test])
  case float => exact .of_eq (by simp [floatWork_test])
  case equalize => exact .of_eq (by simp [equalizeWork_test])
  case discharge | test => exact (BooksQuiet.refl s).toBooksKept

theorem chargeEvent_books {s : State} (ne : s.charge.stage ≠ .absorb) : BooksKept s (chargeEvent s) := by
  have worked : BooksKept (testKept s) (if (testKept s).charge.stage = s.charge.stage then
      stageWork (newlyHot s) (newlyCool s) (testKept s) else testKept s) := by
    split
    · next same => exact stageWork_books _ _ (by rw [same]; exact ne)
    · exact (BooksQuiet.refl _).toBooksKept
  rw [chargeEvent_eq]
  refine ((testKept_quiet s).toBooksKept.trans worked).trans ?_
  exact .of_eq (by simp)

/-- The other blocks' turns. -/
theorem blockEvent_quiet {b : Block} (notAccount : b ≠ .account) (notCharge : b ≠ .charge) (s : State) :
    BooksQuiet s (blockEvent b s) := by
  cases b with
  | account => exact absurd rfl notAccount
  | charge => exact absurd rfl notCharge
  | protection => exact protectionEvent_quiet s
  | generator => exact booksQuiet_closed.genEvent s
  | calendar => exact booksQuiet_closed.calendarEvent s
  | store => exact .of_eq (by simp [blockEvent])
  | _ => exact .of_eq (by simp [blockEvent])

theorem turns_quiet {turns : List Block} (notAccount : .account ∉ turns) (notCharge : .charge ∉ turns) (s : State) :
    BooksQuiet s (turns.foldl (fun v b => blockEvent b v) s) := by
  induction turns generalizing s with
  | nil => exact .refl s
  | cons b turns ih =>
    simp only [List.mem_cons, not_or] at notAccount notCharge
    exact (blockEvent_quiet (Ne.symm notAccount.1) (Ne.symm notCharge.1) s).trans (ih notAccount.2 notCharge.2 _)

/-- Between the turns of the account unit no account moves, if the charge controller's turn is not still to come in
ABSORB. -/
theorem turns_books {turns : List Block} (once : turns.Nodup) (notAccount : .account ∉ turns) (s : State)
    (stage : .charge ∈ turns → s.charge.stage ≠ .absorb) :
    BooksKept s (turns.foldl (fun v b => blockEvent b v) s) := by
  induction turns generalizing s with
  | nil => exact (BooksQuiet.refl s).toBooksKept
  | cons b turns ih =>
    obtain ⟨gone, once⟩ := List.nodup_cons.1 once
    simp only [List.mem_cons, not_or] at notAccount
    by_cases charge : b = .charge
    · subst charge
      exact (chargeEvent_books (stage List.mem_cons_self)).trans (turns_quiet notAccount.2 gone _).toBooksKept
    · have quiet := blockEvent_quiet (Ne.symm notAccount.1) charge s
      exact quiet.toBooksKept.trans
        (ih once notAccount.2 _ fun later => quiet.absorb (stage (List.mem_cons_of_mem b later)))

end Sys2Proof.Machine
end

section
/-! SUPPORT and the statement about the integration of an event (R22 to R30, R35, R36, R81): each place's record through
the account unit's turn, and through the other turns before and after it. -/

namespace Sys2Proof.Machine

/-! ## The account unit's turn, place by place -/

/-- R22: the record of one place, brought to the settings in force and then integrated. -/
def renewed (s : State) (i : Nat) : Option StringRec :=
  (refitString (decide (i < s.stringsFitted)) (s.inForce 0 (10 + i)) (s.inForce 0 16) (s.stringRec i)).map
    (integrateString s i)

theorem accountIntegrate_taken {s : State} (done : s.acct.taken = true) : accountIntegrate s = s := if_pos done

/-- R22, R39: an event's integration, place by place. -/
theorem accountIntegrate_stringRec {s : State} (due : s.acct.taken = false) {i : Nat} (hi : i < 4) :
    (accountIntegrate s).stringRec i =
      if s.charge.test.isSome then (renewed s i).map (countDelivered s i) else renewed s i := by
  have integrated : (mapStrings (integrateString (refitStrings s)) (refitStrings s)).stringRec i = renewed s i := by
    rw [mapStrings_stringRec _ _ hi, refitStrings_stringRec s hi]
    rfl
  have counted : (accountIntegrate s).stringRec i =
      (if s.charge.test.isSome then
        mapStrings (countDelivered s) (mapStrings (integrateString (refitStrings s)) (refitStrings s))
      else mapStrings (integrateString (refitStrings s)) (refitStrings s)).stringRec i := by
    rw [accountIntegrate, if_neg (by simp [due])]
    rfl
  rw [counted]
  split
  · rw [mapStrings_stringRec _ _ hi, integrated]
  · exact integrated

/-- R39: the test counts are no part of the account. -/
theorem accountIntegrate_account {s : State} (due : s.acct.taken = false) {i : Nat} (hi : i < 4) :
    ((accountIntegrate s).stringRec i).map StringRec.account? = (renewed s i).map StringRec.account? := by
  rw [accountIntegrate_stringRec due hi]
  split
  · rw [Option.map_map]
    refine congrArg (fun f => (renewed s i).map f) (funext fun r => ?_)
    simp only [Function.comp, countDelivered]
    split <;> rfl
  · rfl

/-- R38 to R40: the account unit's turn is its integration, for all but the results of a test. -/
theorem accountEvent_books (s : State) : BooksKept (accountIntegrate s) (accountEvent s) :=
  (judgeTest_quiet _).toBooksKept.trans (.of_eq (by simp [accountEvent]))

/-! ## The records depend on the accounts alone -/

/-- Two records agree in their accounts when they differ in what a test writes. -/
theorem account?_eq_iff (r q : StringRec) : q.account? = r.account? ↔ q =
    { r with
      baseline := q.baseline, delivered := q.delivered, lastTest := q.lastTest, lastHealth := q.lastHealth } := by
  cases r
  cases q
  simp [StringRec.account?]

theorem refitString_account (fits : Bool) (capacity initial : Nat) {o p : Option StringRec}
    (same : p.map StringRec.account? = o.map StringRec.account?) :
    (refitString fits capacity initial p).map StringRec.account? =
      (refitString fits capacity initial o).map StringRec.account? := by
  cases o with
  | none => rw [Option.map_eq_none_iff.1 same]
  | some r =>
    obtain ⟨q, rfl, agree⟩ := Option.map_eq_some_iff.1 same
    rw [(account?_eq_iff r q).1 agree]
    cases fits with
    | false => rfl
    | true =>
      rw [refitString_kept, refitString_kept]
      dsimp only
      split <;> rfl

theorem integrate_account (r q : StringRec) (agree : q.account? = r.account?) (x : Int) :
    (q.integrate x).account? = (r.integrate x).account? := by
  rw [(account?_eq_iff r q).1 agree]
  simp only [StringRec.integrate, apply_ite StringRec.account?]
  rfl

theorem integrateString_account (s : State) (i : Nat) {r q : StringRec} (agree : q.account? = r.account?) :
    (integrateString s i q).account? = (integrateString s i r).account? := by
  have unsynced : ({ q with sync := .unsync } : StringRec).account? = { r with sync := .unsync }.account? := by
    rw [(account?_eq_iff r q).1 agree]
    rfl
  unfold integrateString
  split
  · exact unsynced
  · split
    · exact agree
    · exact integrate_account r q agree _
  · split
    · exact agree
    · exact integrate_account r q agree _
  all_goals exact agree

/-- R81: the event is not integrated. -/
abbrev notIntegrated (s : State) : Prop := s.sup.mode = .protect ∨ s.acct.halted = true

/-- The integration depends on the readings, the settings in force and the mode alone. -/
theorem integrateString_congr {s t : State} (meas : t.meas = s.meas) (latched : t.store.latched = s.store.latched)
    (halted : notIntegrated t ↔ notIntegrated s) : integrateString t = integrateString s := by
  funext i r
  simp only [integrateString, State.stringChannel, State.inForce, meas, latched]
  have same : (if notIntegrated t then r else
      r.integrate (contribution ((s.store.latched.getD 1 []).getD 10 0) (s.meas.strings.getD i blankChannel).reading)) =
      if notIntegrated s then r else
      r.integrate (contribution ((s.store.latched.getD 1 []).getD 10 0) (s.meas.strings.getD i blankChannel).reading) := by
    simp only [halted]
  simp only [notIntegrated] at same
  simp only [same]

theorem renewed_account {s t : State} {i : Nat} (meas : t.meas = s.meas) (latched : t.store.latched = s.store.latched)
    (halted : notIntegrated t ↔ notIntegrated s)
    (same : (t.stringRec i).map StringRec.account? = (s.stringRec i).map StringRec.account?) :
    (renewed t i).map StringRec.account? = (renewed s i).map StringRec.account? := by
  have force : t.inForce = s.inForce := funext₂ fun g k => by simp [State.inForce, latched]
  have agree := refitString_account (decide (i < s.inForce 0 9)) (s.inForce 0 (10 + i)) (s.inForce 0 16) same
  unfold renewed State.stringsFitted
  rw [integrateString_congr meas latched halted, force]
  generalize refitString _ _ _ (t.stringRec i) = p at agree ⊢
  generalize refitString _ _ _ (s.stringRec i) = o at agree ⊢
  cases o with
  | none => rw [Option.map_eq_none_iff.1 agree]
  | some r =>
    obtain ⟨q, rfl, records⟩ := Option.map_eq_some_iff.1 agree
    exact congrArg some (integrateString_account s i records)

theorem renewed_congr {s t : State} {i : Nat} (meas : t.meas = s.meas) (latched : t.store.latched = s.store.latched)
    (halted : notIntegrated t ↔ notIntegrated s) (same : t.acct = s.acct) : renewed t i = renewed s i := by
  have force : t.inForce = s.inForce := funext₂ fun g k => by simp [State.inForce, latched]
  unfold renewed State.stringsFitted
  rw [integrateString_congr meas latched halted, force, stringRec_congr same]

/-! ## The other turns, before and after -/

theorem foldl_nameOnce_prefix (more l : List Block) : ∃ rest, more.foldl nameOnce l = l ++ rest := by
  induction more generalizing l with
  | nil => exact ⟨[], (List.append_nil l).symm⟩
  | cons b more ih =>
    obtain ⟨rest, named⟩ := ih (nameOnce l b)
    rw [List.foldl_cons, named]
    unfold nameOnce
    split
    · exact ⟨rest, rfl⟩
    · exact ⟨b :: rest, by simp⟩

/-- The block that the order names first has the first turn. -/
theorem fullOrder_cons (b : Block) (order : List Block) : ∃ rest, fullOrder (b :: order) = b :: rest :=
  foldl_nameOnce_prefix (order ++ allBlocks) [b]

/-- R22, R34: with the stage not ABSORB, the records after the event are those that the account unit's turn renews. -/
theorem event_renews (r : Readings) {order l₁ l₂ : List Block} {s : State} (stage : s.charge.stage ≠ .absorb)
    (turns : fullOrder order = l₁ ++ .account :: l₂) {i : Nat} (hi : i < 4) :
    let u := l₁.foldl (fun v b => blockEvent b v) (raiseEvent r s)
    let t := measurementEvent r order s
    BooksKept (raiseEvent r s) u ∧ TurnKept (raiseEvent r s) u ∧
      (t.stringRec i).map StringRec.account? = (renewed u i).map StringRec.account? ∧
      (s.charge.test = none → t.stringRec i = renewed u i) := by
  have once := fullOrder_nodup order
  rw [turns] at once
  obtain ⟨before, rest, apart⟩ := List.nodup_append.1 once
  obtain ⟨gone, after⟩ := List.nodup_cons.1 rest
  have charge : (raiseEvent r s).charge = s.charge := by simp
  have first : BooksKept (raiseEvent r s) (l₁.foldl (fun v b => blockEvent b v) (raiseEvent r s)) :=
    turns_books before (fun m => apart _ m _ List.mem_cons_self rfl) _ fun _ => by rwa [charge]
  have quiet (late : .charge ∈ l₂) : BooksQuiet (raiseEvent r s)
      (l₁.foldl (fun v b => blockEvent b v) (raiseEvent r s)) :=
    turns_quiet (fun m => apart _ m _ List.mem_cons_self rfl)
      (fun early => apart _ early _ (List.mem_cons_of_mem _ late) rfl) _
  have led : measurementEvent r order s = (l₂.foldl (fun v b => blockEvent b v)
      (accountEvent (l₁.foldl (fun v b => blockEvent b v) (raiseEvent r s)))).onStore fun x => { x with fresh := [] } := by
    rw [measurementEvent, turns, List.foldl_append]
    rfl
  have kept := turns_kept l₁ (raiseEvent r s)
  dsimp only
  rw [led]
  generalize l₁.foldl (fun v b => blockEvent b v) (raiseEvent r s) = u at first quiet kept ⊢
  have due : u.acct.taken = false := first.marks.1
  have integrated : (accountIntegrate u).charge = u.charge := by simp
  have last : BooksKept (accountEvent u) (l₂.foldl (fun v b => blockEvent b v) (accountEvent u)) := by
    refine turns_books after gone _ fun late => ?_
    have judged := (judgeTest_quiet (accountIntegrate u)).absorb
      (by rw [integrated]; exact (quiet late).absorb (by rwa [charge]))
    simpa [accountEvent] using judged
  have books := (accountEvent_books u).trans last
  refine ⟨first, kept, (books.account i hi).trans (accountIntegrate_account due hi), fun idle => ?_⟩
  have none_ : u.charge.test = none := (first.idle (by rw [charge]; exact idle)).1
  obtain ⟨-, acct⟩ := books.idle (by rw [integrated]; exact none_)
  have renews := accountIntegrate_stringRec due hi
  rw [none_] at renews
  exact (stringRec_congr acct i).trans renews

/-! ## The event as it is raised (R7, R22, R81) -/

theorem raiseEvent_channel (r : Readings) (s : State) {i : Nat} (hi : i < 4) : (raiseEvent r s).stringChannel i =
    presentString (decide (i < s.now 0 9)) (stringReading r i) (s.stringChannel i) := by
  simp [raiseEvent, presentReadings, State.stringChannel, State.onMeas, hi]
  rfl

/-- R36: the record a place has for the settings in force: a fresh one, or its own, recapacitated where it must be. -/
def refitted (capacity initial : Nat) : Option StringRec → StringRec
  | none => freshString capacity initial
  | some r => if r.capacity = capacity then r else r.recapacity capacity

theorem refitString_fitted (capacity initial : Nat) (o : Option StringRec) :
    refitString true capacity initial o = some (refitted capacity initial o) := by
  cases o <;> rfl

theorem renewed_unfitted {s : State} {i : Nat} (above : s.stringsFitted ≤ i) : renewed s i = none := by
  rw [renewed, decide_eq_false (Nat.not_lt.2 above), refitString_unfitted]
  rfl

/-- R23, R27 to R30, R81: the event's current, carried into a record. -/
theorem integrateString_raised (r : Readings) (s : State) {i : Nat} (hi : i < 4) (fitted : i < s.now 0 9)
    (y : StringRec) : integrateString (raiseEvent r s) i y =
      let x := stringReading r i
      let valid := -10000 ≤ x ∧ x ≤ 10000
      if ¬ valid ∧ 10 ≤ (s.stringChannel i).held then { y with sync := .unsync }
      else if s.sup.mode = .protect then y
      else y.integrate (contribution (s.now 1 10) (if valid then x else (s.stringChannel i).last.getD 0)) := by
  have channel := raiseEvent_channel r s hi
  rw [decide_eq_true fitted, presentString_eq, if_neg (by decide)] at channel
  have halted : notIntegrated (raiseEvent r s) ↔ s.sup.mode = .protect := by
    simp [notIntegrated, raiseEvent, presentReadings, secondPasses, State.onMeas, State.onSup, State.onAcct, State.onStore]
  have carried (current : Int) : (if notIntegrated (raiseEvent r s) then y
      else y.integrate (contribution ((raiseEvent r s).inForce 1 10) current)) =
      if s.sup.mode = .protect then y else y.integrate (contribution (s.now 1 10) current) := by
    simp only [halted]
    rfl
  dsimp only
  rw [integrateString, channel]
  by_cases valid : -10000 ≤ stringReading r i ∧ stringReading r i ≤ 10000
  · simpa [valid] using carried (stringReading r i)
  · by_cases lost : 10 ≤ (s.stringChannel i).held
    · simp [valid, lost, Nat.not_lt.2 lost]
    · simpa [valid, lost, Nat.lt_of_not_le lost] using carried ((s.stringChannel i).last.getD 0)

theorem renewed_raised (r : Readings) (s : State) {i : Nat} (fitted : i < s.now 0 9) :
    renewed (raiseEvent r s) i =
      some (integrateString (raiseEvent r s) i (refitted (s.now 0 (10 + i)) (s.now 0 16) (s.stringRec i))) := by
  have settings : renewed (raiseEvent r s) i = (refitString (decide (i < s.now 0 9)) (s.now 0 (10 + i)) (s.now 0 16)
    (s.stringRec i)).map (integrateString (raiseEvent r s) i) := rfl
  rw [settings, decide_eq_true fitted, refitString_fitted]
  rfl

end Sys2Proof.Machine

open Sys2Proof Sys2Proof.Machine

/-- Settles O16: the other turns leave the accounts, and the account unit's turn renews each place's record. -/
theorem eventIntegratesTheAccounts : Obligations.EventIntegratesTheAccounts := by
  intro r order s on stage i hi c x valid current before after holds
  have led (turns : List Block) : exec (.measurementEvent r turns) s = .next (measurementEvent r turns s) :=
    whenPowered_on s _ on
  have record : before = refitted c (s.now 0 16) (s.stringRec i) := by
    simp only [before]
    cases s.stringRec i <;> rfl
  have raised (fitted : i < s.now 0 9) : renewed (raiseEvent r s) i = some after := by
    rw [renewed_raised r s fitted, integrateString_raised r s hi fitted, ← record]
    rfl
  obtain ⟨l₁, l₂, turns⟩ := List.append_of_mem (mem_fullOrder order .account)
  refine ⟨fun above => ⟨_, led order, ?_⟩, fun fitted => ⟨_, led _, ?_⟩, fun fitted protect => ⟨_, led order, ?_⟩⟩
  · obtain ⟨-, kept, records, -⟩ := event_renews r stage turns hi
    have latched := congrArg Store.latched kept.store
    have unfitted := renewed_unfitted (i := i) (s := l₁.foldl (fun v b => blockEvent b v) (raiseEvent r s))
      (by rw [State.stringsFitted, State.inForce, latched]; exact above)
    rw [unfitted] at records
    exact Option.map_eq_none_iff.1 records
  · obtain ⟨rest, first⟩ := fullOrder_cons .account order
    obtain ⟨-, -, records, exact_⟩ := event_renews r (l₁ := []) stage first hi
    rw [List.foldl_nil, raised fitted] at records exact_
    exact ⟨exact_, records⟩
  · obtain ⟨books, kept, records, exact_⟩ := event_renews r stage turns hi
    have halted : (raiseEvent r s).acct.halted = true := by
      simp [raiseEvent, presentReadings, secondPasses, State.onMeas, State.onSup, State.onAcct, State.onStore, protect]
    have same : notIntegrated (l₁.foldl (fun v b => blockEvent b v) (raiseEvent r s)) ↔
        notIntegrated (raiseEvent r s) := by simp only [notIntegrated, books.marks.2, halted, or_true]
    have latched := congrArg Store.latched kept.store
    rw [renewed_account kept.meas latched same (books.account i hi), raised fitted] at records
    refine ⟨fun idle => ?_, records⟩
    have acct := (books.idle (by simpa using idle)).2
    rw [exact_ idle, renewed_congr kept.meas latched same acct, raised fitted]
end

section
/-! SUPPORT. The entry to a stage (R45, R55, R58, R59, R95) and the end of a test (R40, R69). -/

namespace Sys2Proof.Machine

/-! ## What the setpoint and the battery limit depend on (R56 to R59) -/

theorem inForce_congr {s t : State} (store : t.store = s.store) : t.inForce = s.inForce :=
  funext₂ fun g i => by simp [State.inForce, store]

theorem compensated_congr {s t : State} (store : t.store = s.store) : compensated t = compensated s := by
  funext cell tc
  simp [compensated, windowLow, windowHigh, State.plantVoltage, State.cells, inForce_congr store]

theorem cellValue_congr {s t : State} (store : t.store = s.store) : cellValue t = cellValue s := by
  funext stage
  cases stage <;> simp [cellValue, inForce_congr store]

theorem stageSetpoint_congr {s t : State} (store : t.store = s.store) (tc : t.charge.tc = s.charge.tc) :
    stageSetpoint t = stageSetpoint s := by
  funext stage
  simp [stageSetpoint, compensated_congr store, cellValue_congr store, tc, State.plantVoltage, State.cells,
    inForce_congr store]

theorem fittedChannels_congr {s t : State} (acct : t.acct = s.acct) (meas : t.meas = s.meas) :
    t.fittedChannels = s.fittedChannels := by
  simp [State.fittedChannels, State.stringRec, State.stringChannel, acct, meas]

theorem batteryLimit_congr {s t : State} (acct : t.acct = s.acct) (meas : t.meas = s.meas) (gen : t.gen = s.gen)
    (store : t.store = s.store) (tb : t.charge.tb = s.charge.tb) : batteryLimit t = batteryLimit s := by
  simp [batteryLimit, chargeRateSum, fittedChannels_congr acct meas, State.online, inForce_congr store, meas, gen, tb]

theorem moduleLimit_congr {s t : State} (stage : t.charge.stage = s.charge.stage) (ibl : t.charge.ibl = s.charge.ibl)
    (running : t.rect.running = s.rect.running) (meas : t.meas = s.meas) (store : t.store = s.store) :
    t.moduleLimit = s.moduleLimit := by
  simp [State.moduleLimit, State.nRun, State.rm, inForce_congr store, stage, ibl, running, meas]

/-! ## Entering a stage (R45) -/

/-- The charge controller once it has entered stage `new`. -/
theorem changeStage_charge {new : Stage} {s : State} (ne : s.charge.stage ≠ new) : (changeStage new s).charge =
    { s.charge with
      stage := new, setpoint := stageSetpoint s new, ibl := batteryLimit s, absorbCount := 0, tailCount := 0
      absorbTimer := 0, armed := false } := by
  have entered (u : State) (alarm : ∃ a, u = { s with alarm := a }) :
      (recomputeIm (recomputeIbl (recomputeSetpoint (u.onCharge fun c =>
        { c with stage := new, absorbCount := 0, tailCount := 0, absorbTimer := 0, armed := false })))).charge =
      { s.charge with
        stage := new, setpoint := stageSetpoint s new, ibl := batteryLimit s, absorbCount := 0, tailCount := 0
        absorbTimer := 0, armed := false } := by
    obtain ⟨a, rfl⟩ := alarm
    rfl
  have posted : post .stageChange new.code s.charge.stage.code s =
      { s with alarm := (post .stageChange new.code s.charge.stage.code s).alarm } := rfl
  unfold changeStage
  rw [if_neg ne]
  dsimp only
  split
  · simpa [dropDischargeCount] using entered _ ⟨_, posted⟩
  · exact entered _ ⟨_, posted⟩

/-- R95: the module limit is formed with the stage entered. -/
theorem changeStage_rect {new : Stage} {s : State} (ne : s.charge.stage ≠ new) :
    (changeStage new s).rect = { s.rect with im := (changeStage new s).moduleLimit } := by
  have formed (u : State) : (recomputeIm u).rect = { u.rect with im := (recomputeIm u).moduleLimit } := rfl
  have dropped (u : State) : (dropDischargeCount u).moduleLimit = u.moduleLimit :=
    moduleLimit_congr (by simp [dropDischargeCount]) (by simp [dropDischargeCount]) (by simp [dropDischargeCount])
      (by simp [dropDischargeCount]) (by simp [dropDischargeCount])
  unfold changeStage
  rw [if_neg ne]
  dsimp only
  split
  · rw [dropped]
    simpa [dropDischargeCount] using formed _
  · exact formed _

/-- R45: out of TEST the one notice is STAGE_CHANGE. -/
theorem changeStage_alarm {new : Stage} {s : State} (ne : s.charge.stage ≠ new) (notTest : new ≠ .test) :
    (changeStage new s).alarm = (post .stageChange new.code s.charge.stage.code s).alarm := by
  rw [changeStage_ne new s ne notTest]
  simp

theorem post_alarm_congr {s t : State} (alarm : t.alarm = s.alarm) (cal : t.cal = s.cal) (kind : NoticeKind)
    (subject value : Nat) : (post kind subject value t).alarm = (post kind subject value s).alarm := by
  simp [post, State.onAlarm, State.stamp, alarm, cal]

theorem changeStage_entered {new : Stage} {s : State} (ne : s.charge.stage ≠ new) :
    StageEntered new s (changeStage new s) where
  setpoint := by
    rw [changeStage_charge ne]
    by_cases test : new = .test
    · simp [stageSetpoint, test, cellValue, State.plantVoltage]
    · simp [stageSetpoint, test]
  charge := by
    have limit : batteryLimit (changeStage new s) = batteryLimit s :=
      batteryLimit_congr (by simp) (by simp) (by simp) (by simp) (by rw [changeStage_charge ne])
    rw [limit, changeStage_charge ne]
  modules := changeStage_rect ne

/-- An entry from a state that differs in the equalize record, the test and the other blocks. -/
theorem StageEntered.source {new : Stage} {s u t : State} (h : StageEntered new u t)
    (charge : u.charge = { s.charge with eq := u.charge.eq, test := u.charge.test }) (rect : u.rect = s.rect)
    (store : u.store = s.store) : StageEntered new s t where
  setpoint := by
    have tc : u.charge.tc = s.charge.tc := by rw [charge]
    rw [h.setpoint, compensated_congr store, cellValue_congr store, tc, State.cells, inForce_congr store]
    rfl
  charge := by
    rw [h.charge, charge]
  modules := by rw [h.modules, rect]

end Sys2Proof.Machine
end

section
/-! SUPPORT and the statement about the capacity test (R38 to R40, R66 to R69). -/

namespace Sys2Proof.Machine

/-! ## The end of a test (R40, R69) -/

theorem endTest_eq {s : State} {x : TestRec} (test : s.charge.test = some x) (outcome : TestOutcome) (next : Stage) :
    endTest outcome next s = changeStage next ((post .testEnd outcome.code (x.elapsed / 60)
      (writeResults outcome x.target (x.elapsed / 60) s)).onCharge fun c => { c with test := none }) := by
  rw [endTest, test]

theorem endTest_stringRec {s : State} {x : TestRec} (test : s.charge.test = some x) (outcome : TestOutcome)
    (next : Stage) {i : Nat} (hi : i < 4) : (endTest outcome next s).stringRec i =
      (s.stringRec i).map fun r => r.close outcome x.target (x.elapsed / 60) s.stamp := by
  have records : (endTest outcome next s).acct = (writeResults outcome x.target (x.elapsed / 60) s).acct := by
    rw [endTest_eq test]
    simp
  rw [stringRec_congr records, writeResults, mapStrings_stringRec _ _ hi]

/-- R40: the results, field by field. -/
theorem close_eq (r : StringRec) (outcome : TestOutcome) (target minutes time : Nat) :
    r.close outcome target minutes time =
      let d := r.delivered.getD 0
      let health := if outcome = .aborted then none else some (min 100 (d * 100 / (r.capacity * target)))
      { r with
        lastTest := some { outcome := outcome, endTime := time, delivered := d, minutes := minutes, health := health }
        lastHealth := (health.map fun h => { health := h, endTime := time : HealthResult }).or r.lastHealth
        baseline := none, delivered := none } := by
  cases outcome <;> rfl

/-- The stage that follows a test (R47, R69). -/
theorem endTest_stage {s : State} {x : TestRec} (test : s.charge.test = some x) (outcome : TestOutcome) (next : Stage) :
    (endTest outcome next s).charge.test = none ∧ (endTest outcome next s).charge.stage = next := by
  obtain ⟨gone, -, stage⟩ := endTest_charge outcome next s
  exact ⟨gone, by rw [stage, test]; rfl⟩

/-- R69: the end of a test in TEST enters the stage that follows it, TEST_END before STAGE_CHANGE (log 6). -/
theorem endTest_entered {s : State} {x : TestRec} (test : s.charge.test = some x) (stage : s.charge.stage = .test)
    (outcome : TestOutcome) {next : Stage} (ne : next ≠ .test) :
    StageEntered next s (endTest outcome next s) ∧
      endTest outcome next s = { s with
        acct := (endTest outcome next s).acct, charge := (endTest outcome next s).charge
        rect := (endTest outcome next s).rect
        alarm := (post .stageChange next.code Stage.test.code (post .testEnd outcome.code (x.elapsed / 60) s)).alarm } := by
  rw [endTest_eq test]
  generalize ended : (post .testEnd outcome.code (x.elapsed / 60)
      (writeResults outcome x.target (x.elapsed / 60) s)).onCharge (fun c => { c with test := none }) = u
  have leaves : u.charge.stage ≠ next := by rw [← ended]; simpa [stage] using Ne.symm ne
  have charge : u.charge = { s.charge with eq := u.charge.eq, test := u.charge.test } := by rw [← ended]; simp
  have rect : u.rect = s.rect := by rw [← ended]; simp
  have store : u.store = s.store := by rw [← ended]; simp
  have cal : u.cal = s.cal := by rw [← ended]; simp
  have posted : u.alarm = (post .testEnd outcome.code (x.elapsed / 60) s).alarm := by
    rw [← ended]
    exact post_alarm_congr (by simp) (by simp) _ _ _
  have stageIs : u.charge.stage = .test := by rw [charge]; exact stage
  refine ⟨(changeStage_entered leaves).source charge rect store, ?_⟩
  apply State.ext_parts
  case alarm =>
    rw [changeStage_alarm leaves ne, stageIs]
    exact post_alarm_congr (by rw [posted]) (by simp [cal]) _ _ _
  case prot => simp [changeStage_prot ne, ← ended]
  all_goals simp [← ended]

/-! ## The requests (R66, R69) -/

/-- A report is one to any state of which the alarm unit holds the same. -/
theorem Reported.source {c : Nat} {v : Bool} {s u t : State} (h : Reported c v u t) (alarm : u.alarm = s.alarm) :
    Reported c v s t where
  cond := h.cond
  others d hd ne := by rw [h.others d hd ne, State.record, State.record, alarm]
  notices := alarm ▸ h.notices
  evaluated := by rw [h.evaluated, alarm]

/-- R83: at the entry to TEST the discharge count goes, after STAGE_CHANGE (log 6). -/
theorem changeStage_test_reported {s : State} (leaves : s.charge.stage ≠ .test)
    (complete : s.alarm.records.length = 40) :
    Reported 5 false (post .stageChange Stage.test.code s.charge.stage.code s) (changeStage .test s) := by
  rw [changeStage_test s leaves]
  refine (report_reported alBatteryDischarge false _ ?_).source ?_
  · simpa [complete] using (by decide : alBatteryDischarge < 40)
  · simp

/-- An answer in hand is the link unit's own. -/
theorem StageEntered.answered {new : Stage} {s t : State} (h : StageEntered new s t) (kind : Byte) (a : Answer) :
    StageEntered new s (holdAnswer kind a t) := ⟨h.setpoint, h.charge, h.modules⟩

theorem Reported.answered {c : Nat} {v : Bool} {s t : State} (h : Reported c v s t) (kind : Byte) (a : Answer) :
    Reported c v s (holdAnswer kind a t) := ⟨h.cond, h.others, h.notices, h.evaluated⟩

theorem testTarget_eq (n : Nat) :
    testTarget n = if n = 0 ∨ 10 ≤ n ∧ n ≤ 80 then some (if n = 0 then 40 else n) else none := by
  unfold testTarget
  by_cases zero : n = 0
  · simp [zero]
  · simp [zero]

/-- R66: what a test needs to begin. -/
abbrev TestAllowed (s : State) : Prop :=
  s.charge.stage = .float ∧ s.sup.mode = .mains ∧ (s.fittedStrings.all fun r => r.sync == .sync) = true ∧
    s.charge.eq.state ≠ .running ∧ s.charge.eq.state ≠ .suspended

/-- R66: the state in which a test has begun. -/
def testBegun (target : Nat) (s : State) : State :=
  changeStage .test (beginCounts (s.onCharge fun c =>
    { c with test := some { target := target, acceptedAt := s.stamp, elapsed := 0 } }))

theorem serveTestStart_eq (n : Nat) (s : State) : serveTestStart n s =
    if n = 0 ∨ 10 ≤ n ∧ n ≤ 80 then
      if TestAllowed s then (testBegun (if n = 0 then 40 else n) s, .ok) else (s, .refuse .refusedState)
    else (s, .refuse .badField) := by
  rw [serveTestStart, testTarget_eq]
  by_cases wanted : n = 0 ∨ 10 ≤ n ∧ n ≤ 80
  · simp only [wanted, if_true]
    rfl
  · simp only [wanted, if_false]

/-- R38, R45, R66, R83: the stage, the record, the counts and BATTERY_DISCHARGE of a test that begins. -/
theorem testBegun_enters {s : State} (stage : s.charge.stage = .float) (complete : s.alarm.records.length = 40)
    (target : Nat) :
    let t := testBegun target s
    StageEntered .test s t ∧ t.charge.eq = s.charge.eq ∧
      t.charge.test = some { target := target, acceptedAt := s.stamp, elapsed := 0 } ∧
      (∀ i, i < 4 → t.stringRec i =
        (s.stringRec i).map fun r => { r with baseline := some r.account, delivered := some 0 }) ∧
      Reported 5 false (post .stageChange Stage.test.code Stage.float.code s) t ∧
      t = { s with
        acct := t.acct, charge := t.charge, rect := t.rect, prot := { s.prot with dischargeCount := 0 }
        alarm := t.alarm } := by
  dsimp only
  unfold testBegun
  generalize begun : beginCounts (s.onCharge fun c =>
    { c with test := some { target := target, acceptedAt := s.stamp, elapsed := 0 } }) = u
  have leaves : u.charge.stage ≠ .test := by rw [← begun]; simp [stage]
  have charge : u.charge = { s.charge with eq := u.charge.eq, test := u.charge.test } := by rw [← begun]; simp
  have rect : u.rect = s.rect := by rw [← begun]; simp
  have store : u.store = s.store := by rw [← begun]; simp
  have prot : u.prot = s.prot := by rw [← begun]; simp
  have record : u.charge.test = some { target := target, acceptedAt := s.stamp, elapsed := 0 } := by
    rw [← begun]; simp
  have equalize : u.charge.eq = s.charge.eq := by rw [← begun]; simp
  have stageIs : u.charge.stage = .float := by rw [charge]; exact stage
  have posted : (post .stageChange Stage.test.code Stage.float.code u).alarm =
      (post .stageChange Stage.test.code Stage.float.code s).alarm :=
    post_alarm_congr (by rw [← begun]; simp) (by rw [← begun]; simp) _ _ _
  refine ⟨(changeStage_entered leaves).source charge rect store, ?_, ?_, fun i hi => ?_, ?_, ?_⟩
  · rw [changeStage_charge leaves]; exact equalize
  · rw [changeStage_charge leaves]; exact record
  · have records : (changeStage .test u).acct = u.acct := by simp
    rw [stringRec_congr records, ← begun, beginCounts, mapStrings_stringRec _ _ hi]
    rfl
  · have reported := changeStage_test_reported leaves (by rw [← begun]; simpa using complete)
    rw [stageIs] at reported
    exact reported.source posted
  · apply State.ext_parts
    case prot => rw [changeStage_test u leaves]; simp [dropDischargeCount, prot]
    all_goals simp [← begun]

/-! ## The turns of a measurement event (R39, R67, R68) -/

theorem decrease_cases (r : StringRec) :
    r.decrease = if r.account < r.baseline.getD 0 then r.baseline.getD 0 - r.account else 0 := by
  rw [decrease_eq]
  split <;> omega

theorem refitted_delivered (capacity initial : Nat) (o : Option StringRec) :
    (refitted capacity initial o).delivered = o.bind StringRec.delivered := by
  cases o with
  | none => rfl
  | some r =>
    rw [refitted]
    split <;> rfl

theorem integrate_delivered (r : StringRec) (q : Int) : (r.integrate q).delivered = r.delivered := by
  obtain ⟨full, empty, within⟩ := integrate_cases r q
  by_cases high : 100 * (r.capacity : Int) < (r.account : Int) + (r.residue + q).tdiv 36000
  · rw [full high]
  · by_cases low : (r.account : Int) + (r.residue + q).tdiv 36000 < 0
    · rw [empty low]
    · rw [within (by omega) (by omega)]

theorem integrateString_delivered (s : State) (i : Nat) (r : StringRec) :
    (integrateString s i r).delivered = r.delivered := by
  unfold integrateString
  split
  · rfl
  · split
    · rfl
    · exact integrate_delivered _ _
  · split
    · rfl
    · exact integrate_delivered _ _
  all_goals rfl

/-- R39: the delivered counts of an event, integrated in a test. -/
theorem accountIntegrate_delivered {s : State} {x : TestRec} (test : s.charge.test = some x)
    (due : s.acct.taken = false) {i : Nat} (hi : i < 4) {y : StringRec}
    (record : (accountIntegrate s).stringRec i = some y) : y.delivered =
      if (s.stringChannel i).validity = .unusable then (s.stringRec i).bind StringRec.delivered
      else some (if y.account < y.baseline.getD 0 then y.baseline.getD 0 - y.account else 0) := by
  rw [accountIntegrate_stringRec due hi, if_pos (by rw [test]; rfl)] at record
  obtain ⟨q, renews, rfl⟩ := Option.map_eq_some_iff.1 record
  have kept : q.delivered = (s.stringRec i).bind StringRec.delivered := by
    rw [renewed] at renews
    cases fits : decide (i < s.stringsFitted) with
    | false => simp [fits, refitString_unfitted] at renews
    | true =>
      rw [fits, refitString_fitted] at renews
      rw [← Option.some.inj renews, integrateString_delivered, refitted_delivered]
  by_cases unusable : (s.stringChannel i).validity = .unusable
  · rw [countDelivered, if_pos unusable, if_pos unusable, kept]
  · rw [countDelivered, if_neg unusable, if_neg unusable]
    exact congrArg some (decrease_cases q)

/-- R67: every fitted string's delivered count is at its target. -/
abbrev TargetReached (s : State) (x : TestRec) : Prop :=
  (s.fittedStrings.all fun r => r.delivered.any fun d => decide (r.capacity * x.target ≤ d)) = true

/-- R67: the bus is at or below the test-end voltage. -/
abbrev TestVoltageLow (s : State) : Prop := s.meas.bus ≤ s.cells * s.inForce 1 4 / 10

/-- R67: the event counted. -/
def elapsedCounted (x : TestRec) (s : State) : State :=
  s.onCharge fun c => { c with test := some { x with elapsed := x.elapsed + 1 } }

/-- R67: a test is judged once its event is counted. -/
theorem judgeTest_eq {s : State} {x : TestRec} (test : s.charge.test = some x) :
    judgeTest s = if TargetReached s x then endTest .pass (bulkOrFloat s) (elapsedCounted x s)
      else if TestVoltageLow s then endTest .endVoltage (bulkOrFloat s) (elapsedCounted x s)
      else elapsedCounted x s := by
  rw [judgeTest, test]
  simp only [List.all_eq_true, decide_eq_true_eq]
  rfl

theorem trusted_iff (r : StringRec) : r.trusted = (r.sync == .sync) := rfl

theorem untrusted_eq (r : StringRec) : (!r.trusted) = (r.sync == .unsync) := by
  rw [trusted_iff]
  cases r.sync <;> rfl

/-- R68: the test ends for a fitted string that is UNSYNC. -/
theorem abortIfUnsync_eq (s : State) : abortIfUnsync s =
    if (s.fittedStrings.any fun r => r.sync == .unsync) = true then endTest .aborted (bulkOrFloat s) s else s := by
  simp only [abortIfUnsync, untrusted_eq]

/-- R69: what follows the end of a test, by the latch. -/
theorem bulkOrFloat_congr {s t : State} (latch : t.charge.latch = s.charge.latch) : bulkOrFloat t = bulkOrFloat s := by
  rw [bulkOrFloat_eq, bulkOrFloat_eq, latch]

/-- R67: the account unit's turn ends the test. -/
theorem accountEvent_ends {s : State} {x : TestRec} (test : s.charge.test = some x)
    (ends : TargetReached (accountIntegrate s) x ∨ TestVoltageLow s) :
    let u := accountEvent s
    u.charge.test = none ∧ u.charge.stage = bulkOrFloat s ∧ ∀ i, i < 4 → u.stringRec i =
      ((accountIntegrate s).stringRec i).map fun r =>
        r.close (if TargetReached (accountIntegrate s) x then .pass else .endVoltage) x.target ((x.elapsed + 1) / 60)
          s.stamp := by
  have charge : (accountIntegrate s).charge = s.charge := by simp
  have counted : (elapsedCounted x (accountIntegrate s)).charge.test = some { x with elapsed := x.elapsed + 1 } := rfl
  have next : bulkOrFloat (accountIntegrate s) = bulkOrFloat s := bulkOrFloat_congr (by rw [charge])
  have low : TestVoltageLow (accountIntegrate s) ↔ TestVoltageLow s := by
    simp [TestVoltageLow, State.cells, State.inForce]
  have judged : judgeTest (accountIntegrate s) =
      endTest (if TargetReached (accountIntegrate s) x then .pass else .endVoltage) (bulkOrFloat s)
        (elapsedCounted x (accountIntegrate s)) := by
    rw [judgeTest_eq (by rw [charge]; exact test), next]
    by_cases reached : TargetReached (accountIntegrate s) x
    · rw [if_pos reached, if_pos reached]
    · rw [if_neg reached, if_neg reached, if_pos (low.2 (ends.resolve_left reached))]
  have reported : (accountEvent s).charge = (judgeTest (accountIntegrate s)).charge ∧
      (accountEvent s).acct = (judgeTest (accountIntegrate s)).acct := by simp [accountEvent]
  obtain ⟨gone, stage⟩ := endTest_stage counted (if TargetReached (accountIntegrate s) x then .pass else .endVoltage)
    (bulkOrFloat s)
  dsimp only
  refine ⟨by rw [reported.1, judged, gone], by rw [reported.1, judged, stage], fun i hi => ?_⟩
  have stamp : (elapsedCounted x (accountIntegrate s)).stamp = s.stamp := by simp [elapsedCounted, State.stamp]
  rw [stringRec_congr reported.2, judged, endTest_stringRec counted _ _ hi, stamp]
  rfl

/-- R67: or lets it go on. -/
theorem accountEvent_goesOn {s : State} {x : TestRec} (test : s.charge.test = some x)
    (unreached : ¬ TargetReached (accountIntegrate s) x) (high : ¬ TestVoltageLow s) :
    (accountEvent s).charge = { s.charge with test := some { x with elapsed := x.elapsed + 1 } } ∧
      (accountEvent s).acct = (accountIntegrate s).acct := by
  have charge : (accountIntegrate s).charge = s.charge := by simp
  have stays : ¬ TestVoltageLow (accountIntegrate s) := by
    simpa [TestVoltageLow, State.cells, State.inForce] using high
  have judged : judgeTest (accountIntegrate s) = elapsedCounted x (accountIntegrate s) := by
    rw [judgeTest_eq (by rw [charge]; exact test), if_neg unreached, if_neg stays]
  simp [accountEvent, judged, elapsedCounted]

/-- R68: at the charge controller's turn a test ends for a fitted UNSYNC string. -/
theorem chargeEvent_aborts {s : State} {x : TestRec} (test : s.charge.test = some x) (stage : s.charge.stage = .test)
    (unsync : (s.fittedStrings.any fun r => r.sync == .unsync) = true) :
    let w := chargeEvent s
    w.charge.test = none ∧ w.charge.stage = (if w.charge.latch = true then .float else .bulk) ∧
      ∀ i, i < 4 → w.stringRec i = (s.stringRec i).map fun r => r.close .aborted x.target (x.elapsed / 60) s.stamp := by
  have carried : (latchFormed s).charge.test = some x := by simpa [latchFormed] using test
  have strings : (latchFormed s).fittedStrings = s.fittedStrings := by simp [State.fittedStrings]
  have aborted : testKept s = recomputeSetpoint (endTest .aborted (bulkOrFloat (latchFormed s)) (latchFormed s)) := by
    rw [testKept, abortIfUnsync_eq, strings, if_pos unsync]
  obtain ⟨gone, next⟩ := endTest_stage carried .aborted (bulkOrFloat (latchFormed s))
  have left : ¬ (testKept s).charge.stage = s.charge.stage := by
    rw [aborted, recomputeSetpoint_charge]
    dsimp only
    rw [next, stage, bulkOrFloat_eq]
    split <;> decide
  have latch : (endTest .aborted (bulkOrFloat (latchFormed s)) (latchFormed s)).charge.latch =
      (latchFormed s).charge.latch := by
    rw [endTest_eq carried]
    simp
  have worked : chargeEvent s = reportCapacityLow (reportOverdue (recomputeIbl (testKept s))) := by
    rw [chargeEvent_eq, if_neg left]
  dsimp only
  refine ⟨?_, ?_, fun i hi => ?_⟩
  · rw [worked, aborted]
    simpa using gone
  · rw [worked, aborted]
    simpa [latch, next] using bulkOrFloat_eq (latchFormed s)
  · have records : (chargeEvent s).acct =
        (endTest .aborted (bulkOrFloat (latchFormed s)) (latchFormed s)).acct := by
      rw [worked, aborted]
      simp
    have stamp : (latchFormed s).stamp = s.stamp := by simp [State.stamp]
    have same : (latchFormed s).stringRec i = s.stringRec i := stringRec_congr (by simp) i
    rw [stringRec_congr records, endTest_stringRec carried _ _ hi, stamp, same]

/-- R68: with every fitted string SYNC the turn leaves the test. -/
theorem chargeEvent_keepsTest {s : State} {x : TestRec} (test : s.charge.test = some x)
    (stage : s.charge.stage = .test) (synced : (s.fittedStrings.all fun r => r.sync == .sync) = true) :
    (chargeEvent s).charge.test = some x ∧ (chargeEvent s).charge.stage = .test ∧ (chargeEvent s).acct = s.acct := by
  have strings : (latchFormed s).fittedStrings = s.fittedStrings := by simp [State.fittedStrings]
  have trusted : ¬ (s.fittedStrings.any fun r => r.sync == .unsync) = true := by
    simp only [List.any_eq_true, not_exists, not_and]
    intro r mem
    have sync := List.all_eq_true.1 synced r mem
    rw [beq_iff_eq] at sync
    rw [sync]
    decide
  have kept : testKept s = recomputeSetpoint (latchFormed s) := by
    rw [testKept, abortIfUnsync_eq, strings, if_neg trusted]
  have stands : (testKept s).charge.stage = .test := by rw [kept]; simpa [latchFormed] using stage
  have worked : chargeEvent s = reportCapacityLow (reportOverdue (recomputeIbl (testKept s))) := by
    rw [chargeEvent_eq, if_pos (by rw [stands, stage]), stageWork, stands]
  rw [worked, kept]
  simp [latchFormed, test, stage]

end Sys2Proof.Machine

open Sys2Proof Sys2Proof.Machine

/-- Settles O29: the requests by what they serve, the event by the turns of the account unit and the charge controller. -/
theorem capacityTestBeginsAndAborts : Obligations.CapacityTestBeginsAndAborts := by
  intro target s on complete n wanted allowed after counted ended
  have results {u v : State} {outcome : TestOutcome} {x : TestRec} {minutes : Nat}
      (h : ∀ i, i < 4 → u.stringRec i = (v.stringRec i).map fun r => r.close outcome x.target minutes s.stamp) :
      ended v outcome x minutes u := fun i hi => by
    rw [h i hi]
    exact congrArg (fun f => (v.stringRec i).map f) (funext fun r => close_eq r outcome x.target minutes s.stamp)
  have starts (hears : s.hears = true) : exec (.capacityTestStart target) s =
      .next (holdAnswer 0x2A#8 (serveTestStart n s).2 (serveTestStart n s).1) := onRequest_on _ _ s on hears
  have aborts (hears : s.hears = true) : exec .capacityTestAbort s =
      .next (holdAnswer 0x2B#8 (serveTestAbort s).2 (serveTestAbort s).1) := onRequest_on _ _ s on hears
  refine ⟨fun hears unwanted => ?_, fun hears asked denied => ?_, fun hears asked granted => ?_,
    fun x test hears stage => ?_, fun hears idle => ?_, fun x test stage => ?_⟩
  · rw [starts hears, serveTestStart_eq, if_neg unwanted]
  · rw [starts hears, serveTestStart_eq, if_pos asked, if_neg denied]
  · rw [serveTestStart_eq, if_pos asked, if_pos granted] at starts
    obtain ⟨entered, eq, test, records, reported, frame⟩ :=
      testBegun_enters granted.1 complete (if n = 0 then 40 else n)
    refine ⟨_, starts hears, entered.answered _ _, eq, test, records, reported.answered _ _, ?_⟩
    exact congrArg (holdAnswer 0x2A#8 .ok) frame
  · have served : serveTestAbort s = (endTest .aborted (bulkOrFloat s) s, .ok) := by rw [serveTestAbort, test]; rfl
    have next : bulkOrFloat s ≠ .test := by
      rw [bulkOrFloat_eq]
      split <;> decide
    obtain ⟨entered, frame⟩ := endTest_entered test stage .aborted next
    obtain ⟨gone, eq, -⟩ := endTest_charge .aborted (bulkOrFloat s) s
    rw [served] at aborts
    exact ⟨_, aborts hears, entered.answered _ _, eq, gone, results fun i hi => endTest_stringRec test _ _ hi,
      congrArg (holdAnswer 0x2B#8 .ok) frame⟩
  · rw [aborts hears, serveTestAbort, idle]
    rfl
  · intro minutes reached low u w
    refine ⟨accountIntegrate_taken, fun due i hi y record => accountIntegrate_delivered test due hi record,
      fun ends => ?_, accountEvent_goesOn test, fun unsync => ?_, chargeEvent_keepsTest test stage⟩
    · obtain ⟨gone, next, records⟩ := accountEvent_ends test ends
      exact ⟨gone, next, results records⟩
    · obtain ⟨gone, next, records⟩ := chargeEvent_aborts test stage unsync
      exact ⟨gone, next, results records⟩
end

section
/-! SUPPORT. What a record's fields read as (R208): the bytes of a field spell its value, and fields laid one after
another are read at their places. -/

namespace Sys2Proof.Machine

/-! ## The number that bytes spell -/

/-- The number that a run of bytes spells, most significant first. -/
def bytesNum (x : List Byte) : Nat := x.foldl (fun v y => 256 * v + y.toNat) 0

theorem bytesNum_append_byte (x : List Byte) (b : Byte) : bytesNum (x ++ [b]) = 256 * bytesNum x + b.toNat := by
  simp [bytesNum]

theorem bytesBE_succ (n v : Nat) : bytesBE (n + 1) v = bytesBE n (v / 256) ++ [BitVec.ofNat 8 v] := by
  have higher : (List.range n).map (fun i => BitVec.ofNat 8 (v / 256 ^ (n - i))) = bytesBE n (v / 256) := by
    refine List.map_congr_left fun i hi => ?_
    have place : n - i = (n - 1 - i) + 1 := by
      have := List.mem_range.1 hi
      omega
    rw [place, Nat.pow_succ', Nat.div_div_eq_div_mul]
  rw [← higher]
  simp [bytesBE, List.range_succ]

/-- A value that fits is read back from its bytes. -/
theorem bytesNum_bytesBE (n : Nat) {v : Nat} (fits : v < 256 ^ n) : bytesNum (bytesBE n v) = v := by
  induction n generalizing v with
  | zero =>
    obtain rfl : v = 0 := by simpa using fits
    rfl
  | succ n ih =>
    rw [bytesBE_succ, bytesNum_append_byte, ih (by rw [Nat.pow_succ] at fits; omega), BitVec.toNat_ofNat]
    omega

theorem bytesNum_zeros (n : Nat) : bytesNum (List.replicate n 0#8) = 0 := by
  induction n with
  | zero => rfl
  | succ n ih => rw [List.replicate_succ', bytesNum_append_byte, ih]; rfl

/-- An absent field has every bit set. -/
theorem bytesNum_absent (n : Nat) : bytesNum (absentField n) = 256 ^ n - 1 := by
  induction n with
  | zero => rfl
  | succ n ih =>
    have last : absentField (n + 1) = absentField n ++ [0xFF#8] := List.replicate_succ'
    rw [last, bytesNum_append_byte, ih, Nat.pow_succ]
    have positive : 0 < 256 ^ n := Nat.pow_pos (by decide)
    simp only [BitVec.toNat_ofNat]
    omega

/-! ## Fields (R208) -/

/-- A signed value as a field of `n` bytes spells it, or a number that does not fit. -/
def twos (n : Nat) (v : Int) : Nat :=
  if -(256 ^ n : Int) ≤ 2 * v ∧ 2 * v < (256 ^ n : Int) then (v % (256 ^ n : Int)).toNat else 256 ^ n

/-- The bytes `w` are a field of width `f.1` that holds the value `f.2`, absent or present, where it fits. -/
structure Encodes (f : Nat × Option Nat) (w : List Byte) : Prop where
  width : w.length = f.1
  value : f.2.getD (256 ^ f.1 - 1) < 256 ^ f.1 → bytesNum w = f.2.getD (256 ^ f.1 - 1)

namespace Encodes

theorem field (n v : Nat) : Encodes (n, some v) (field n v) where
  width := field_length n v
  value fits := by
    have shown : Machine.field n v = bytesBE n v := if_pos fits
    rw [shown]
    exact bytesNum_bytesBE n fits

theorem absent (n : Nat) : Encodes (n, none) (absentField n) := ⟨absentField_length n, fun _ => bytesNum_absent n⟩

theorem opt (n : Nat) (o : Option Nat) : Encodes (n, o) (optField n o) := by
  cases o with
  | none => exact absent n
  | some v => exact field n v

theorem flag (b : Bool) : Encodes (1, some (if b = true then 1 else 0)) (flagField b) := by
  cases b <;> exact ⟨rfl, fun _ => rfl⟩

theorem zeros (n : Nat) : Encodes (n, some 0) (List.replicate n 0#8) :=
  ⟨List.length_replicate, fun _ => bytesNum_zeros n⟩

theorem signed (n : Nat) (v : Int) : Encodes (n, some (twos n v)) (signedField n v) where
  width := signedField_length n v
  value fits := by
    simp only [Option.getD_some] at fits ⊢
    by_cases ranges : -(256 ^ n : Int) ≤ 2 * v ∧ 2 * v < (256 ^ n : Int)
    · rw [signedField, if_pos ranges]
      rw [twos, if_pos ranges] at fits ⊢
      exact bytesNum_bytesBE n fits
    · rw [twos, if_neg ranges] at fits
      exact absurd fits (Nat.lt_irrefl _)

end Encodes

/-! ## Fields one after another -/

/-- The bytes of a record are its fields, one after another. -/
inductive Laid : List (Nat × Option Nat) → List Byte → Prop where
  | one {f : Nat × Option Nat} {w : List Byte} : Encodes f w → Laid [f] w
  | cons {f : Nat × Option Nat} {fs : List (Nat × Option Nat)} {w rest : List Byte} :
      Encodes f w → Laid fs rest → Laid (f :: fs) (w ++ rest)

/-- The place of field `k`. -/
def placeOf (fs : List (Nat × Option Nat)) (k : Nat) : Nat := ((fs.take k).map Prod.fst).sum

/-- The number at `n` bytes from place `p` on. -/
def numAt (x : List Byte) (p n : Nat) : Nat := ((x.drop p).take n).foldl (fun v y => 256 * v + y.toNat) 0

/-- The `n` bytes from place `p` on hold `v`, where it fits. -/
def HoldsAt (x : List Byte) (p n v : Nat) : Prop := v < 256 ^ n → numAt x p n = v

/-- They hold `v`, or with none every bit set. -/
def MayAt (x : List Byte) (p n : Nat) (v : Option Nat) : Prop := HoldsAt x p n (v.getD (256 ^ n - 1))

theorem numAt_whole {w : List Byte} {n : Nat} (width : w.length = n) (rest : List Byte) :
    numAt (w ++ rest) 0 n = bytesNum w := by
  rw [numAt, List.drop_zero, List.take_left' width]
  rfl

theorem numAt_skip {w : List Byte} {n : Nat} (width : w.length = n) (rest : List Byte) (p m : Nat) :
    numAt (w ++ rest) (n + p) m = numAt rest p m := by
  rw [numAt, ← List.drop_drop, List.drop_left' width]
  rfl

theorem Laid.length {fs : List (Nat × Option Nat)} {x : List Byte} (h : Laid fs x) :
    x.length = (fs.map Prod.fst).sum := by
  induction h with
  | one e => simp [e.width]
  | cons e _ ih => simp [e.width, ih]

/-- What the fields of a record read as, from place `p` on. -/
def ReadsFrom (x : List Byte) (p : Nat) : List (Nat × Option Nat) → Prop
  | [] => True
  | f :: fs => MayAt x p f.1 f.2 ∧ ReadsFrom x (p + f.1) fs

/-- The fields of a record from its place `p` on are read there. -/
theorem ReadsFrom.of_tail {fs : List (Nat × Option Nat)} {x : List Byte} {p n : Nat} {w : List Byte}
    (width : w.length = n) (h : ReadsFrom x p fs) : ReadsFrom (w ++ x) (n + p) fs := by
  induction fs generalizing p with
  | nil => trivial
  | cons f fs ih =>
    obtain ⟨first, rest⟩ := h
    refine ⟨fun fits => (numAt_skip width x p f.1).trans (first fits), ?_⟩
    rw [Nat.add_assoc]
    exact ih rest

/-- Each field is read at its place. -/
theorem Laid.reads {fs : List (Nat × Option Nat)} {x : List Byte} (h : Laid fs x) : ReadsFrom x 0 fs := by
  induction h with
  | @one f w e =>
    refine ⟨fun fits => ?_, trivial⟩
    have whole := numAt_whole e.width []
    rw [List.append_nil] at whole
    exact whole.trans (e.value fits)
  | @cons f fs w rest e _ ih =>
    refine ⟨fun fits => (numAt_whole e.width rest).trans (e.value fits), ?_⟩
    rw [Nat.zero_add]
    exact ih.of_tail e.width

/-- The `k`th field of a run of fields is read at its place among them. -/
theorem ReadsFrom.at {fs : List (Nat × Option Nat)} {x : List Byte} {p : Nat} (h : ReadsFrom x p fs) (k : Nat)
    (hk : k < fs.length) : MayAt x (p + placeOf fs k) (fs.getD k (0, none)).1 (fs.getD k (0, none)).2 := by
  induction fs generalizing p k with
  | nil => simp at hk
  | cons f fs ih =>
    obtain ⟨first, rest⟩ := h
    cases k with
    | zero => exact first
    | succ k =>
      have place : p + placeOf (f :: fs) (k + 1) = p + f.1 + placeOf fs k := by simp [placeOf, Nat.add_assoc]
      rw [place]
      exact ih rest k (by simpa using hk)

theorem Laid.read {fs : List (Nat × Option Nat)} {x : List Byte} (h : Laid fs x) (k : Nat) (hk : k < fs.length) :
    MayAt x (placeOf fs k) (fs.getD k (0, none)).1 (fs.getD k (0, none)).2 := by
  simpa using h.reads.at k hk

/-! ## What single fields read as -/

/-- The `n` bytes from place `p` on hold the signed value `v` in two's complement, where it fits. -/
def SignedAt (x : List Byte) (p n : Nat) (v : Int) : Prop :=
  -((256 ^ n : Nat) : Int) ≤ 2 * v → 2 * v < ((256 ^ n : Nat) : Int) →
    numAt x p n = (if v < 0 then v + ((256 ^ n : Nat) : Int) else v).toNat

theorem MayAt.holds {x : List Byte} {p n v : Nat} (h : MayAt x p n (some v)) : HoldsAt x p n v := h

theorem MayAt.gone {x : List Byte} {p n : Nat} (h : MayAt x p n none) : numAt x p n = 256 ^ n - 1 :=
  h (Nat.sub_lt (Nat.pow_pos (by decide)) (by decide))

theorem MayAt.signed {x : List Byte} {p n : Nat} {v : Int} (h : MayAt x p n (some (twos n v))) : SignedAt x p n v := by
  intro low high
  have power : (256 : Int) ^ n = ((256 ^ n : Nat) : Int) := by push_cast; rfl
  unfold MayAt HoldsAt twos at h
  rw [power, Option.getD_some] at h
  have positive : 0 < 256 ^ n := Nat.pow_pos (by decide)
  generalize 256 ^ n = size at *
  rw [if_pos ⟨low, high⟩] at h
  by_cases negative : v < 0
  · have wrapped : v % (size : Int) = v + size := by
      rw [← Int.add_emod_right, Int.emod_eq_of_lt (by omega) (by omega)]
    rw [wrapped] at h
    rw [if_pos negative]
    exact h (by omega)
  · rw [Int.emod_eq_of_lt (by omega) (by omega)] at h
    rw [if_neg negative]
    exact h (by omega)

end Sys2Proof.Machine
end

section
/-! SUPPORT. The records of the reads laid out field by field (R44, R112, R150, R181, R208, R211, R212). -/

namespace Sys2Proof.Machine

/-! ## Bytes of bits -/

/-- The number of a list of bits, the first in bit 0. -/
def bitsNum (bits : List Bool) : Nat := (bits.mapIdx bitAt).sum

theorem sum_mapIdx_bitAt (bits : List Bool) (k : Nat) :
    (bits.mapIdx fun i => bitAt (i + k)).sum = 2 ^ k * bitsNum bits := by
  induction bits generalizing k with
  | nil => simp [bitsNum]
  | cons b bits ih =>
    have first : bitAt (0 + k) b = 2 ^ k * bitAt 0 b := by cases b <;> simp [bitAt]
    have tail : (bits.mapIdx fun i => bitAt (i + 1 + k)).sum = 2 ^ (k + 1) * bitsNum bits := by
      rw [← ih (k + 1)]
      exact congrArg List.sum (congrArg (List.mapIdx · bits) (funext fun i => by rw [Nat.add_right_comm]; rfl))
    have whole : bitsNum (b :: bits) = bitAt 0 b + 2 ^ 1 * bitsNum bits := by
      rw [bitsNum, List.mapIdx_cons, List.sum_cons, ih 1]
    rw [List.mapIdx_cons, List.sum_cons, first, tail, whole]
    ring

theorem bitsNum_cons (b : Bool) (bits : List Bool) : bitsNum (b :: bits) = 2 * bitsNum bits + b.toNat := by
  have tail := sum_mapIdx_bitAt bits 1
  have head : bitAt 0 b = b.toNat := by cases b <;> rfl
  rw [bitsNum, List.mapIdx_cons, List.sum_cons, head]
  omega

theorem bitsNum_lt (bits : List Bool) : bitsNum bits < 2 ^ bits.length := by
  induction bits with
  | nil => decide
  | cons b bits ih =>
    have bit : b.toNat ≤ 1 := Bool.toNat_le b
    rw [bitsNum_cons, List.length_cons, Nat.pow_succ]
    omega

theorem bitsNum_testBit (bits : List Bool) (i : Nat) : (bitsNum bits).testBit i = bits.getD i false := by
  induction bits generalizing i with
  | nil => simp [bitsNum]
  | cons b bits ih =>
    rw [bitsNum_cons]
    cases i with
    | zero => cases b <;> simp [Nat.testBit_zero, Nat.add_mod]
    | succ i =>
      have half : (2 * bitsNum bits + b.toNat) / 2 = bitsNum bits := by
        have bit : b.toNat ≤ 1 := Bool.toNat_le b
        omega
      rw [Nat.testBit_succ, half, ih]
      rfl

/-- A byte of bits always fits. -/
theorem MayAt.byte {x : List Byte} {p : Nat} {bits : List Bool} (h : MayAt x p 1 (some (bitsNum bits)))
    (eight : bits.length ≤ 8) : numAt x p 1 = bitsNum bits :=
  h (Nat.lt_of_lt_of_le (bitsNum_lt bits) (Nat.pow_le_pow_right (by decide) eight))

/-- The bit of a byte of bits that is read at place `p`. -/
theorem MayAt.bits {x : List Byte} {p : Nat} {bits : List Bool} (h : MayAt x p 1 (some (bitsNum bits)))
    (eight : bits.length ≤ 8) (i : Nat) : (numAt x p 1).testBit i = bits.getD i false := by
  rw [h.byte eight]
  exact bitsNum_testBit bits i

/-- A value that always fits is read without a condition. -/
theorem MayAt.value {x : List Byte} {p n v : Nat} (h : MayAt x p n (some v)) (fits : v < 256 ^ n) : numAt x p n = v :=
  h fits

/-! ## READ MEASURE (R211) -/

/-- The fields of READ MEASURE. -/
def measureFields (s : State) : List (Nat × Option Nat) :=
  let current := fun i => (2, some (twos 2 (s.stringChannel i).reading))
  let temp := fun i => (2, some (twos 2 (s.therm i).reading))
  let currentValidity := fun i => (1, some (s.stringChannel i).validity.code)
  let tempValidity := fun i => (1, some (s.therm i).validity.code)
  [(2, some s.meas.bus), (2, some s.meas.load), current 0, current 1, current 2, current 3, temp 0, temp 1, temp 2,
    temp 3, (1, some s.meas.fuel), (1, some s.meas.busValidity.code), (1, some s.meas.loadValidity.code),
    currentValidity 0, currentValidity 1, currentValidity 2, currentValidity 3, tempValidity 0, tempValidity 1,
    tempValidity 2, tempValidity 3, (1, some s.meas.fuelValidity.code),
    (1, some (bitsNum ((List.range 8).map fun n => (s.input n).active))),
    (1, some (bitsNum ((List.range 7).map fun f => s.functionActive (f + 1)))),
    (1, some (bitsNum [s.meas.mainsQualified, s.meas.genPresent]))]

theorem flatMap_range_four (w : Nat → List Byte) : (List.range 4).flatMap w = w 0 ++ (w 1 ++ (w 2 ++ w 3)) := by
  simp [List.range_succ]

theorem measureRecord_laid (s : State) : Laid (measureFields s) (measureRecord s) := by
  unfold measureRecord measureFields bitsField
  simp only [flatMap_range_four, List.append_assoc]
  exact .cons (.field _ _) <| .cons (.field _ _) <| .cons (.signed _ _) <| .cons (.signed _ _) <|
    .cons (.signed _ _) <| .cons (.signed _ _) <| .cons (.signed _ _) <| .cons (.signed _ _) <|
    .cons (.signed _ _) <| .cons (.signed _ _) <| .cons (.field _ _) <| .cons (.field _ _) <|
    .cons (.field _ _) <| .cons (.field _ _) <| .cons (.field _ _) <| .cons (.field _ _) <| .cons (.field _ _) <|
    .cons (.field _ _) <| .cons (.field _ _) <| .cons (.field _ _) <| .cons (.field _ _) <| .cons (.field _ _) <|
    .cons (.field _ _) <| .cons (.field _ _) <| .one (.field _ _)

/-- The bit of the byte `n` places on. -/
theorem measureRecord_reads (s : State) :
    let x := measureRecord s
    HoldsAt x 0 2 s.meas.bus ∧ HoldsAt x 2 2 s.meas.load ∧
      (∀ i, i < 4 → SignedAt x (4 + 2 * i) 2 (s.stringChannel i).reading ∧
        SignedAt x (12 + 2 * i) 2 (s.therm i).reading ∧ HoldsAt x (23 + i) 1 (s.stringChannel i).validity.code ∧
        HoldsAt x (27 + i) 1 (s.therm i).validity.code) ∧
      HoldsAt x 20 1 s.meas.fuel ∧ HoldsAt x 21 1 s.meas.busValidity.code ∧ HoldsAt x 22 1 s.meas.loadValidity.code ∧
      HoldsAt x 31 1 s.meas.fuelValidity.code ∧
      (∀ i, i < 8 → (numAt x 32 1).testBit i = (s.input i).active ∧
        (numAt x 33 1).testBit i = (decide (i < 7) && s.functionActive (i + 1))) ∧
      numAt x 34 1 = (if s.meas.mainsQualified = true then 1 else 0) + if s.meas.genPresent = true then 2 else 0 := by
  have reads := (measureRecord_laid s).reads
  simp only [measureFields, ReadsFrom, Nat.reduceAdd, and_true] at reads
  obtain ⟨bus, load, c0, c1, c2, c3, t0, t1, t2, t3, fuel, busV, loadV, cv0, cv1, cv2, cv3, tv0, tv1, tv2, tv3, fuelV,
    inputs, functions, qualified⟩ := reads
  refine ⟨bus, load, fun i hi => ?_, fuel, busV, loadV, fuelV, fun i hi => ⟨?_, ?_⟩, ?_⟩
  · interval_cases i
    · exact ⟨c0.signed, t0.signed, cv0, tv0⟩
    · exact ⟨c1.signed, t1.signed, cv1, tv1⟩
    · exact ⟨c2.signed, t2.signed, cv2, tv2⟩
    · exact ⟨c3.signed, t3.signed, cv3, tv3⟩
  · rw [inputs.bits (by simp)]
    simp [hi]
  · rw [functions.bits (by simp)]
    by_cases inside : i < 7 <;> simp [inside]
  · generalize s.meas.mainsQualified = mains at qualified ⊢
    generalize s.meas.genPresent = generator at qualified ⊢
    cases mains <;> cases generator <;> exact qualified.value (by decide)

/-! ## READ STRING (R44, R212) -/

theorem testBytes_eq (o : Option TestResult) : testBytes o =
    optField 1 (o.map fun y => y.outcome.code) ++ (optField 4 (o.map TestResult.endTime) ++
      (optField 4 (o.map TestResult.delivered) ++ (optField 2 (o.map TestResult.minutes) ++
        optField 1 (o.bind TestResult.health)))) := by
  cases o with
  | none => rfl
  | some y => simp [testBytes, optField]

theorem healthBytes_eq (o : Option HealthResult) : healthBytes o =
    optField 1 (o.map HealthResult.health) ++ optField 4 (o.map HealthResult.endTime) := by
  cases o <;> rfl

/-- The fields of the record of a fitted string. -/
def stringFields (i : Nat) (c : Channel) (r : StringRec) : List (Nat × Option Nat) :=
  [(1, some (i + 1)), (1, some r.sync.code), (2, some r.capacity), (4, some r.account), (4, some (twos 4 r.residue)),
    (1, some r.soc), (4, some r.deficit), (1, some c.validity.code), (2, some (twos 2 c.reading)), (4, r.delivered),
    (1, r.lastTest.map fun y => y.outcome.code), (4, r.lastTest.map TestResult.endTime),
    (4, r.lastTest.map TestResult.delivered), (2, r.lastTest.map TestResult.minutes),
    (1, r.lastTest.bind TestResult.health), (1, r.lastHealth.map HealthResult.health),
    (4, r.lastHealth.map HealthResult.endTime)]

theorem stringRecord_laid {s : State} {i : Nat} {r : StringRec} (held : s.stringRec i = some r) :
    Laid (stringFields i (s.stringChannel i) r) (stringRecord s i) := by
  simp only [stringRecord, held, channelBytes, testBytes_eq, healthBytes_eq, List.append_assoc]
  exact .cons (.field _ _) <| .cons (.field _ _) <| .cons (.field _ _) <| .cons (.field _ _) <|
    .cons (.signed _ _) <| .cons (.field _ _) <| .cons (.field _ _) <| .cons (.field _ _) <|
    .cons (.signed _ _) <| .cons (.opt _ _) <| .cons (.opt _ _) <| .cons (.opt _ _) <| .cons (.opt _ _) <|
    .cons (.opt _ _) <| .cons (.opt _ _) <| .cons (.opt _ _) <| .one (.opt _ _)

/-- The fields of the record of no string. -/
def noStringFields (i : Nat) (c : Channel) : List (Nat × Option Nat) :=
  [(1, some (i + 1)), (1, some 2), (15, some 0), (1, some c.validity.code), (2, some (twos 2 c.reading)), (21, none)]

theorem noStringRecord_laid {s : State} {i : Nat} (none_ : s.stringRec i = none) :
    Laid (noStringFields i (s.stringChannel i)) (stringRecord s i) := by
  have tail : absentField 4 ++ (testBytes none ++ healthBytes none) = absentField 21 := rfl
  simp only [stringRecord, none_, channelBytes, List.append_assoc, tail]
  exact .cons (.field _ _) <| .cons (.field _ _) <| .cons (.zeros _) <| .cons (.field _ _) <|
    .cons (.signed _ _) <| .one (.absent _)

theorem stringRecord_reads (s : State) (i : Nat) :
    let x := stringRecord s i
    HoldsAt x 0 1 (i + 1) ∧ HoldsAt x 17 1 (s.stringChannel i).validity.code ∧
      SignedAt x 18 2 (s.stringChannel i).reading ∧
      (s.stringRec i = none → numAt x 1 1 = 2 ∧ numAt x 2 15 = 0 ∧ numAt x 20 21 = 256 ^ 21 - 1) ∧
      ∀ r, s.stringRec i = some r →
        HoldsAt x 1 1 r.sync.code ∧ HoldsAt x 2 2 r.capacity ∧ HoldsAt x 4 4 r.account ∧ SignedAt x 8 4 r.residue ∧
          HoldsAt x 12 1 (r.account * 100 / (100 * r.capacity)) ∧ HoldsAt x 13 4 (100 * r.capacity - r.account) ∧
          MayAt x 20 4 r.delivered ∧
          MayAt x 24 1 (r.lastTest.map fun y => y.outcome.code) ∧ MayAt x 25 4 (r.lastTest.map TestResult.endTime) ∧
          MayAt x 29 4 (r.lastTest.map TestResult.delivered) ∧ MayAt x 33 2 (r.lastTest.map TestResult.minutes) ∧
          MayAt x 35 1 (r.lastTest.bind TestResult.health) ∧ MayAt x 36 1 (r.lastHealth.map HealthResult.health) ∧
          MayAt x 37 4 (r.lastHealth.map HealthResult.endTime) := by
  intro x
  cases held : s.stringRec i with
  | none =>
    have reads := (noStringRecord_laid held).reads
    simp only [noStringFields, ReadsFrom, Nat.reduceAdd, and_true] at reads
    obtain ⟨number, two, zeros, validity, reading, gone⟩ := reads
    refine ⟨number, validity, reading.signed, fun _ => ⟨two.value (by decide), zeros.value (by decide), gone.gone⟩,
      fun r some_ => absurd some_ (by simp)⟩
  | some r =>
    have reads := (stringRecord_laid held).reads
    simp only [stringFields, ReadsFrom, Nat.reduceAdd, and_true] at reads
    obtain ⟨number, sync, capacity, account, residue, soc, deficit, validity, reading, rest⟩ := reads
    refine ⟨number, validity, reading.signed, fun none_ => absurd none_ (by simp), fun q same => ?_⟩
    obtain rfl := Option.some.inj same
    exact ⟨sync, capacity, account, residue.signed, soc, deficit, rest⟩

/-! ## READ ROSTER (R112, R212) -/

/-- The bits of a slot record's flags byte. -/
def slotBits (x : Slot) : List Bool :=
  [x.data.any ModuleData.running, x.data.any ModuleData.limiting, x.data.any ModuleData.faultTemp,
    x.data.any ModuleData.faultOutput, x.data.any ModuleData.faultFan, x.data.any ModuleData.acFail,
    x.state.commanded, x.data.isSome]

theorem slotBits_eq (x : Slot) : statusBits x.data + bitAt 6 x.state.commanded = bitsNum (slotBits x) := by
  have none_ (i : Nat) : bitAt i false = 0 := rfl
  cases data : x.data with
  | none => simp [statusBits, slotBits, bitsNum, data, none_]
  | some d =>
    simp only [statusBits, slotBits, bitsNum, data, Option.any_some, Option.isSome_some, List.mapIdx_cons,
      List.mapIdx_nil, List.sum_cons, List.sum_nil, Nat.reduceAdd]
    omega

/-- The fields of the record of a slot, with what its module has told of itself. -/
def slotFields (i place : Nat) (x : Slot) (status : List (Nat × Option Nat)) : List (Nat × Option Nat) :=
  [(1, some (16 * i + place)), (1, some (16 * x.answering.code + x.state.code)), (3, some x.hours),
    (1, some x.faults)] ++ status ++ [(1, some (bitsNum (slotBits x))), (4, some x.lastChange)]

theorem slotRecord_laid {s : State} {i : Nat} {d : ModuleData} (told : (s.slot i).data = some d) :
    Laid (slotFields i (s.position i) (s.slot i) [(2, some d.current), (1, some (twos 1 d.temp))])
      (slotRecord s i) := by
  rw [slotRecord, slotBits_eq, told]
  simp only [statusBytes, List.append_assoc]
  exact .cons (.field _ _) <| .cons (.field _ _) <| .cons (.field _ _) <| .cons (.field _ _) <|
    .cons (.field _ _) <| .cons (.signed _ _) <| .cons (.field _ _) <| .one (.field _ _)

theorem silentSlotRecord_laid {s : State} {i : Nat} (silent : (s.slot i).data = none) :
    Laid (slotFields i (s.position i) (s.slot i) [(3, some 0)]) (slotRecord s i) := by
  rw [slotRecord, slotBits_eq, silent]
  simp only [statusBytes, List.append_assoc]
  exact .cons (.field _ _) <| .cons (.field _ _) <| .cons (.field _ _) <| .cons (.field _ _) <| .cons (.zeros _) <|
    .cons (.field _ _) <| .one (.field _ _)

theorem placeIn_eq (i : Nat) (l : List Nat) : placeIn i l = if i ∈ l then l.idxOf i + 1 else 0 := by
  simp [placeIn]

/-- R112: a slot in one of the two lists has its place there. -/
theorem position_eq (s : State) (i : Nat) :
    (i ∉ s.rect.queue → s.position i = if i ∈ s.rect.running then s.rect.running.idxOf i + 1 else 0) ∧
      (i ∉ s.rect.running → s.position i = if i ∈ s.rect.queue then s.rect.queue.idxOf i + 1 else 0) := by
  simp only [State.position, placeIn_eq]
  exact ⟨fun out => by rw [if_neg out]; exact Nat.max_eq_left (Nat.zero_le _),
    fun out => by rw [if_neg out]; exact Nat.max_eq_right (Nat.zero_le _)⟩

/-- The two codes of a slot always fit their byte. -/
theorem slotCodes_fit (x : Slot) : 16 * x.answering.code + x.state.code < 256 ^ 1 := by
  cases x.answering <;> cases x.state <;> decide

theorem commanded_eq (x : SlotState) : x.commanded = (x == .starting || x == .running) := by cases x <;> rfl

/-- What the first four and the last two fields of a slot record read as, `status` being what stands between. -/
theorem slotRecord_common {s : State} {i : Nat} {x : List Byte} (first : HoldsAt x 0 1 (16 * i + s.position i))
    (flags : MayAt x 9 1 (some (bitsNum (slotBits (s.slot i))))) :
    (i ∉ s.rect.queue → HoldsAt x 0 1 (16 * i + if i ∈ s.rect.running then s.rect.running.idxOf i + 1 else 0)) ∧
      (i ∉ s.rect.running → HoldsAt x 0 1 (16 * i + if i ∈ s.rect.queue then s.rect.queue.idxOf i + 1 else 0)) ∧
      (numAt x 9 1).testBit 6 = ((s.slot i).state == .starting || (s.slot i).state == .running) ∧
      (numAt x 9 1).testBit 7 = (s.slot i).data.isSome := by
  obtain ⟨running, queued⟩ := position_eq s i
  refine ⟨fun out => running out ▸ first, fun out => queued out ▸ first, ?_, ?_⟩
  · rw [flags.bits (by simp [slotBits]), ← commanded_eq]
    rfl
  · rw [flags.bits (by simp [slotBits])]
    rfl

theorem slotRecord_reads (s : State) (i : Nat) :
    let x := slotRecord s i
    let y := s.slot i
    let place := fun l : List Nat => if i ∈ l then l.idxOf i + 1 else 0
    (i ∉ s.rect.queue → HoldsAt x 0 1 (16 * i + place s.rect.running)) ∧
      (i ∉ s.rect.running → HoldsAt x 0 1 (16 * i + place s.rect.queue)) ∧
      numAt x 1 1 = 16 * y.answering.code + y.state.code ∧ HoldsAt x 2 3 y.hours ∧ HoldsAt x 5 1 y.faults ∧
      (numAt x 9 1).testBit 6 = (y.state == .starting || y.state == .running) ∧
      (numAt x 9 1).testBit 7 = y.data.isSome ∧ HoldsAt x 10 4 y.lastChange ∧
      (y.data = none → numAt x 6 3 = 0 ∧ numAt x 9 1 % 64 = 0) ∧
      ∀ d, y.data = some d → HoldsAt x 6 2 d.current ∧ SignedAt x 8 1 d.temp ∧
        (numAt x 9 1).testBit 0 = d.running ∧ (numAt x 9 1).testBit 1 = d.limiting ∧
        (numAt x 9 1).testBit 2 = d.faultTemp ∧ (numAt x 9 1).testBit 3 = d.faultOutput ∧
        (numAt x 9 1).testBit 4 = d.faultFan ∧ (numAt x 9 1).testBit 5 = d.acFail := by
  intro x y place
  cases data : y.data with
  | none =>
    have reads := (silentSlotRecord_laid data).reads
    simp only [slotFields, List.cons_append, List.nil_append, ReadsFrom, Nat.reduceAdd, and_true] at reads
    obtain ⟨first, codes, hours, faults, zeros, flags, change⟩ := reads
    obtain ⟨running, queued, commanded, told⟩ := slotRecord_common first flags
    refine ⟨running, queued, codes.value (slotCodes_fit _), hours, faults, commanded, by rw [told]; exact congrArg _ data,
      change, fun _ => ⟨zeros.value (by decide), ?_⟩, fun d some_ => absurd some_ (by simp)⟩
    rw [flags.byte (by simp [slotBits])]
    simp only [slotBits, show (s.slot i).data = none from data, Option.any_none, Option.isSome_none]
    cases (s.slot i).state.commanded <;> rfl
  | some d =>
    have reads := (slotRecord_laid data).reads
    simp only [slotFields, List.cons_append, List.nil_append, ReadsFrom, Nat.reduceAdd, and_true] at reads
    obtain ⟨first, codes, hours, faults, current, temp, flags, change⟩ := reads
    obtain ⟨running, queued, commanded, told⟩ := slotRecord_common first flags
    refine ⟨running, queued, codes.value (slotCodes_fit _), hours, faults, commanded, by rw [told]; exact congrArg _ data,
      change, fun none_ => absurd none_ (by simp), fun e same => ?_⟩
    obtain rfl := Option.some.inj same
    have bit (k : Nat) : (numAt x 9 1).testBit k = (slotBits (s.slot i)).getD k false := flags.bits (by simp [slotBits]) k
    simp only [slotBits, show (s.slot i).data = some d from data, Option.any_some] at bit
    exact ⟨current, temp.signed, bit 0, bit 1, bit 2, bit 3, bit 4, bit 5⟩

/-! ## READ ALARMS, notices (R181, R208, R212) -/

theorem ageField_eq (now : Nat) (o : Option Nat) :
    ageField now o = optField 3 (o.map fun t => min 16777214 (now - t)) := by
  cases o <;> rfl

/-- The fields of an alarm record. -/
def alarmFields (s : State) (c : Nat) : List (Nat × Option Nat) :=
  [(1, some ((s.record c).state.code + 4 * s.severity c + bitAt 4 (s.latching c) + bitAt 5 (s.record c).cond)),
    (1, some (s.record c).occurrences), (1, some (s.record c).qual),
    (3, (s.record c).firstRaised.map fun t => min 16777214 (s.stamp - t)),
    (3, (s.record c).lastChange.map fun t => min 16777214 (s.stamp - t))]

theorem alarmRecord_laid (s : State) (c : Nat) : Laid (alarmFields s c) (alarmRecord s c) := by
  simp only [alarmRecord, ageField_eq, List.append_assoc]
  exact .cons (.field _ _) <| .cons (.field _ _) <| .cons (.field _ _) <| .cons (.opt _ _) <| .one (.opt _ _)

theorem alarmRecord_reads (s : State) (c : Nat) :
    let x := alarmRecord s c
    let y := s.record c
    let age := fun t : Option Nat => t.map fun n => min 16777214 (s.stamp - n)
    (s.now 5 (4 * c) < 4 → numAt x 0 1 = y.state.code + 4 * s.now 5 (4 * c) +
      (if s.now 5 (4 * c + 1) = 1 then 16 else 0) + if y.cond = true then 32 else 0) ∧
      HoldsAt x 1 1 y.occurrences ∧ HoldsAt x 2 1 y.qual ∧ MayAt x 3 3 (age y.firstRaised) ∧
      MayAt x 6 3 (age y.lastChange) := by
  intro x y age
  have reads := (alarmRecord_laid s c).reads
  simp only [alarmFields, ReadsFrom, Nat.reduceAdd, and_true] at reads
  obtain ⟨first, rest⟩ := reads
  refine ⟨fun severity => ?_, rest⟩
  have latching : bitAt 4 (s.latching c) = if s.now 5 (4 * c + 1) = 1 then 16 else 0 := by
    simp [bitAt, State.latching]
  have cond : bitAt 5 y.cond = if y.cond = true then 32 else 0 := rfl
  have state : (s.record c).state.code ≤ 3 := by cases (s.record c).state <;> decide
  have four : s.severity c = s.now 5 (4 * c) := rfl
  rw [latching, four] at first
  refine first.value ?_
  rw [cond]
  split <;> split <;> omega

/-- The fields of a notice. -/
def noticeFields (n : Notice) : List (Nat × Option Nat) :=
  [(1, some n.kind.code), (1, some n.subject), (2, some n.value), (4, some n.time)]

theorem noticeRecord_laid (n : Notice) : Laid (noticeFields n) (noticeRecord n) := by
  simp only [noticeRecord, List.append_assoc]
  exact .cons (.field _ _) <| .cons (.field _ _) <| .cons (.field _ _) <| .one (.field _ _)

theorem noticeRecord_reads (n : Notice) :
    let x := noticeRecord n
    HoldsAt x 0 1 n.kind.code ∧ HoldsAt x 1 1 n.subject ∧ HoldsAt x 2 2 n.value ∧ HoldsAt x 4 4 n.time := by
  have reads := (noticeRecord_laid n).reads
  simp only [noticeFields, ReadsFrom, Nat.reduceAdd, and_true] at reads
  exact reads

/-! ## READ RUNLOG (R150, R212) -/

/-- The fields of a run record. -/
def runFields (r : RunRec) : List (Nat × Option Nat) :=
  [(1, some r.basis.code), (1, r.opening.map Basis.code), (4, some r.startTime), (4, r.warmupEnd), (4, r.stopTime),
    (1, r.stopReason.map StopReason.code), (1, some r.attempts), (1, some r.fuelStart), (1, r.fuelStop),
    (1, some (if r.reachedOnline = true then 1 else 0))]

theorem runRecord_laid (r : RunRec) : Laid (runFields r) (runRecord r) := by
  simp only [runRecord, List.append_assoc]
  exact .cons (.field _ _) <| .cons (.opt _ _) <| .cons (.field _ _) <| .cons (.opt _ _) <| .cons (.opt _ _) <|
    .cons (.opt _ _) <| .cons (.field _ _) <| .cons (.field _ _) <| .cons (.opt _ _) <| .one (.flag _)

/-- A flag always fits. -/
theorem MayAt.flag {x : List Byte} {p : Nat} {b : Bool} (h : MayAt x p 1 (some (if b = true then 1 else 0))) :
    numAt x p 1 = if b = true then 1 else 0 := by
  refine h.value ?_
  split <;> decide

theorem runLogRecord_reads (s : State) (age : Nat) :
    let x := runLogRecord s age
    (s.gen.log[age]? = none → numAt x 0 19 = 256 ^ 19 - 1) ∧
      ∀ r, s.gen.log[age]? = some r →
        HoldsAt x 0 1 r.basis.code ∧ MayAt x 1 1 (r.opening.map Basis.code) ∧ HoldsAt x 2 4 r.startTime ∧
          MayAt x 6 4 r.warmupEnd ∧ MayAt x 10 4 r.stopTime ∧ MayAt x 14 1 (r.stopReason.map StopReason.code) ∧
          HoldsAt x 15 1 r.attempts ∧ HoldsAt x 16 1 r.fuelStart ∧ MayAt x 17 1 r.fuelStop ∧
          numAt x 18 1 = if r.reachedOnline = true then 1 else 0 := by
  intro x
  refine ⟨fun empty => ?_, fun r kept => ?_⟩
  · have record : x = absentField 19 := by simp only [x, runLogRecord, empty]
    rw [record]
    exact (Laid.one (Encodes.absent 19)).reads.1.gone
  · have record : x = runRecord r := by simp only [x, runLogRecord, kept]
    have reads := (runRecord_laid r).reads
    simp only [runFields, ReadsFrom, Nat.reduceAdd, and_true] at reads
    obtain ⟨basis, opening, start, warm, stop, reason, attempts, fuel, fuelStop, online⟩ := reads
    rw [record]
    exact ⟨basis, opening, start, warm, stop, reason, attempts, fuel, fuelStop, online.flag⟩

/-! ## READ CLOCK (R211) -/

theorem lastExerciseBytes_eq (o : Option LastExercise) : lastExerciseBytes o =
    optField 2 ((o.map LastExercise.date).map Date.year) ++ (optField 1 ((o.map LastExercise.date).map Date.month) ++
      (optField 1 ((o.map LastExercise.date).map Date.day) ++ optField 1 (o.map fun y => y.outcome.code))) := by
  cases o with
  | none => rfl
  | some e => simp [lastExerciseBytes, optField]

/-- The fields of READ CLOCK. -/
def clockFields (c : Cal) : List (Nat × Option Nat) :=
  let date := c.last.map LastExercise.date
  [(2, some c.year), (1, some c.month), (1, some c.day), (1, some c.hour), (1, some c.minute), (1, some c.second),
    (1, some c.weekday), (1, some (if c.valid = true then 1 else 0)), (1, some c.exState.code),
    (4, if c.exState = .none then none else some c.exWindow), (1, some (if c.missed = true then 1 else 0)),
    (2, date.map Date.year), (1, date.map Date.month), (1, date.map Date.day), (1, c.last.map fun y => y.outcome.code)]

theorem clockRecord_laid (c : Cal) : Laid (clockFields c) (clockRecord c) := by
  have window : (if c.exState = .none then absentField 4 else field 4 c.exWindow) =
      optField 4 (if c.exState = .none then none else some c.exWindow) := by
    split <;> rfl
  simp only [clockRecord, lastExerciseBytes_eq, window, List.append_assoc]
  exact .cons (.field _ _) <| .cons (.field _ _) <| .cons (.field _ _) <| .cons (.field _ _) <| .cons (.field _ _) <|
    .cons (.field _ _) <| .cons (.field _ _) <| .cons (.flag _) <| .cons (.field _ _) <| .cons (.opt _ _) <|
    .cons (.flag _) <| .cons (.opt _ _) <| .cons (.opt _ _) <| .cons (.opt _ _) <| .one (.opt _ _)

theorem clockRecord_reads (c : Cal) :
    let x := clockRecord c
    let date := c.last.map LastExercise.date
    HoldsAt x 0 2 c.year ∧ HoldsAt x 2 1 c.month ∧ HoldsAt x 3 1 c.day ∧ HoldsAt x 4 1 c.hour ∧
      HoldsAt x 5 1 c.minute ∧ HoldsAt x 6 1 c.second ∧ HoldsAt x 7 1 c.weekday ∧
      numAt x 8 1 = (if c.valid = true then 1 else 0) ∧ HoldsAt x 9 1 c.exState.code ∧
      MayAt x 10 4 (if c.exState = .none then none else some c.exWindow) ∧
      numAt x 14 1 = (if c.missed = true then 1 else 0) ∧ MayAt x 15 2 (date.map Date.year) ∧
      MayAt x 17 1 (date.map Date.month) ∧ MayAt x 18 1 (date.map Date.day) ∧
      MayAt x 19 1 (c.last.map fun y => y.outcome.code) := by
  have reads := (clockRecord_laid c).reads
  simp only [clockFields, ReadsFrom, Nat.reduceAdd, and_true] at reads
  obtain ⟨year, month, day, hour, minute, second, weekday, valid, owed, window, missed, last⟩ := reads
  exact ⟨year, month, day, hour, minute, second, weekday, valid.flag, owed, window, missed.flag, last⟩

end Sys2Proof.Machine
end

section
/-! SUPPORT and the statement about the reads (R199, R201, R203, R208, R211, R212): the sections of STATUS field by field,
and what each read answers. -/

namespace Sys2Proof.Machine

/-! ## The sections of STATUS (R70, R85, R112, R150, R203) -/

/-- A field of one byte for a yes or a no. -/
abbrev flagOf (b : Bool) : Nat × Option Nat := (1, some (if b = true then 1 else 0))

/-- A signed field of two bytes. -/
abbrev twoOf (v : Int) : Nat × Option Nat :=
  (2, some (if -32768 ≤ v ∧ v < 32768 then (v % 65536).toNat else 65536))

theorem twos_two (v : Int) : twos 2 v = if -32768 ≤ v ∧ v < 32768 then (v % 65536).toNat else 65536 := by
  have ranges : (-(256 ^ 2 : Int) ≤ 2 * v ∧ 2 * v < (256 ^ 2 : Int)) ↔ -32768 ≤ v ∧ v < 32768 := by omega
  unfold twos
  simp only [ranges]
  norm_num

theorem Encodes.two (v : Int) : Encodes (twoOf v) (signedField 2 v) := by
  have signed := Encodes.signed 2 v
  rwa [twos_two] at signed

theorem flagField_eq (b : Bool) : flagField b = optField 1 (some (if b = true then 1 else 0)) := by cases b <;> rfl

/-- The fields of PLANT. -/
def plantFields (s : State) : List (Nat × Option Nat) :=
  [(1, some s.sup.mode.code), flagOf s.sup.ac, flagOf s.meas.mainsQualified, flagOf s.meas.genPresent,
    flagOf s.sup.hold.isSome, (1, s.sup.hold.map fun h => h.cause.code), (2, s.sup.hold.map fun h => h.left / 60),
    (1, some s.link.address), flagOf s.link.strapFault, (1, some s.sup.startKind.code), (1, some s.sup.startCause.code),
    (1, some s.link.rate)]

theorem plantSection_laid (s : State) : Laid (plantFields s) (plantSection s) := by
  simp only [plantSection, List.append_assoc]
  exact .cons (.field _ _) <| .cons (.flag _) <| .cons (.flag _) <| .cons (.flag _) <| .cons (.flag _) <|
    .cons (.opt _ _) <| .cons (.opt _ _) <| .cons (.field _ _) <| .cons (.flag _) <| .cons (.field _ _) <|
    .cons (.field _ _) <| .one (.field _ _)

/-- The fields of CHARGE. -/
def chargeFields (s : State) : List (Nat × Option Nat) :=
  let held := fun (st : Stage) (v : Nat) => if s.charge.stage = st then some v else none
  let e := s.charge.eq
  [(1, some s.charge.stage.code), (2, some s.charge.setpoint), (2, some s.charge.ibl), twoOf s.charge.tb,
    twoOf s.charge.tc, flagOf s.charge.latch, (1, held .bulk s.charge.absorbCount),
    (2, held .absorb s.charge.tailCount), (4, held .absorb s.charge.absorbTimer), flagOf s.charge.armed,
    (1, some e.state.code), (2, if e.state = .running ∨ e.state = .suspended then some (e.remaining / 60) else none),
    (2, some e.dayCount), (2, some e.daysWaiting), (1, s.charge.test.map TestRec.target),
    (2, s.charge.test.map fun y => y.elapsed / 60)]

theorem equalizeMinutes_eq (e : EqRec) :
    e.minutesLeft = if e.state = .running ∨ e.state = .suspended then some (e.remaining / 60) else none := by
  cases state : e.state <;> simp [EqRec.minutesLeft, state]

theorem chargeSection_laid (s : State) : Laid (chargeFields s) (chargeSection s) := by
  simp only [chargeSection, equalizeMinutes_eq, List.append_assoc]
  exact .cons (.field _ _) <| .cons (.field _ _) <| .cons (.field _ _) <| .cons (.two _) <| .cons (.two _) <|
    .cons (.flag _) <| .cons (.opt _ _) <| .cons (.opt _ _) <| .cons (.opt _ _) <| .cons (.flag _) <|
    .cons (.field _ _) <| .cons (.opt _ _) <| .cons (.field _ _) <| .cons (.field _ _) <| .cons (.opt _ _) <|
    .one (.opt _ _)

/-- The fields of PROTECTION. -/
def protectionFields (p : Prot) : List (Nat × Option Nat) :=
  [(1, some p.nel.code), (1, p.shedCause.map ShedCause.code), (1, some p.bpd.code), (2, some p.shedCount),
    (2, some p.nelCount), (2, some p.disconnectCount), (2, some p.bpdCount), (1, some p.dischargeCount)]

theorem protectionSection_laid (s : State) : Laid (protectionFields s.prot) (protectionSection s) := by
  simp only [protectionSection, List.append_assoc]
  exact .cons (.field _ _) <| .cons (.opt _ _) <| .cons (.field _ _) <| .cons (.field _ _) <| .cons (.field _ _) <|
    .cons (.field _ _) <| .cons (.field _ _) <| .one (.field _ _)

theorem swapBytes_eq (o : Option Swap) : swapBytes o =
    optField 1 (o.map Swap.incoming) ++ (optField 1 (o.map Swap.outgoing) ++ (optField 1 (o.map fun y => y.phase.code) ++
      optField 2 (o.bind fun y => if y.phase = .overlap then some y.overlap else none))) := by
  cases o with
  | none => rfl
  | some w => simp [swapBytes, optField]

theorem lastSwapBytes_eq (o : Option LastSwap) : lastSwapBytes o =
    optField 1 (o.map LastSwap.incoming) ++ (optField 1 (o.map LastSwap.outgoing) ++
      (optField 1 (o.map fun y => y.outcome.code) ++ optField 4 (o.map LastSwap.endTime))) := by
  cases o with
  | none => rfl
  | some w => simp [lastSwapBytes, optField]

/-- The fields of ROSTER. -/
def rosterFields (s : State) : List (Nat × Option Nat) :=
  let w := s.rect.swap
  [(1, some s.nUp), (1, some s.nDown), (1, some s.rect.running.length), (2, some s.rect.im),
    (1, some (s.fittedSlots.filter fun i => (s.slot i).state == .standby || (s.slot i).state == .starting ||
      (s.slot i).state == .running).length),
    (1, if s.gen.machine = .online then some s.nGen else none), (1, w.map Swap.incoming), (1, w.map Swap.outgoing),
    (1, w.map fun y => y.phase.code), (2, w.bind fun y => if y.phase = .overlap then some y.overlap else none),
    (1, s.rect.lastSwap.map LastSwap.incoming), (1, s.rect.lastSwap.map LastSwap.outgoing),
    (1, s.rect.lastSwap.map fun y => y.outcome.code), (4, s.rect.lastSwap.map LastSwap.endTime),
    (2, some (s.rect.rotation / 3600)),
    flagOf (decide (s.inForce 4 6 ≠ 0 ∧ s.inForce 4 6 * 3600 ≤ s.rect.rotation)), flagOf s.rect.rotationRequest]

theorem rosterSection_laid (s : State) : Laid (rosterFields s) (rosterSection s) := by
  have generators : (if s.online then some s.nGen else none) = if s.gen.machine = .online then some s.nGen else none := by
    simp [State.online]
  simp only [rosterSection, generators, swapBytes_eq, lastSwapBytes_eq, List.append_assoc]
  exact .cons (.field _ _) <| .cons (.field _ _) <| .cons (.field _ _) <| .cons (.field _ _) <| .cons (.field _ _) <|
    .cons (.opt _ _) <| .cons (.opt _ _) <| .cons (.opt _ _) <| .cons (.opt _ _) <| .cons (.opt _ _) <|
    .cons (.opt _ _) <| .cons (.opt _ _) <| .cons (.opt _ _) <| .cons (.opt _ _) <| .cons (.field _ _) <|
    .cons (.flag _) <| .one (.flag _)

theorem runBytes_eq (o : Option Run) : runBytes o =
    optField 1 (o.map fun y => y.basis.code) ++ (optField 1 (o.bind fun y => y.opening.map Basis.code) ++
      (optField 1 (o.map fun y => if y.exMark = true then 1 else 0) ++
        (optField 1 (o.bind fun y => if y.basis = .manual then some (if y.load = true then 1 else 0) else none) ++
          (optField 1 (o.map Run.attempts) ++ (optField 4 (o.bind fun y => y.warmupEnd.map fun _ => y.runTime) ++
            optField 2 (o.bind fun y => y.duration.map fun d => (60 * d - y.durCount.getD 0) / 60)))))) := by
  cases o with
  | none => rfl
  | some r =>
    have load : (if r.basis = .manual then flagField r.load else absentField 1) =
        optField 1 (if r.basis = .manual then some (if r.load = true then 1 else 0) else none) := by
      split
      · exact flagField_eq r.load
      · rfl
    have left : r.minutesLeft = r.duration.map fun d => (60 * d - r.durCount.getD 0) / 60 := by
      simp only [Run.minutesLeft, Nat.mul_comm]
    simp only [runBytes, load, left, flagField_eq r.exMark, List.append_assoc]
    rfl

/-- The fields of GENERATOR. -/
def generatorFields (s : State) : List (Nat × Option Nat) :=
  let g := s.gen
  [(1, some g.machine.code), (4, some g.stateCount), (1, g.run.map fun y => y.basis.code),
    (1, g.run.bind fun y => y.opening.map Basis.code), (1, g.run.map fun y => if y.exMark = true then 1 else 0),
    (1, g.run.bind fun y => if y.basis = .manual then some (if y.load = true then 1 else 0) else none),
    (1, g.run.map Run.attempts), (4, g.run.bind fun y => y.warmupEnd.map fun _ => y.runTime),
    (2, g.run.bind fun y => y.duration.map fun d => (60 * d - y.durCount.getD 0) / 60),
    (1, g.failReason.map FailReason.code), (4, if g.machine = .failed then some g.rearmMinutes else none),
    (2, some g.restCount), flagOf g.stopHold.isSome, (1, g.stopHold.map fun n => n / 60), flagOf (causeMainsFail s),
    flagOf (causeAccountLow s), flagOf (causeBusLow s), flagOf (causeRemote s), flagOf (causeExercise s),
    (4, g.mainsFailTimer.map fun n => n / 60), flagOf g.spent, flagOf g.fuelLow, flagOf g.fuelEmpty,
    flagOf (decide (g.machine = .online))]

theorem generatorSection_laid (s : State) : Laid (generatorFields s) (generatorSection s) := by
  have online : s.online = decide (s.gen.machine = .online) := by
    simp only [State.online]
    cases s.gen.machine <;> rfl
  simp only [generatorSection, runBytes_eq, online, List.append_assoc]
  exact .cons (.field _ _) <| .cons (.field _ _) <| .cons (.opt _ _) <| .cons (.opt _ _) <| .cons (.opt _ _) <|
    .cons (.opt _ _) <| .cons (.opt _ _) <| .cons (.opt _ _) <| .cons (.opt _ _) <| .cons (.opt _ _) <|
    .cons (.opt _ _) <| .cons (.field _ _) <| .cons (.flag _) <| .cons (.opt _ _) <| .cons (.flag _) <|
    .cons (.flag _) <| .cons (.flag _) <| .cons (.flag _) <| .cons (.flag _) <| .cons (.opt _ _) <|
    .cons (.flag _) <| .cons (.flag _) <| .cons (.flag _) <| .one (.flag _)

/-! ## What a read answers (R199, R201) -/

/-- A read that changes nothing: its answer is in hand. -/
theorem onRequest_answers {kind : Byte} {i : Instr} {s : State} {a : Answer} (on : s.powered = true)
    (hears : s.hears = true) (serves : serveRequest i s = (s, a)) : onRequest kind i s = .next (holdAnswer kind a s) := by
  rw [onRequest_on kind i s on hears, serves]

theorem sourceResult_other {accepts : Bool} {source : Byte} {s : State} (notLive : source ≠ 0#8)
    (noCopy : accepts = true → source ≠ 1#8 ∨ s.link.snapshot = none) : sourceResult accepts source s =
      some (if source = 1#8 ∧ accepts = true then .noSnapshot else .badField) := by
  rw [sourceResult, if_neg notLive]
  by_cases copy : source = 1#8 ∧ accepts = true
  · have gone : s.link.snapshot = none := (noCopy copy.2).resolve_left fun other => other copy.1
    rw [if_pos copy, if_pos copy, gone]
    rfl
  · rw [if_neg copy, if_neg copy]

theorem readFrom_live (live : State → Answer) (copy : Snapshot → Answer) (s : State) :
    readFrom 0#8 live copy s = live s := rfl

theorem readLive_live (live : State → Answer) (s : State) : readLive 0#8 live s = live s := rfl

/-- R201: without a snapshot every source but LIVE is refused. -/
theorem readFrom_refused {source : Byte} {s : State} (notLive : source ≠ 0#8)
    (noCopy : source ≠ 1#8 ∨ s.link.snapshot = none) (live : State → Answer) (copy : Snapshot → Answer) :
    readFrom source live copy s = .refuse (if source = 1#8 then .noSnapshot else .badField) := by
  have result := sourceResult_other (accepts := true) notLive fun _ => noCopy
  simp only [and_true] at result
  rw [readFrom, result]

/-- R201: where no snapshot is kept every source but LIVE is refused. -/
theorem readLive_refused {source : Byte} (notLive : source ≠ 0#8) (live : State → Answer) (s : State) :
    readLive source live s = .refuse .badField := by
  have result := sourceResult_other (accepts := false) (s := s) notLive (by simp)
  rw [readLive, result, if_neg (by simp)]

theorem recordRun_within {size most first count : Nat} (h : 1 ≤ count ∧ count ≤ most ∧ first + count ≤ size)
    (record : Nat → List Byte) :
    recordRun size most first count record = .give ((List.range count).flatMap fun j => record (first + j)) :=
  if_neg (by omega)

theorem recordRun_outside {size most first count : Nat} (h : ¬ (1 ≤ count ∧ count ≤ most ∧ first + count ≤ size))
    (record : Nat → List Byte) : recordRun size most first count record = .refuse .badField :=
  if_pos (by omega)

theorem stringAnswer_within {string : Nat} (h : 1 ≤ string ∧ string ≤ 4) (record : Nat → List Byte) :
    stringAnswer string record = .give (record (string - 1)) := if_neg (by omega)

theorem stringAnswer_outside {string : Nat} (h : string = 0 ∨ 4 < string) (record : Nat → List Byte) :
    stringAnswer string record = .refuse .badField := if_pos h

/-- R203: there are five sections. -/
theorem statusAnswer_outside {sect : Nat} (h : 4 < sect) (s : State) : statusAnswer sect s = .refuse .badField := by
  obtain ⟨n, rfl⟩ := Nat.exists_eq_add_of_lt h
  rw [show 4 + n + 1 = n + 5 by omega]
  rfl

theorem serveStatus_outside (source : Byte) {sect : Byte} (s : State) (h : 4 < sect.toNat) :
    (if sect = 4#8 then readFrom source (statusAnswer 4) (fun k => .give k.generator) s
      else readLive source (statusAnswer sect.toNat) s) = .refuse .badField := by
  have other : sect ≠ 4#8 := by
    rintro rfl
    exact absurd h (by decide)
  rw [if_neg other]
  by_cases live : source = 0#8
  · rw [live, readLive_live, statusAnswer_outside h]
  · exact readLive_refused live _ s

/-! ## Lengths (R208) -/

theorem measureRecord_length (s : State) : (measureRecord s).length = 35 := by
  simp [(measureRecord_laid s).length, measureFields]

theorem stringRecord_length (s : State) (i : Nat) : (stringRecord s i).length = 41 := by
  cases held : s.stringRec i with
  | none => simp [(noStringRecord_laid held).length, noStringFields]
  | some r => simp [(stringRecord_laid held).length, stringFields]

theorem slotRecord_length (s : State) (i : Nat) : (slotRecord s i).length = 14 := by
  cases data : (s.slot i).data with
  | none => simp [(silentSlotRecord_laid data).length, slotFields]
  | some d => simp [(slotRecord_laid data).length, slotFields]

theorem alarmRecord_length (s : State) (c : Nat) : (alarmRecord s c).length = 9 := by
  simp [(alarmRecord_laid s c).length, alarmFields]

theorem runLogRecord_length (s : State) (age : Nat) : (runLogRecord s age).length = 19 := by
  cases kept : s.gen.log[age]? with
  | none => simp only [runLogRecord, kept, absentField_length]
  | some r => simp [runLogRecord, kept, (runRecord_laid r).length, runFields]

theorem clockRecord_length (c : Cal) : (clockRecord c).length = 20 := by
  simp [(clockRecord_laid c).length, clockFields]

theorem recordRun_length {size : Nat} {record : Nat → List Byte} (each : ∀ i, (record i).length = size)
    (first count : Nat) : ((List.range count).flatMap fun j => record (first + j)).length = size * count := by
  simp [List.length_flatMap, each, Nat.mul_comm]

/-! ## Enumerated values (R214) -/

theorem numberedInOrder : NumberedInOrder := by
  unfold NumberedInOrder
  decide

end Sys2Proof.Machine

open Sys2Proof Sys2Proof.Machine

/-- Settles O57: what each read answers, then what the fields of each record read as. -/
theorem readsAnswerFromTheTables : Obligations.ReadsAnswerFromTheTables := by
  intro source a b s on hears gives refuses slots codes
  have answer {i : Instr} {kind : Byte} {x : Answer} (serves : serveRequest i s = (s, x)) :
      onRequest kind i s = .next (holdAnswer kind x s) := onRequest_answers on hears serves
  have served {x y : Answer} (h : x = y) : (s, x) = (s, y) := congrArg (Prod.mk s) h
  refine ⟨⟨answer rfl, measureRecord_length s⟩, fun low high => ⟨?_, stringRecord_length s _⟩, fun outside => ?_,
    fun within => ⟨?_, recordRun_length (slotRecord_length s) _ _⟩, fun outside => ?_,
    fun within => ⟨?_, recordRun_length (alarmRecord_length s) _ _⟩, fun outside => ?_,
    fun within => ⟨?_, runLogRecord_length s _⟩, fun outside => ?_, ⟨answer rfl, clockRecord_length s.cal⟩,
    answer rfl, answer rfl, answer rfl, answer rfl, answer rfl, fun outside => ?_,
    fun notLive => ⟨?_, ?_, fun other => ?_⟩, fun notLive noCopy => ?_,
    ⟨measureRecord_reads s, fun i _ => stringRecord_reads s i, fun i _ => slotRecord_reads s i,
      fun c _ => alarmRecord_reads s c, fun n _ => noticeRecord_reads n, runLogRecord_reads s a.toNat,
      clockRecord_reads s.cal, ?_⟩, numberedInOrder⟩
  · exact answer (served (stringAnswer_within ⟨low, high⟩ _))
  · exact answer (served (stringAnswer_outside outside _))
  · exact answer (served (recordRun_within within _))
  · exact answer (served (recordRun_outside outside _))
  · exact answer (served (recordRun_within within _))
  · exact answer (served (recordRun_outside outside _))
  · exact answer (served (if_neg (Nat.not_lt.2 within)))
  · exact answer (served (if_pos outside))
  · exact answer (served (serveStatus_outside source s outside))
  · exact answer (served (readLive_refused notLive _ s))
  · exact answer (served (readLive_refused notLive _ s))
  · exact answer (served ((if_neg other).trans (readLive_refused notLive _ s)))
  · exact ⟨answer (served (readFrom_refused notLive noCopy _ _)), answer (served (readFrom_refused notLive noCopy _ _)),
      answer (served (readFrom_refused notLive noCopy _ _)), answer (served (readFrom_refused notLive noCopy _ _)),
      answer (served (readFrom_refused notLive noCopy _ _))⟩
  · exact ⟨⟨(plantSection_laid s).length, (plantSection_laid s).read⟩,
      ⟨(chargeSection_laid s).length, (chargeSection_laid s).read⟩,
      ⟨(protectionSection_laid s).length, (protectionSection_laid s).read⟩,
      ⟨(rosterSection_laid s).length, (rosterSection_laid s).read⟩,
      (generatorSection_laid s).length, (generatorSection_laid s).read⟩
end

section
/-! SUPPORT. The commands that move the stage (R51 to R53), the battery limit (R58) and the battery temperature (R46). -/

namespace Sys2Proof.Machine

/-! ## The stage moves (R45, R51, R53) -/

/-- A stage entered leaves all but the charge controller, the module limit and one notice. -/
theorem changeStage_moves {old new : Stage} {s : State} (stage : s.charge.stage = old) (ne : old ≠ new)
    (notTest : new ≠ .test) :
    let t := changeStage new s
    StageEntered new s t ∧ t.charge.eq = s.charge.eq ∧ t.charge.test = s.charge.test ∧
      t = { s with
        charge := t.charge, rect := t.rect, alarm := (post .stageChange new.code old.code s).alarm } := by
  have leaves : s.charge.stage ≠ new := by rwa [stage]
  refine ⟨changeStage_entered leaves, by rw [changeStage_charge leaves], by rw [changeStage_charge leaves], ?_⟩
  apply State.ext_parts
  case alarm => rw [changeStage_alarm leaves notTest, stage]
  case prot => rw [changeStage_prot notTest]
  all_goals simp

/-! ## The tail exit (R34, R52, R138) -/

theorem fullCharge_stringRec (s : State) {i : Nat} (hi : i < 4) : (fullCharge s).stringRec i =
    ((accountIntegrate s).stringRec i).map fun r =>
      if (s.stringChannel i).validity = .valid then { r with account := r.amax, residue := 0, sync := .sync } else r := by
  have channel : (accountIntegrate s).stringChannel i = s.stringChannel i := by simp [State.stringChannel]
  rw [fullCharge, mapStrings_stringRec _ _ hi, ← channel]

/-- R138: the tail mark of a run in progress. -/
theorem reportTail_gen (s : State) : (reportTail s).gen =
    if s.gen.machine = .idle ∨ s.gen.machine = .failed then s.gen
    else { s.gen with run := s.gen.run.map fun r => { r with tailMark := true } } := by
  unfold reportTail
  split <;> rfl

theorem tailExit_stringRec (s : State) {i : Nat} (hi : i < 4) : (tailExit s).stringRec i =
    ((accountIntegrate s).stringRec i).map fun r =>
      if (s.stringChannel i).validity = .valid then { r with account := r.amax, residue := 0, sync := .sync } else r := by
  have records : (tailExit s).acct = (fullCharge s).acct := by simp [tailExit]
  rw [stringRec_congr records, fullCharge_stringRec s hi]

/-- R34: by the tail every string that is measured now is full. -/
theorem tailExit_full (s : State) {i : Nat} (hi : i < 4) (valid : (s.stringChannel i).validity = .valid) :
    ((tailExit s).stringRec i).map (fun r => (r.account, r.residue, r.sync)) =
      ((tailExit s).stringRec i).map fun r => (100 * r.capacity, 0, Sync.sync) := by
  rw [tailExit_stringRec s hi, Option.map_map, Option.map_map]
  simp only [valid, if_true]
  rfl

theorem tailExit_taken {s : State} (taken : s.acct.taken = true) {i : Nat} (hi : i < 4) : (tailExit s).stringRec i =
    (s.stringRec i).map fun r =>
      if (s.stringChannel i).validity = .valid then
        { r with account := 100 * r.capacity, residue := 0, sync := .sync }
      else r := by
  rw [tailExit_stringRec s hi, accountIntegrate_taken taken]
  rfl

theorem tailExit_moves {s : State} (stage : s.charge.stage = .absorb) :
    let t := tailExit s
    StageEntered .float s t ∧ t.charge.eq = s.charge.eq ∧ t.charge.test = s.charge.test ∧
      t.gen = (if s.gen.machine = .idle ∨ s.gen.machine = .failed then s.gen
        else { s.gen with run := s.gen.run.map fun r => { r with tailMark := true } }) ∧
      t = { s with
        acct := t.acct, charge := t.charge, rect := t.rect, gen := t.gen
        alarm := (post .stageChange Stage.float.code Stage.absorb.code s).alarm } := by
  dsimp only
  unfold tailExit
  have gen : (changeStage .float (reportTail (fullCharge s))).gen = (reportTail (fullCharge s)).gen := by simp
  have marked := reportTail_gen (fullCharge s)
  have machine : (fullCharge s).gen = s.gen := by simp
  rw [machine] at marked
  have charge : (reportTail (fullCharge s)).charge = s.charge := by simp
  obtain ⟨entered, eq, test, frame⟩ := changeStage_moves (s := reportTail (fullCharge s)) (old := .absorb) (new := .float)
    (by rw [charge]; exact stage) (by decide) (by decide)
  rw [charge] at eq test
  refine ⟨entered.source (by rw [charge]) (by simp) (by simp), eq, test, gen.trans marked, ?_⟩
  have notice : (post .stageChange Stage.float.code Stage.absorb.code (reportTail (fullCharge s))).alarm =
      (post .stageChange Stage.float.code Stage.absorb.code s).alarm := post_alarm_congr (by simp) (by simp) _ _ _
  have alarm := congrArg State.alarm frame
  apply State.ext_parts
  case alarm => exact alarm.trans notice
  case prot => rw [changeStage_prot (by decide)]; simp
  all_goals simp

/-! ## The battery limit (R58) -/

/-- R58 step 1: what one string adds. -/
def chargeShare (s : State) (i : Nat) : Nat :=
  match s.stringRec i with
  | some r => if (s.stringChannel i).validity = .unusable then 0 else r.capacity * s.inForce 1 11 / 10
  | none => 0

theorem chargeRateSum_eq (s : State) : chargeRateSum s = ((List.range 4).map (chargeShare s)).sum := by
  have sums (l : List Nat) :
      ((((l.filterMap fun i => (s.stringRec i).map fun r => (r, s.stringChannel i)).filter
        fun p => p.2.validity != .unusable).map fun p => p.1.capacity * s.inForce 1 11 / 10).sum) =
      (l.map (chargeShare s)).sum := by
    induction l with
    | nil => rfl
    | cons i l ih =>
      rw [List.map_cons, List.sum_cons, ← ih]
      cases held : s.stringRec i with
      | none => simp [chargeShare, held]
      | some r =>
        by_cases unusable : (s.stringChannel i).validity = .unusable <;> simp [chargeShare, held, unusable]
  exact sums (List.range 4)

theorem batteryLimit_eq (s : State) :
    let whole := chargeShare s 0 + chargeShare s 1 + chargeShare s 2 + chargeShare s 3
    let cooled := if (s.inForce 1 8 : Int) ≤ s.charge.tb then whole / 2 else whole
    let spare : Int := (s.inForce 3 25 : Int) - s.meas.load
    batteryLimit s = if s.gen.machine = .online then min cooled (max 0 spare).toNat else cooled := by
  have whole : chargeRateSum s = chargeShare s 0 + chargeShare s 1 + chargeShare s 2 + chargeShare s 3 := by
    rw [chargeRateSum_eq]
    simp [List.range_succ]
    omega
  have spare : (max 0 ((s.inForce 3 25 : Int) - s.meas.load)).toNat = s.inForce 3 25 - s.meas.load := by omega
  simp only [batteryLimit, whole, State.online, beq_iff_eq, spare]

/-! ## The battery temperature (R46) -/

/-- R46: thermistor `t` serves a fitted string and is measured. -/
abbrev ServesTemp (s : State) (t : Nat) : Prop :=
  thermistorAssigned s t = true ∧ ((s.therm t).validity = .valid ∨ (s.therm t).validity = .held)

theorem servesTemp_iff (s : State) (t : Nat) :
    (thermistorAssigned s t && (s.therm t).measured) = true ↔ ServesTemp s t := by
  simp [ServesTemp, Channel.measured]

/-- R46: the warmest of the readings looked at so far, from `w` on. -/
def warmestOf (s : State) (w : Option Int) (l : List Nat) : Option Int :=
  l.foldl (fun w t => if thermistorAssigned s t && (s.therm t).measured then warmer w (s.therm t).reading else w) w

theorem warmer_some (w : Option Int) (x : Int) :
    ∃ y, warmer w x = some y ∧ x ≤ y ∧ (∀ z, w = some z → z ≤ y) ∧ (w = some y ∨ x = y) := by
  cases w with
  | none => exact ⟨x, rfl, le_refl x, fun z held => by simp at held, .inr rfl⟩
  | some z =>
    refine ⟨max z x, rfl, le_max_right z x, fun u held => Option.some.inj held ▸ le_max_left z x, ?_⟩
    rcases max_choice z x with first | second
    · exact .inl (by rw [first])
    · exact .inr second.symm

/-- The warmest is no cooler than any, and is one of them. -/
theorem warmestOf_spec (s : State) (w : Option Int) (l : List Nat) :
    (∀ z, w = some z → ∃ y, warmestOf s w l = some y ∧ z ≤ y) ∧
      (∀ t ∈ l, ServesTemp s t → ∃ y, warmestOf s w l = some y ∧ (s.therm t).reading ≤ y) ∧
      ∀ y, warmestOf s w l = some y → w = some y ∨ ∃ t ∈ l, ServesTemp s t ∧ y = (s.therm t).reading := by
  induction l generalizing w with
  | nil => exact ⟨fun z held => ⟨z, held, le_refl z⟩, fun t mem => by simp at mem, fun y held => .inl held⟩
  | cons t l ih =>
    by_cases serves : ServesTemp s t
    · have next : warmestOf s w (t :: l) = warmestOf s (warmer w (s.therm t).reading) l := by
        rw [warmestOf, List.foldl_cons, if_pos ((servesTemp_iff s t).2 serves)]
        rfl
      obtain ⟨above, others, one⟩ := ih (warmer w (s.therm t).reading)
      obtain ⟨u, warmed, self, older, from_⟩ := warmer_some w (s.therm t).reading
      obtain ⟨y, found, higher⟩ := above u warmed
      rw [next]
      refine ⟨fun z held => ⟨y, found, (older z held).trans higher⟩, fun k mem kServes => ?_, fun v held => ?_⟩
      · rcases List.mem_cons.1 mem with rfl | later
        · exact ⟨y, found, self.trans higher⟩
        · exact others k later kServes
      · rcases one v held with first | ⟨k, later, kServes, reading⟩
        · obtain rfl : u = v := Option.some.inj (warmed.symm.trans first)
          exact from_.imp_right fun same => ⟨t, List.mem_cons_self, serves, same.symm⟩
        · exact .inr ⟨k, List.mem_cons_of_mem t later, kServes, reading⟩
    · have next : warmestOf s w (t :: l) = warmestOf s w l := by
        rw [warmestOf, List.foldl_cons, if_neg (mt (servesTemp_iff s t).1 serves)]
        rfl
      obtain ⟨above, others, one⟩ := ih w
      rw [next]
      refine ⟨above, fun k mem kServes => ?_, fun v held => (one v held).imp_right fun ⟨k, later, rest⟩ =>
        ⟨k, List.mem_cons_of_mem t later, rest⟩⟩
      rcases List.mem_cons.1 mem with rfl | later
      · exact absurd kServes serves
      · exact others k later kServes

theorem warmest_eq (s : State) : warmest s = warmestOf s none (List.range 4) := rfl

/-- R46: Tb is the warmest serving reading, or without one the fallback. -/
theorem warmest_spec (s : State) :
    (∀ i, i < 4 → ServesTemp s i → (s.therm i).reading ≤ (warmest s).getD (s.inForce 1 6)) ∧
      ((∃ i, i < 4 ∧ ServesTemp s i) →
        ∃ i, i < 4 ∧ ServesTemp s i ∧ (warmest s).getD (s.inForce 1 6) = (s.therm i).reading) ∧
      ((∀ i, i < 4 → ¬ ServesTemp s i) → warmest s = none) ∧
      ∀ i, i < 4 → ServesTemp s i → (warmest s).isSome = true := by
  obtain ⟨-, above, one⟩ := warmestOf_spec s none (List.range 4)
  rw [← warmest_eq] at above one
  have found (i : Nat) (hi : i < 4) (serves : ServesTemp s i) := above i (List.mem_range.2 hi) serves
  have source (y : Int) (held : warmest s = some y) : ∃ i, i < 4 ∧ ServesTemp s i ∧ y = (s.therm i).reading := by
    obtain ⟨i, mem, serves, reading⟩ := (one y held).resolve_left (by simp)
    exact ⟨i, List.mem_range.1 mem, serves, reading⟩
  refine ⟨fun i hi serves => ?_, fun ⟨i, hi, serves⟩ => ?_, fun nobody => ?_, fun i hi serves => ?_⟩
  · obtain ⟨y, held, higher⟩ := found i hi serves
    rw [held]
    exact higher
  · obtain ⟨y, held, -⟩ := found i hi serves
    obtain ⟨k, hk, kServes, reading⟩ := source y held
    exact ⟨k, hk, kServes, by rw [held]; exact reading⟩
  · cases held : warmest s with
    | none => rfl
    | some y =>
      obtain ⟨k, hk, kServes, -⟩ := source y held
      exact absurd kServes (nobody k hk)
  · obtain ⟨y, held, -⟩ := found i hi serves
    rw [held]
    rfl

end Sys2Proof.Machine
end

section
/-! SUPPORT and the statement about the stages (R46, R47, R51 to R55, R58, R59): what the charge controller's turn at a
measurement event forms, and where it moves the stage. -/

namespace Sys2Proof.Machine

/-! ## Moves of the stage within a turn -/

/-- From `u` to `v` the charge controller has moved its stage: the temperatures, the latch and the settings stand, the
setpoint goes on to be that of the stage, and no condition outside those of a change of mode is reported. -/
structure StageMoved (u v : State) : Prop extends AlarmsWithin modeCodes u v where
  temps : v.charge.tb = u.charge.tb ∧ v.charge.tc = u.charge.tc
  latch : v.charge.latch = u.charge.latch
  store : v.store = u.store
  setpoint : u.charge.setpoint = stageSetpoint u u.charge.stage → v.charge.setpoint = stageSetpoint v v.charge.stage

theorem StageMoved.trans {u v w : State} (h : StageMoved u v) (k : StageMoved v w) : StageMoved u w where
  toAlarmsWithin := h.toAlarmsWithin.trans k.toAlarmsWithin
  temps := ⟨k.temps.1.trans h.temps.1, k.temps.2.trans h.temps.2⟩
  latch := k.latch.trans h.latch
  store := k.store.trans h.store
  setpoint := k.setpoint ∘ h.setpoint

/-- What leaves the temperatures, the latch, the stage and its setpoint, and the alarm unit but for notices. -/
theorem StageMoved.of_eq {u v : State} (alarms : AlarmsWithin modeCodes u v)
    (h : v.charge.tb = u.charge.tb ∧ v.charge.tc = u.charge.tc ∧ v.charge.latch = u.charge.latch ∧
      v.charge.stage = u.charge.stage ∧ v.charge.setpoint = u.charge.setpoint ∧ v.store = u.store) : StageMoved u v := by
  obtain ⟨tb, tc, latch, stage, setpoint, store⟩ := h
  exact ⟨alarms, ⟨tb, tc⟩, latch, store, by rw [setpoint, stage, stageSetpoint_congr store tc]; exact id⟩

theorem StageMoved.refl (u : State) : StageMoved u u := .of_eq (.of_eq rfl) ⟨rfl, rfl, rfl, rfl, rfl, rfl⟩

/-- The charge controller writes of itself what is neither. -/
theorem StageMoved.onCharge (f : Charge → Charge) (u : State)
    (h : (f u.charge).tb = u.charge.tb ∧ (f u.charge).tc = u.charge.tc ∧ (f u.charge).latch = u.charge.latch ∧
      (f u.charge).stage = u.charge.stage ∧ (f u.charge).setpoint = u.charge.setpoint) : StageMoved u (u.onCharge f) :=
  .of_eq (.of_eq rfl) ⟨h.1, h.2.1, h.2.2.1, h.2.2.2.1, h.2.2.2.2, rfl⟩

theorem StageMoved.ite {u v w : State} (p : Prop) [Decidable p] (hv : StageMoved u v) (hw : StageMoved u w) :
    StageMoved u (if p then v else w) := by
  split
  · exact hv
  · exact hw

theorem changeStage_moved (new : Stage) (u : State) : StageMoved u (changeStage new u) := by
  by_cases same : u.charge.stage = new
  · rw [changeStage_same new u same]
    exact .refl u
  · have charge := changeStage_charge same
    refine ⟨(changeStage_stands new u).toAlarmsWithin, ?_, ?_, by simp, fun _ => ?_⟩
    · rw [charge]; exact ⟨rfl, rfl⟩
    · rw [charge]
    · rw [stageSetpoint_congr (s := u) (by simp) (by rw [charge]), charge]

theorem endTest_moved (outcome : TestOutcome) (next : Stage) (u : State) : StageMoved u (endTest outcome next u) := by
  cases test : u.charge.test with
  | none =>
    rw [endTest, test]
    exact .refl u
  | some x =>
    rw [endTest_eq test]
    have written : StageMoved u (writeResults outcome x.target (x.elapsed / 60) u) :=
      .of_eq (.of_eq (by simp)) (by simp)
    have posted (v : State) : StageMoved v (post .testEnd outcome.code (x.elapsed / 60) v) :=
      .of_eq (post_within _ _ _ _ v) (by simp)
    have ended (v : State) : StageMoved v (v.onCharge fun c => { c with test := none }) := .onCharge _ v (by simp)
    exact ((written.trans (posted _)).trans (ended _)).trans (changeStage_moved next _)

theorem abortIfUnsync_moved (u : State) : StageMoved u (abortIfUnsync u) :=
  .ite _ (endTest_moved _ _ u) (.refl u)

theorem equalizeBegin_moved (u : State) : StageMoved u (equalizeBegin u) := by
  have entered (f : Charge → Charge) (h : StageMoved u (u.onCharge f)) :
      StageMoved u (changeStage .equalize (u.onCharge f)) := h.trans (changeStage_moved _ _)
  unfold equalizeBegin
  split
  · split
    · exact entered _ (.onCharge _ u (by simp))
    · exact entered _ (.onCharge _ u (by simp))
    · exact .refl u
    · exact .refl u
  · exact .refl u

theorem equalizeDone_moved (u : State) : StageMoved u (equalizeDone u) := by
  have ended (v : State) : StageMoved v (v.onCharge fun c => { c with eq := c.eq.ended }) := .onCharge _ v (by simp)
  have posted (v : State) : StageMoved v (post .equalizeEnd 0 u.charge.eq.duration v) :=
    .of_eq (post_within _ _ _ _ v) (by simp)
  exact ((changeStage_moved .float u).trans (ended _)).trans (posted _)

theorem tailExit_moved (u : State) : StageMoved u (tailExit u) := by
  have full : StageMoved u (fullCharge u) := .of_eq (.of_eq (by simp)) (by simp)
  have reported (v : State) : StageMoved v (reportTail v) := .of_eq (.of_eq (by simp)) (by simp)
  exact (full.trans (reported _)).trans (changeStage_moved _ _)

theorem stageWork_moved (hot cooled : Bool) (u : State) : StageMoved u (stageWork hot cooled u) := by
  have moved (new : Stage) : StageMoved u (changeStage new u) := changeStage_moved new u
  have counted (f : Charge → Charge)
      (h : (f u.charge).tb = u.charge.tb ∧ (f u.charge).tc = u.charge.tc ∧ (f u.charge).latch = u.charge.latch ∧
        (f u.charge).stage = u.charge.stage ∧ (f u.charge).setpoint = u.charge.setpoint) :
      StageMoved u (u.onCharge f) := .onCharge f u h
  cases stage : u.charge.stage <;> simp only [stageWork, stage]
  case bulk => exact .ite _ (moved _) (.ite _ (moved _) (counted _ ⟨rfl, rfl, rfl, rfl, rfl⟩))
  case absorb =>
    exact .ite _ (tailExit_moved u) (.ite _ (moved _) (.ite _ (moved _) (counted _ ⟨rfl, rfl, rfl, rfl, rfl⟩)))
  case float =>
    exact .ite _ (moved _) (.ite _ (equalizeBegin_moved u) (.ite _ (moved _)
      ((counted _ ⟨rfl, rfl, rfl, rfl, rfl⟩).trans (equalizeBegin_moved _))))
  case equalize =>
    have suspended (v : State) : StageMoved v (suspendEqualize v) := by
      refine .ite _ (.onCharge _ v ?_) (.refl v)
      exact ⟨rfl, rfl, rfl, rfl, rfl⟩
    refine .ite _ (equalizeDone_moved u) ((counted _ ⟨rfl, rfl, rfl, rfl, rfl⟩).trans (.ite _ ?_ (.refl _)))
    exact (suspended _).trans (changeStage_moved _ _)
  case discharge | test => exact .refl u

/-! ## What the turn forms (R46, R47, R55, R59) -/

/-- The state in which the stage's own work is done. -/
def stageWorked (s : State) : State :=
  if (testKept s).charge.stage = s.charge.stage then stageWork (newlyHot s) (newlyCool s) (testKept s) else testKept s

theorem chargeEvent_worked (s : State) :
    chargeEvent s = reportCapacityLow (reportOverdue (recomputeIbl (stageWorked s))) := chargeEvent_eq s

theorem stageWorked_moved (s : State) : StageMoved (testKept s) (stageWorked s) :=
  .ite _ (stageWork_moved _ _ _) (.refl _)

theorem chargeEvent_charge (s : State) :
    (chargeEvent s).charge = { (stageWorked s).charge with ibl := batteryLimit (stageWorked s) } := by
  rw [chargeEvent_worked]
  simp

/-- The battery temperature as this event forms it. -/
def formedTb (s : State) : Int := (warmest s).getD (s.inForce 1 6)

theorem latchFormed_charge (s : State) : ∃ eq, (latchFormed s).charge =
    { s.charge with
      tb := formedTb s, tc := compTemp (formedTb s), latch := isHot s || (s.charge.latch && !isCool s)
      armed := s.charge.armed && !newlyHot s, eq := eq } := by
  obtain ⟨eq, formed⟩ := tempsFormed_charge s
  exact ⟨eq, by simp [latchFormed, formed, formedTb]⟩

theorem isHot_iff (s : State) : isHot s = true ↔ (s.inForce 1 7 : Int) ≤ formedTb s := by
  obtain ⟨eq, formed⟩ := tempsFormed_charge s
  simp [isHot, formed, formedTb]

theorem isCool_iff (s : State) : isCool s = true ↔ formedTb s ≤ (s.inForce 1 7 : Int) - 50 := by
  obtain ⟨eq, formed⟩ := tempsFormed_charge s
  simp [isCool, formed, formedTb]

/-- R46, R47: the temperatures and the latch, as the turn leaves them. -/
theorem chargeEvent_temps (s : State) :
    (chargeEvent s).charge.tb = formedTb s ∧ (chargeEvent s).charge.tc = compTemp (formedTb s) ∧
      (chargeEvent s).charge.latch = (isHot s || (s.charge.latch && !isCool s)) := by
  have kept := (abortIfUnsync_moved (latchFormed s))
  have worked := stageWorked_moved s
  obtain ⟨eq, formed⟩ := latchFormed_charge s
  have judged : (testKept s).charge = { (abortIfUnsync (latchFormed s)).charge with
      setpoint := (testKept s).charge.setpoint } := rfl
  rw [chargeEvent_charge]
  refine ⟨?_, ?_, ?_⟩
  · exact worked.temps.1.trans ((congrArg Charge.tb judged).trans (kept.temps.1.trans (congrArg Charge.tb formed)))
  · exact worked.temps.2.trans ((congrArg Charge.tc judged).trans (kept.temps.2.trans (congrArg Charge.tc formed)))
  · exact worked.latch.trans ((congrArg Charge.latch judged).trans (kept.latch.trans (congrArg Charge.latch formed)))

/-- R55: the setpoint is that of the stage. -/
theorem chargeEvent_setpoint (s : State) :
    (chargeEvent s).charge.setpoint = stageSetpoint (chargeEvent s) (chargeEvent s).charge.stage := by
  have judged : (testKept s).charge.setpoint = stageSetpoint (testKept s) (testKept s).charge.stage := rfl
  have worked := (stageWorked_moved s).setpoint judged
  have same : stageSetpoint (chargeEvent s) = stageSetpoint (stageWorked s) :=
    stageSetpoint_congr (by rw [chargeEvent_worked]; simp) (by rw [chargeEvent_charge])
  rw [same, chargeEvent_charge]
  exact worked

/-- R59: Ibl is formed. -/
theorem chargeEvent_ibl (s : State) : (chargeEvent s).charge.ibl = batteryLimit (chargeEvent s) := by
  have same : batteryLimit (chargeEvent s) = batteryLimit (stageWorked s) :=
    batteryLimit_congr (by rw [chargeEvent_worked]; simp) (by rw [chargeEvent_worked]; simp)
      (by rw [chargeEvent_worked]; simp) (by rw [chargeEvent_worked]; simp) (by rw [chargeEvent_charge])
  rw [same, chargeEvent_charge]

/-- R46: BATT_TEMP_HIGH is told with the temperatures, and nothing after it in the turn touches it. -/
theorem chargeEvent_tempHigh {s : State} (complete : s.alarm.records.length = 40) :
    ((chargeEvent s).record alBattTempHigh).cond = (warmest s).any fun w => decide ((s.inForce 1 7 : Int) ≤ w) := by
  have after : AlarmsWithin (modeCodes ++ [alEqualizeOverdue, alCapacityLow]) (formTemps s) (chargeEvent s) := by
    have temps : AlarmsWithin modeCodes (formTemps s) (latchFormed s) := .of_eq (by
      simp only [latchFormed, tempsFormed]
      split <;> simp)
    have kept : AlarmsWithin modeCodes (latchFormed s) (testKept s) :=
      (abortIfUnsync_moved (latchFormed s)).toAlarmsWithin.trans (.of_eq (by simp [testKept]))
    have limited (u : State) : AlarmsWithin modeCodes u (recomputeIbl u) := .of_eq (by simp)
    have overdue (u : State) : AlarmsWithin [alEqualizeOverdue, alCapacityLow] u (reportOverdue u) :=
      report_within _ _ u (by decide)
    have low (u : State) : AlarmsWithin [alEqualizeOverdue, alCapacityLow] u (reportCapacityLow u) :=
      report_within _ _ u (by decide)
    rw [chargeEvent_worked]
    exact ((((temps.trans kept).trans (stageWorked_moved s).toAlarmsWithin).trans (limited _)).mono (by simp)).trans
      (((overdue _).trans (low _)).mono (by simp))
  rw [after.record _ (by decide)]
  exact report_cond _ _ _ (by simpa [complete] using (by decide : alBattTempHigh < 40))

/-! ## The turn with no test in flight -/

theorem abortIfUnsync_untested {u : State} (untested : u.charge.test = none) : abortIfUnsync u = u := by
  have unended (outcome : TestOutcome) (next : Stage) : endTest outcome next u = u := by rw [endTest, untested]
  rw [abortIfUnsync, unended, ite_self]

/-- Without a test the stage's own work is done on the state with the temperatures, the latch and the setpoint formed. -/
structure Formed (s u : State) : Prop where
  acct : u.acct = s.acct
  meas : u.meas = s.meas
  store : u.store = s.store
  tc : u.charge.tc = compTemp (formedTb s)
  latch : u.charge.latch = (isHot s || (s.charge.latch && !isCool s))
  armed : u.charge.armed = (s.charge.armed && !newlyHot s)
  stage : u.charge.stage = s.charge.stage
  absorbCount : u.charge.absorbCount = s.charge.absorbCount
  tailCount : u.charge.tailCount = s.charge.tailCount
  absorbTimer : u.charge.absorbTimer = s.charge.absorbTimer

theorem testKept_formed {s : State} (untested : s.charge.test = none) : Formed s (testKept s) := by
  obtain ⟨eq, formed⟩ := latchFormed_charge s
  have kept : testKept s = recomputeSetpoint (latchFormed s) := by
    rw [testKept, abortIfUnsync_untested (by rw [formed]; exact untested)]
  have charge : (testKept s).charge =
      { (latchFormed s).charge with setpoint := (testKept s).charge.setpoint } := by
    rw [kept]
    rfl
  rw [formed] at charge
  refine ⟨?_, ?_, ?_, ?_, ?_, ?_, ?_, ?_, ?_, ?_⟩
  case refine_1 | refine_2 | refine_3 => simp [kept]
  all_goals rw [charge]

theorem stageWorked_untested {s : State} (untested : s.charge.test = none) :
    stageWorked s = stageWork (newlyHot s) (newlyCool s) (testKept s) :=
  if_pos (testKept_formed untested).stage

theorem absorbLevel_congr {s t : State} (store : t.store = s.store) (tc : t.charge.tc = s.charge.tc) :
    absorbLevel t = absorbLevel s := by
  rw [absorbLevel, absorbLevel, compensated_congr store, cellValue_congr store, tc]

theorem measuredStrings_congr {s t : State} (acct : t.acct = s.acct) (meas : t.meas = s.meas) :
    t.measuredStrings = s.measuredStrings := by
  rw [State.measuredStrings, State.measuredStrings, fittedChannels_congr acct meas]

theorem tailTest_congr {s t : State} (acct : t.acct = s.acct) (meas : t.meas = s.meas) (store : t.store = s.store)
    (tc : t.charge.tc = s.charge.tc) : tailTest t = tailTest s := by
  rw [tailTest, tailTest, tailCurrent, tailCurrent, State.batteryCurrent, State.batteryCurrent,
    measuredStrings_congr acct meas, absorbLevel_congr store tc, inForce_congr store, meas]

theorem rebulkTest_congr {s t : State} (acct : t.acct = s.acct) (store : t.store = s.store) :
    rebulkTest t = rebulkTest s := by
  unfold rebulkTest rebulkLevel State.fittedStrings
  rw [acct, inForce_congr store]

theorem returnTest_congr {s t : State} (acct : t.acct = s.acct) (store : t.store = s.store) :
    returnTest t = returnTest s := by
  simp only [returnTest, rebulkTest_congr acct store, State.fittedStrings, acct]

/-- R61: an equalize begins, or nothing happens. -/
theorem equalizeBegin_or (u : State) : equalizeBegin u = u ∨ (equalizeBegin u).charge.stage = .equalize := by
  unfold equalizeBegin
  split
  · split
    · exact .inr (changeStage_stage _ _)
    · exact .inr (changeStage_stage _ _)
    · exact .inl rfl
    · exact .inl rfl
  · exact .inl rfl

theorem newlyHot_iff (s : State) :
    newlyHot s = true ↔ (s.inForce 1 7 : Int) ≤ (chargeEvent s).charge.tb ∧ s.charge.latch = false := by
  rw [(chargeEvent_temps s).1, ← isHot_iff]
  simp [newlyHot]

theorem newlyCool_iff (s : State) :
    newlyCool s = true ↔ (chargeEvent s).charge.tb ≤ (s.inForce 1 7 : Int) - 50 ∧ s.charge.latch = true := by
  rw [(chargeEvent_temps s).1, ← isCool_iff]
  simp [newlyCool]

/-- The state in which the statement takes the absorb level: this event's compensation temperature. -/
abbrev atEventTemp (s : State) : State := { s with charge := { s.charge with tc := (chargeEvent s).charge.tc } }

theorem Formed.absorbLevel {s u : State} (formed : Formed s u) : absorbLevel u = absorbLevel (atEventTemp s) :=
  absorbLevel_congr (t := u) (s := atEventTemp s) formed.store (formed.tc.trans (chargeEvent_temps s).2.1.symm)

theorem Formed.tailTest {s u : State} (formed : Formed s u) : tailTest u = tailTest (atEventTemp s) :=
  tailTest_congr (t := u) (s := atEventTemp s) formed.acct formed.meas formed.store
    (formed.tc.trans (chargeEvent_temps s).2.1.symm)

/-! ## BULK, ABSORB and FLOAT at an event (R47, R51 to R54) -/

/-- What the turn leaves of stage, counts and arming is what the stage's own work left. -/
theorem chargeEvent_of_work {s : State} (untested : s.charge.test = none) {t : State}
    (work : stageWork (newlyHot s) (newlyCool s) (testKept s) = t) :
    (chargeEvent s).charge = { t.charge with ibl := batteryLimit t } ∧ (chargeEvent s).acct = t.acct := by
  rw [chargeEvent_charge, stageWorked_untested untested, work]
  refine ⟨rfl, ?_⟩
  rw [chargeEvent_worked, stageWorked_untested untested, work]
  simp

theorem chargeEvent_bulk {s : State} (untested : s.charge.test = none) (bulk : s.charge.stage = .bulk) :
    let w := chargeEvent s
    let n := if absorbLevel (atEventTemp s) ≤ s.meas.bus then s.charge.absorbCount + 1 else 0
    (newlyHot s = true → w.charge.stage = .float) ∧ (¬ newlyHot s = true → 60 ≤ n → w.charge.stage = .absorb) ∧
      (¬ newlyHot s = true → n < 60 → w.charge.stage = .bulk ∧
        (w.charge.absorbCount, w.charge.tailCount, w.charge.absorbTimer) =
          (n, s.charge.tailCount, s.charge.absorbTimer)) := by
  intro w n
  have formed := testKept_formed untested
  have stage := formed.stage.trans bulk
  have work : stageWork (newlyHot s) (newlyCool s) (testKept s) =
      if newlyHot s then changeStage .float (testKept s)
      else if 60 ≤ n then changeStage .absorb (testKept s)
      else (testKept s).onCharge fun c => { c with absorbCount := n } := by
    simp only [stageWork, stage, bulkWork, formed.absorbLevel, formed.meas, formed.absorbCount, n]
  have left := (chargeEvent_of_work untested work).1
  refine ⟨fun hot => ?_, fun mild many => ?_, fun mild few => ?_⟩
  · rw [if_pos hot] at left
    rw [left]
    exact changeStage_stage _ _
  · rw [if_neg mild, if_pos many] at left
    rw [left]
    exact changeStage_stage _ _
  · rw [if_neg mild, if_neg (not_le.2 few)] at left
    rw [left]
    exact ⟨stage, by simp [formed.tailCount, formed.absorbTimer]⟩

theorem chargeEvent_absorb {s : State} (untested : s.charge.test = none) (absorb : s.charge.stage = .absorb) :
    let w := chargeEvent s
    let n := if tailTest (atEventTemp s) = true then s.charge.tailCount + 1 else 0
    let m := s.charge.absorbTimer + 1
    (newlyHot s = true ∨ 600 ≤ n ∨ s.inForce 1 14 * 3600 ≤ m → w.charge.stage = .float) ∧
      (600 ≤ n → s.acct.taken = true → ∀ i, i < 4 → w.stringRec i = (s.stringRec i).map fun r =>
        if (s.stringChannel i).validity = .valid then
          { r with account := 100 * r.capacity, residue := 0, sync := .sync }
        else r) ∧
      (n < 600 → w.acct = s.acct) ∧
      (¬ newlyHot s = true → n < 600 → m < s.inForce 1 14 * 3600 → w.charge.stage = .absorb ∧
        (w.charge.absorbCount, w.charge.tailCount, w.charge.absorbTimer) = (s.charge.absorbCount, n, m)) := by
  intro w n m
  have formed := testKept_formed untested
  have stage := formed.stage.trans absorb
  have work : stageWork (newlyHot s) (newlyCool s) (testKept s) =
      if 600 ≤ n then tailExit (testKept s)
      else if newlyHot s then changeStage .float (testKept s)
      else if s.inForce 1 14 * 3600 ≤ m then changeStage .float (testKept s)
      else (testKept s).onCharge fun c => { c with tailCount := n, absorbTimer := m } := by
    simp only [stageWork, stage, absorbWork, formed.tailTest, formed.tailCount, formed.absorbTimer,
      inForce_congr formed.store, n, m]
  obtain ⟨left, records⟩ := chargeEvent_of_work untested work
  refine ⟨fun leaves => ?_, fun many taken i hi => ?_, fun few => ?_, fun mild few early => ?_⟩
  · rw [left]
    show Charge.stage (State.charge _) = _
    split
    · exact changeStage_stage _ _
    · split
      · exact changeStage_stage _ _
      · rw [if_pos (leaves.resolve_left ‹_› |>.resolve_left ‹_›)]
        exact changeStage_stage _ _
  · rw [if_pos many] at records
    have same : (testKept s).stringRec i = s.stringRec i := stringRec_congr formed.acct i
    have channel : (testKept s).stringChannel i = s.stringChannel i := by
      rw [State.stringChannel, State.stringChannel, formed.meas]
    rw [stringRec_congr records, tailExit_taken (by rw [formed.acct]; exact taken) hi, same, channel]
  · rw [records, if_neg (not_le.2 few)]
    split
    · simp [formed.acct]
    · split <;> simp [formed.acct]
  · rw [if_neg (not_le.2 few), if_neg mild, if_neg (not_le.2 early)] at left
    rw [left]
    exact ⟨stage, by simp [formed.absorbCount]⟩

/-- The latch newly set is set: a latch left clear was not. -/
theorem newlyHot_of_clear {s : State} (clear : (isHot s || (s.charge.latch && !isCool s)) = false) :
    newlyHot s = false := by
  simp only [Bool.or_eq_false_iff] at clear
  simp [newlyHot, clear.1]

theorem chargeEvent_float {s : State} (untested : s.charge.test = none) (float : s.charge.stage = .float) :
    let w := chargeEvent s
    let rises := newlyCool s = true ∧ returnTest s = true ∨
      w.charge.latch = false ∧ s.charge.armed = true ∧ rebulkTest s = true
    (rises → w.charge.stage = .bulk) ∧
      (¬ rises → w.charge.stage = .float ∨ w.charge.stage = .equalize) ∧
      (w.charge.stage = .float → (w.charge.armed = true ↔
        s.charge.armed = true ∧ ¬ newlyHot s = true ∨ w.charge.latch = false ∧ rebulkTest s = false)) := by
  intro w rises
  have formed := testKept_formed untested
  have stage := formed.stage.trans float
  have latch : w.charge.latch = (testKept s).charge.latch := (chargeEvent_temps s).2.2.trans formed.latch.symm
  have armed : w.charge.latch = false → (testKept s).charge.armed = s.charge.armed := fun clear => by
    rw [formed.armed, newlyHot_of_clear ((chargeEvent_temps s).2.2.symm.trans clear), Bool.not_false, Bool.and_true]
  have work : stageWork (newlyHot s) (newlyCool s) (testKept s) =
      if newlyCool s && returnTest s then changeStage .bulk (testKept s)
      else if w.charge.latch then equalizeBegin (testKept s)
      else if (testKept s).charge.armed && rebulkTest s then changeStage .bulk (testKept s)
      else equalizeBegin ((testKept s).onCharge fun c => { c with armed := c.armed || !rebulkTest s }) := by
    simp only [stageWork, stage, floatWork, returnTest_congr formed.acct formed.store,
      rebulkTest_congr formed.acct formed.store, latch]
  have left := (chargeEvent_of_work untested work).1
  have waits {u : State} (held : u.charge.stage = .float)
      (took : w.charge = { (equalizeBegin u).charge with ibl := batteryLimit (equalizeBegin u) }) :
      (w.charge.stage = .float ∨ w.charge.stage = .equalize) ∧
        (w.charge.stage = .float → w.charge.armed = u.charge.armed) := by
    rcases equalizeBegin_or u with same | begun
    · rw [took, same]
      exact ⟨.inl held, fun _ => rfl⟩
    · rw [took, begun]
      exact ⟨.inr rfl, fun other => by cases other⟩
  have bulks {p : Prop} (up : rises) (bulk : w.charge.stage = .bulk) :
      (rises → w.charge.stage = .bulk) ∧ (¬ rises → w.charge.stage = .float ∨ w.charge.stage = .equalize) ∧
        (w.charge.stage = .float → p) :=
    ⟨fun _ => bulk, fun down => absurd up down, fun other => by rw [bulk] at other; cases other⟩
  by_cases cooled : (newlyCool s && returnTest s) = true
  · rw [if_pos cooled] at left
    exact bulks (.inl (by simpa using cooled)) (by rw [show w.charge = _ from left]; exact changeStage_stage _ _)
  rw [if_neg cooled] at left
  have uncooled : ¬ (newlyCool s = true ∧ returnTest s = true) := by simpa using cooled
  by_cases latched : w.charge.latch = true
  · rw [if_pos latched] at left
    obtain ⟨stays, arms⟩ := waits stage left
    have down : ¬ rises := fun up => up.elim uncooled fun ⟨clear, _⟩ => by rw [latched] at clear; cases clear
    refine ⟨fun up => absurd up down, fun _ => stays, fun held => ?_⟩
    rw [arms held, formed.armed]
    simp [latched]
  have clear : w.charge.latch = false := by simpa using latched
  rw [if_neg latched, armed clear] at left
  by_cases rebulk : (s.charge.armed && rebulkTest s) = true
  · rw [if_pos rebulk] at left
    exact bulks (.inr ⟨clear, by simpa using rebulk⟩)
      (by rw [show w.charge = _ from left]; exact changeStage_stage _ _)
  rw [if_neg rebulk] at left
  obtain ⟨stays, arms⟩ := waits (u := (testKept s).onCharge fun c => { c with armed := c.armed || !rebulkTest s })
    stage left
  have down : ¬ rises := fun up => up.elim uncooled fun ⟨_, both⟩ => rebulk (by simpa using both)
  refine ⟨fun up => absurd up down, fun _ => stays, fun held => ?_⟩
  have mild := newlyHot_of_clear ((chargeEvent_temps s).2.2.symm.trans clear)
  rw [arms held]
  simp [armed clear, clear, mild]

/-! ## The expiries (R51 to R53) -/

theorem absorbEntry_due {s : State} (on : s.powered = true) (bulk : s.charge.stage = .bulk)
    (count : 60 ≤ s.charge.absorbCount + 1) : exec .absorbEntry s = .next (changeStage .absorb s) :=
  onExpiry_due s absorbEntryDue _ on (by simp [absorbEntryDue, bulk, due, count])

theorem absorbTimer_due {s : State} (on : s.powered = true) (absorb : s.charge.stage = .absorb)
    (timer : s.inForce 1 14 * 3600 ≤ s.charge.absorbTimer + 1) :
    exec .absorbTimerExpiry s = .next (changeStage .float s) :=
  onExpiry_due s absorbTimerDue _ on (by simp [absorbTimerDue, absorb, due, timer])

theorem tailExit_due {s : State} (on : s.powered = true) (absorb : s.charge.stage = .absorb)
    (count : 600 ≤ s.charge.tailCount + 1) : exec .tailExit s = .next (tailExit s) :=
  onExpiry_due s tailExitDue _ on (by simp [tailExitDue, absorb, due, count])

/-! ## The temperatures of the turn (R46, R47) -/

theorem chargeEvent_tempHigh_iff {s : State} (complete : s.alarm.records.length = 40) :
    ((chargeEvent s).record 12).cond = true ↔
      (s.inForce 1 7 : Int) ≤ (chargeEvent s).charge.tb ∧ ∃ i, i < 4 ∧ ServesTemp s i := by
  obtain ⟨-, -, nobody, somebody⟩ := warmest_spec s
  rw [show ((chargeEvent s).record 12).cond = _ from chargeEvent_tempHigh complete, (chargeEvent_temps s).1, formedTb]
  by_cases serves : ∃ i, i < 4 ∧ ServesTemp s i
  · obtain ⟨i, hi, served⟩ := serves
    obtain ⟨y, held⟩ := Option.isSome_iff_exists.1 (somebody i hi served)
    have one : ∃ i, i < 4 ∧ ServesTemp s i := ⟨i, hi, served⟩
    simp only [held, Option.any_some, Option.getD_some, decide_eq_true_eq, one, and_true]
  · have none_ := nobody fun i hi served => serves ⟨i, hi, served⟩
    simp only [none_, Option.any_none, serves, and_false, Bool.false_eq_true]

theorem chargeEvent_latch_iff (s : State) : (chargeEvent s).charge.latch = true ↔
    (s.inForce 1 7 : Int) ≤ (chargeEvent s).charge.tb ∨
      s.charge.latch = true ∧ ¬ (chargeEvent s).charge.tb ≤ (s.inForce 1 7 : Int) - 50 := by
  rw [(chargeEvent_temps s).2.2, (chargeEvent_temps s).1, ← isHot_iff, ← isCool_iff]
  simp

end Sys2Proof.Machine

open Sys2Proof Sys2Proof.Machine

/-- Settles O26, the expiries from the rule of a change of stage and of the tail exit, the turn at a measurement event from
what it forms before the stage's own work and from that work in each stage. -/
theorem stageCountsMoveTheStage : Obligations.StageCountsMoveTheStage := by
  intro s on
  refine ⟨fun bulk count => ⟨_, absorbEntry_due on bulk count, changeStage_moves bulk (by decide) (by decide)⟩,
    fun other => onExpiry_early s absorbEntryDue _ (by simp [absorbEntryDue, other]), batteryLimit_eq s,
    fun absorb timer => ⟨_, absorbTimer_due on absorb timer, changeStage_moves absorb (by decide) (by decide)⟩,
    fun absorb count => ⟨_, tailExit_due on absorb count, ?_⟩,
    fun other => ⟨onExpiry_early s absorbTimerDue _ (by simp [absorbTimerDue, other]),
      onExpiry_early s tailExitDue _ (by simp [tailExitDue, other])⟩, fun complete => ?_⟩
  · obtain ⟨entered, eq, test, gen, frame⟩ := tailExit_moves absorb
    exact ⟨entered, eq, test, fun i hi valid => tailExit_full s hi valid, fun taken i hi => tailExit_taken taken hi, gen,
      frame⟩
  · intro w v serves hot cool newHot newCool counts
    obtain ⟨tb, tc, -⟩ := chargeEvent_temps s
    obtain ⟨above, one, nobody, -⟩ := warmest_spec s
    have hotAgain : newHot ↔ newlyHot s = true := (newlyHot_iff s).symm
    have coolAgain : newCool ↔ newlyCool s = true := (newlyCool_iff s).symm
    have wtb : w.charge.tb = (warmest s).getD (s.inForce 1 6) := tb
    refine ⟨by rw [wtb]; exact above, by rw [wtb]; exact one, fun none_ => by rw [wtb, nobody none_]; rfl, ?_,
      chargeEvent_tempHigh_iff complete, chargeEvent_latch_iff s, chargeEvent_setpoint s, chargeEvent_ibl s, ?_⟩
    · rw [tb]
      exact tc
    · rw [hotAgain, coolAgain]
      exact ⟨chargeEvent_bulk, chargeEvent_absorb, chargeEvent_float⟩
end

section
/-! SUPPORT and the statement about the setpoint (R56, R57). -/

namespace Sys2Proof.Machine

/-- The quotient rounded to hundredths is the nearest whole number, the one away from zero between two. -/
theorem roundHalfAway_nearest (n : Int) :
    let c := roundHalfAway n 100
    2 * |100 * c - n| < 100 ∨ 2 * |100 * c - n| = 100 ∧ |n| < |100 * c| := by
  dsimp only [roundHalfAway]
  simp only [Int.abs_eq_natAbs]
  rcases lt_or_ge n 0 with neg | pos
  · rw [if_pos neg]
    omega
  · rw [if_neg (not_lt.2 pos)]
    omega

/-- R57: the lower end of the window is no less than 10, and so is what is clamped to it. -/
theorem ten_le_clampWindow (s : State) (hi v : Int) : 10 ≤ clampWindow (windowLow s) hi v := by
  have low : 10 ≤ windowLow s := by
    unfold windowLow
    omega
  unfold clampWindow
  split
  · exact low
  · split
    · omega
    · split <;> omega

/-- R56 step 1: the compensation, in mV. -/
def compensation (s : State) (tc : Int) : Int := roundHalfAway ((s.cells : Int) * s.inForce 1 5 * (tc - 250)) 100

/-- R56 step 2: the plant voltage, in 10 mV, before the clamp. -/
def compensatedVoltage (s : State) (cell : Nat) (tc : Int) : Int :=
  ((s.cells : Int) * cell - compensation s tc + 5) / 10

/-- R56: no setpoint is cut off at 0. -/
theorem compensated_eq (s : State) (cell : Nat) (tc : Int) :
    (compensated s cell tc : Int) = clampWindow (windowLow s) (windowHigh s) (compensatedVoltage s cell tc) :=
  Int.toNat_of_nonneg (le_trans (by decide) (ten_le_clampWindow s _ _))

theorem compensatedVoltage_nearest (s : State) (cell : Nat) (tc : Int) :
    let m := (s.cells : Int) * cell - compensation s tc
    10 * compensatedVoltage s cell tc - 5 ≤ m ∧ m < 10 * compensatedVoltage s cell tc + 5 := by
  intro m
  unfold compensatedVoltage
  omega

end Sys2Proof.Machine

open Sys2Proof Sys2Proof.Machine

/-- Settles O27: the compensation and the plant voltage are those of the two roundings. -/
theorem setpointFollowsItsSteps : Obligations.SetpointFollowsItsSteps := by
  intro s stage
  refine ⟨fun notTest => ⟨compensation s s.charge.tc, compensatedVoltage s (cellValue s stage) s.charge.tc, ?_⟩, rfl⟩
  obtain ⟨above, below⟩ := compensatedVoltage_nearest s (cellValue s stage) s.charge.tc
  refine ⟨roundHalfAway_nearest _, above, below, ?_⟩
  rw [stageSetpoint, if_neg notTest, compensated_eq]
  rfl
end

section
/-! SUPPORT and the statement about the equalize (R60 to R64): the requests, the completion, and the charge controller's
turn at a measurement event. -/

namespace Sys2Proof.Machine

/-! ## The record (R60) -/

/-- R60: the record of an equalize that is not asked for. -/
abbrev noEqualize : EqRec := { state := .none, remaining := 0, duration := 0, dayCount := 0, daysWaiting := 0 }

/-- R60: the interval is on and reached, with nothing asked for. -/
abbrev IntervalReached (s : State) (e : EqRec) : Prop :=
  s.inForce 1 15 ≠ 0 ∧ s.inForce 1 15 ≤ e.dayCount ∧ e.state = .none

/-- R60: an equalize becomes pending. -/
def EqRec.asked (e : EqRec) : EqRec := { e with state := .pending, daysWaiting := 0 }

theorem intervalTest_eq (s : State) : (intervalTest s).charge.eq =
    if IntervalReached s s.charge.eq then s.charge.eq.asked else s.charge.eq := by
  unfold intervalTest
  split <;> rfl

/-- Log 32: the interval is tested once group 1 has been written. -/
theorem tempsFormed_eq (s : State) : (tempsFormed s).charge.eq =
    if 1 ∈ s.store.fresh ∧ IntervalReached s s.charge.eq then s.charge.eq.asked else s.charge.eq := by
  have store : (formTemps s).store = s.store := by simp [formTemps]
  have eq : (formTemps s).charge.eq = s.charge.eq := by simp [formTemps]
  have reached : IntervalReached (formTemps s) (formTemps s).charge.eq ↔ IntervalReached s s.charge.eq := by
    rw [IntervalReached, eq, inForce_congr store]
  unfold tempsFormed
  by_cases written : 1 ∈ s.store.fresh
  · rw [if_pos (by simpa [store] using written), intervalTest_eq, if_congr reached rfl rfl, eq]
    simp only [written, true_and]
  · rw [if_neg (by simpa [store] using written), if_neg fun both => written both.1, eq]

/-! ## The end of an equalize (R62, R64) -/

/-- R62, R64: an equalize in EQUALIZE ends, completed or stopped. -/
def equalizeEnds (outcome minutes : Nat) (s : State) : State :=
  post .equalizeEnd outcome minutes ((changeStage .float s).onCharge fun c => { c with eq := c.eq.ended })

theorem equalizeDone_eq (s : State) : equalizeDone s = equalizeEnds 0 s.charge.eq.duration s := rfl

theorem equalizeEnds_eq (outcome minutes : Nat) (s : State) :
    (equalizeEnds outcome minutes s).charge.eq = noEqualize := by
  simp [equalizeEnds, EqRec.ended]

theorem equalizeEnds_stage (outcome minutes : Nat) (s : State) :
    (equalizeEnds outcome minutes s).charge.stage = .float := by
  simp [equalizeEnds]

/-- FLOAT is entered, the record cleared, and STAGE_CHANGE comes before EQUALIZE_END (log 6). -/
theorem equalizeEnds_moves {s : State} (stage : s.charge.stage = .equalize) (outcome minutes : Nat) :
    let t := equalizeEnds outcome minutes s
    StageEntered .float s t ∧ t.charge.eq = noEqualize ∧ t.charge.test = s.charge.test ∧
      t = { s with
        charge := t.charge, rect := t.rect
        alarm := (post .equalizeEnd outcome minutes
          (post .stageChange Stage.float.code Stage.equalize.code s)).alarm } := by
  intro t
  obtain ⟨entered, -, test, frame⟩ := changeStage_moves stage (new := .float) (by decide) (by decide)
  have charge : t.charge = { (changeStage .float s).charge with eq := noEqualize } := by
    simp [t, equalizeEnds, EqRec.ended]
  have rect : t.rect = (changeStage .float s).rect := by simp [t, equalizeEnds]
  have limit : batteryLimit t = batteryLimit (changeStage .float s) :=
    batteryLimit_congr (by simp [t, equalizeEnds]) (by simp [t, equalizeEnds]) (by simp [t, equalizeEnds])
      (by simp [t, equalizeEnds]) (by rw [charge])
  have modules : t.moduleLimit = (changeStage .float s).moduleLimit :=
    moduleLimit_congr (by rw [charge]) (by rw [charge]) (by rw [rect]) (by simp [t, equalizeEnds])
      (by simp [t, equalizeEnds])
  refine ⟨⟨?_, ?_, ?_⟩, by rw [charge], by rw [charge]; exact test, ?_⟩
  · rw [charge]
    exact entered.setpoint
  · rw [charge, limit, entered.charge]
  · rw [rect, modules]
    exact entered.modules
  · apply State.ext_parts
    case alarm =>
      exact post_alarm_congr (congrArg State.alarm frame) (by simp) _ _ _
    case prot => simp [t, equalizeEnds, changeStage_prot]
    all_goals simp [t, equalizeEnds]

/-! ## The requests (R64) -/

theorem serveEqualizeStart_eq (s : State) : serveEqualizeStart s =
    (if s.charge.eq.state = .none then
      { s with charge := { s.charge with eq := s.charge.eq.asked } }
    else s, Answer.ok) := by
  unfold serveEqualizeStart
  split <;> rfl

theorem serveEqualizeStop_none {s : State} (none_ : s.charge.eq.state = .none) : serveEqualizeStop s =
    ({ s with charge := { s.charge with eq := { s.charge.eq with dayCount := 0 } } }, .ok) := by
  rw [serveEqualizeStop, none_]
  rfl

theorem serveEqualizeStop_pending {s : State} (pending : s.charge.eq.state = .pending) : serveEqualizeStop s =
    (post .equalizeEnd 1 0 { s with charge := { s.charge with eq := noEqualize } }, .ok) := by
  simp only [serveEqualizeStop, pending]
  rfl

theorem serveEqualizeStop_suspended {s : State} (suspended : s.charge.eq.state = .suspended) : serveEqualizeStop s =
    (post .equalizeEnd 1 (s.charge.eq.remaining / 60)
      { s with charge := { s.charge with eq := noEqualize } }, .ok) := by
  simp only [serveEqualizeStop, suspended]
  rfl

theorem serveEqualizeStop_running {s : State} (running : s.charge.eq.state = .running) :
    serveEqualizeStop s = (equalizeEnds 1 (s.charge.eq.remaining / 60) s, .ok) := by
  simp only [serveEqualizeStop, running]
  rfl

/-- A request taken: its owner has served it and the answer is in hand. -/
theorem onRequest_serves {kind : Byte} {i : Instr} {s t : State} {a : Answer} (on : s.powered = true)
    (hears : s.hears = true) (serves : serveRequest i s = (t, a)) :
    onRequest kind i s = .next (holdAnswer kind a t) := by
  rw [onRequest_on kind i s on hears, serves]

/-- R64: an equalize RUNNING is stopped. -/
theorem equalizeStop_running {s : State} (on : s.powered = true) (hears : s.hears = true)
    (running : s.charge.eq.state = .running) (stage : s.charge.stage = .equalize) :
    Leads .equalizeStop s fun t =>
      StageEntered .float s t ∧ t.charge.eq = noEqualize ∧ t.charge.test = s.charge.test ∧
        t = { s with
          charge := t.charge, rect := t.rect
          alarm := (post .equalizeEnd 1 (s.charge.eq.remaining / 60)
            (post .stageChange Stage.float.code Stage.equalize.code s)).alarm
          link := (holdAnswer 0x29#8 Answer.ok s).link } := by
  obtain ⟨entered, eq, test, frame⟩ := equalizeEnds_moves stage 1 (s.charge.eq.remaining / 60)
  refine ⟨_, onRequest_serves on hears (serveEqualizeStop_running running), entered.answered _ _, eq, test, ?_⟩
  have answered (u : State) : holdAnswer 0x29#8 Answer.ok u = { u with link := (holdAnswer 0x29#8 Answer.ok u).link } :=
    rfl
  have link : (holdAnswer 0x29#8 Answer.ok (equalizeEnds 1 (s.charge.eq.remaining / 60) s)).link =
      (holdAnswer 0x29#8 Answer.ok s).link := by
    rw [holdAnswer_link, holdAnswer_link, frame]
  rw [answered, link, frame]

/-! ## The charge controller's turn (R60 to R63) -/

/-- Without a test the stage's own work is done on the plant as it stood, with this event's battery temperature and the
equalize record after the interval test. -/
structure EqualizeFormed (s u : State) : Prop where
  sup : u.sup = s.sup
  tb : u.charge.tb = (chargeEvent s).charge.tb
  eq : u.charge.eq = (tempsFormed s).charge.eq

theorem testKept_equalize {s : State} (untested : s.charge.test = none) : EqualizeFormed s (testKept s) := by
  have kept : testKept s = recomputeSetpoint (latchFormed s) := by
    rw [testKept, abortIfUnsync_untested (by simp [latchFormed, untested])]
  have charge : (testKept s).charge =
      { (latchFormed s).charge with setpoint := (testKept s).charge.setpoint } := by
    rw [kept]
    rfl
  obtain ⟨_, formed⟩ := latchFormed_charge s
  refine ⟨by simp [kept], ?_, by rw [charge]; rfl⟩
  rw [(chargeEvent_temps s).1, charge, formed]

/-- What the turn leaves of the stage and of the equalize record is what the stage's own work left. -/
theorem chargeEvent_stage_eq {s : State} (untested : s.charge.test = none) {t : State}
    (work : stageWork (newlyHot s) (newlyCool s) (testKept s) = t) :
    (chargeEvent s).charge.stage = t.charge.stage ∧ (chargeEvent s).charge.eq = t.charge.eq := by
  rw [(chargeEvent_of_work untested work).1]
  exact ⟨rfl, rfl⟩

/-- In BULK only the interval test touches the record. -/
theorem bulkWork_eq (hot : Bool) (u : State) : (bulkWork hot u).charge.eq = u.charge.eq := by
  simp only [bulkWork]
  generalize (if absorbLevel u ≤ u.meas.bus then u.charge.absorbCount + 1 else 0) = n
  split
  · simp
  · split
    · simp
    · rfl

theorem chargeEvent_bulk_eq {s : State} (untested : s.charge.test = none) (bulk : s.charge.stage = .bulk)
    (none_ : s.charge.eq.state = .none) : (chargeEvent s).charge.eq =
    if 1 ∈ s.store.fresh ∧ s.inForce 1 15 ≠ 0 ∧ s.inForce 1 15 ≤ s.charge.eq.dayCount then s.charge.eq.asked
    else s.charge.eq := by
  have stage := (testKept_formed untested).stage.trans bulk
  have work : stageWork (newlyHot s) (newlyCool s) (testKept s) = bulkWork (newlyHot s) (testKept s) := by
    rw [stageWork, stage]
  rw [(chargeEvent_stage_eq untested work).2, bulkWork_eq, (testKept_equalize untested).eq, tempsFormed_eq]
  simp only [IntervalReached, none_, and_true]

/-- R61: what an equalize needs to begin, beside FLOAT. -/
abbrev EqualizeAllowed (u : State) : Prop :=
  u.sup.mode = .mains ∧ u.sup.hold = none ∧ u.charge.tb < (u.inForce 1 9 : Int)

/-- R61: a record from which an equalize goes on, as it does so. -/
def EqRec.begun (duration : Nat) (e : EqRec) : EqRec :=
  if e.state = .pending then { e with state := .running, duration := duration, remaining := 60 * duration }
  else { e with state := .running }

theorem equalizeBegin_begins {u : State} (float : u.charge.stage = .float) (allowed : EqualizeAllowed u)
    (waits : u.charge.eq.state = .pending ∨ u.charge.eq.state = .suspended) :
    (equalizeBegin u).charge.stage = .equalize ∧
      (equalizeBegin u).charge.eq = u.charge.eq.begun (u.inForce 1 16) := by
  rw [equalizeBegin, if_pos ⟨float, allowed⟩]
  rcases waits with pending | suspended
  · simp [pending, EqRec.begun, Nat.mul_comm]
  · simp [suspended, EqRec.begun]

theorem equalizeBegin_stays {u : State}
    (idle : ¬ EqualizeAllowed u ∨ u.charge.eq.state = .none ∨ u.charge.eq.state = .running) :
    equalizeBegin u = u := by
  unfold equalizeBegin
  split
  · next all =>
    rcases idle with barred | none_ | running
    · exact absurd all.2 barred
    · rw [none_]
    · rw [running]
  · rfl

/-- R54, R61: in FLOAT, with no rise to BULK, what is left to do is to begin an equalize. -/
theorem floatWork_waits {cooled : Bool} {u : State} (uncooled : ¬ (cooled = true ∧ returnTest u = true))
    (uncharged : ¬ (u.charge.latch = false ∧ u.charge.armed = true ∧ rebulkTest u = true)) :
    ∃ armed, floatWork cooled u = equalizeBegin (u.onCharge fun c => { c with armed := armed }) := by
  rw [floatWork, if_neg (by simpa using uncooled)]
  cases latch : u.charge.latch with
  | true => exact ⟨u.charge.armed, rfl⟩
  | false =>
    have unraised : ¬ (u.charge.armed && rebulkTest u) = true := fun both => uncharged ⟨latch, by simpa using both⟩
    exact ⟨u.charge.armed || !rebulkTest u, by rw [if_neg (by simp), if_neg unraised]; rfl⟩

/-- R61: in FLOAT, with no rise to BULK and group 1 not written. -/
theorem chargeEvent_float_eq {s : State} (untested : s.charge.test = none) (float : s.charge.stage = .float)
    (unwritten : 1 ∉ s.store.fresh)
    (stays : ¬ (newlyCool s = true ∧ returnTest s = true ∨
      (chargeEvent s).charge.latch = false ∧ s.charge.armed = true ∧ rebulkTest s = true)) :
    let w := chargeEvent s
    let allowed := s.sup.mode = .mains ∧ s.sup.hold = none ∧ w.charge.tb < (s.inForce 1 9 : Int)
    (allowed → s.charge.eq.state = .pending ∨ s.charge.eq.state = .suspended →
      w.charge.stage = .equalize ∧ w.charge.eq = s.charge.eq.begun (s.inForce 1 16)) ∧
      (¬ allowed ∨ s.charge.eq.state = .none ∨ s.charge.eq.state = .running →
        w.charge.stage = .float ∧ w.charge.eq = s.charge.eq) := by
  intro w allowed
  have formed := testKept_formed untested
  have equalize := testKept_equalize untested
  have eq : (testKept s).charge.eq = s.charge.eq := by
    rw [equalize.eq, tempsFormed_eq, if_neg fun both => unwritten both.1]
  obtain ⟨armed, work⟩ := floatWork_waits (cooled := newlyCool s) (u := testKept s)
    (by rw [returnTest_congr formed.acct formed.store]; exact fun both => stays (.inl both))
    (by
      rw [formed.latch, formed.armed, rebulkTest_congr formed.acct formed.store, ← (chargeEvent_temps s).2.2]
      exact fun ⟨clear, armed, test⟩ => stays (.inr ⟨clear, (Bool.and_eq_true_iff.1 armed).1, test⟩))
  obtain ⟨stageLeft, eqLeft⟩ := chargeEvent_stage_eq untested
    (Eq.trans (by rw [stageWork, formed.stage.trans float]) work)
  have force := inForce_congr formed.store
  generalize raised : (testKept s).onCharge (fun c => { c with armed := armed }) = u at stageLeft eqLeft
  have charge : u.charge = { (testKept s).charge with armed := armed } := by rw [← raised]; rfl
  have stage : u.charge.stage = .float := by rw [charge]; exact formed.stage.trans float
  have same : u.charge.eq = s.charge.eq := by rw [charge]; exact eq
  have inForce : u.inForce = s.inForce := by rw [← raised]; exact force
  have allows : EqualizeAllowed u ↔ allowed := by
    have sup : u.sup = s.sup := by rw [← raised]; exact equalize.sup
    have tb : u.charge.tb = w.charge.tb := by rw [charge]; exact equalize.tb
    rw [EqualizeAllowed, sup, tb, inForce]
  refine ⟨fun may waits => ?_, fun idle => ?_⟩
  · obtain ⟨entered, begun⟩ := equalizeBegin_begins stage (allows.2 may) (by rwa [same])
    exact ⟨stageLeft.trans entered, by rw [eqLeft, begun, same, inForce]⟩
  · rw [equalizeBegin_stays (by rwa [allows, same])] at stageLeft eqLeft
    exact ⟨stageLeft.trans stage, eqLeft.trans same⟩

/-! ### EQUALIZE (R62, R63) -/

theorem equalizeWork_done {u : State} (few : u.charge.eq.remaining ≤ 1) :
    equalizeWork u = equalizeEnds 0 u.charge.eq.duration u := if_pos few

/-- R62: a second is taken from the remainder. -/
def EqRec.counted (e : EqRec) : EqRec := { e with remaining := e.remaining - 1 }

theorem equalizeWork_suspends {u : State} (many : 1 < u.charge.eq.remaining) (running : u.charge.eq.state = .running)
    (hot : (u.inForce 1 9 : Int) ≤ u.charge.tb) :
    (equalizeWork u).charge.stage = .float ∧
      (equalizeWork u).charge.eq = { u.charge.eq.counted with state := .suspended } := by
  rw [equalizeWork, if_neg (not_le.2 many), if_pos (by exact hot), suspendEqualize, if_pos (by exact running)]
  simp [EqRec.counted]

theorem equalizeWork_counts {u : State} (many : 1 < u.charge.eq.remaining)
    (mild : u.charge.tb < (u.inForce 1 9 : Int)) :
    equalizeWork u = u.onCharge fun c => { c with eq := c.eq.counted } := by
  rw [equalizeWork, if_neg (not_le.2 many), if_neg (by exact not_le.2 mild)]
  rfl

/-- R62, R63: in EQUALIZE completion goes before suspension (log 16). -/
theorem chargeEvent_equalize_eq {s : State} (untested : s.charge.test = none) (stage : s.charge.stage = .equalize)
    (running : s.charge.eq.state = .running) :
    let w := chargeEvent s
    (s.charge.eq.remaining ≤ 1 → w.charge.stage = .float ∧ w.charge.eq = noEqualize) ∧
      (1 < s.charge.eq.remaining → (s.inForce 1 9 : Int) ≤ w.charge.tb →
        w.charge.stage = .float ∧ w.charge.eq = { s.charge.eq.counted with state := .suspended }) ∧
      (1 < s.charge.eq.remaining → w.charge.tb < (s.inForce 1 9 : Int) →
        w.charge.stage = .equalize ∧ w.charge.eq = s.charge.eq.counted) := by
  intro w
  have formed := testKept_formed untested
  have equalize := testKept_equalize untested
  have stands : (testKept s).charge.stage = .equalize := formed.stage.trans stage
  have eq : (testKept s).charge.eq = s.charge.eq := by
    rw [equalize.eq, tempsFormed_eq, if_neg (by simp [running])]
  obtain ⟨stageLeft, eqLeft⟩ := chargeEvent_stage_eq untested
    (t := equalizeWork (testKept s)) (by rw [stageWork, stands])
  rw [stageLeft, eqLeft, ← equalize.tb, ← inForce_congr formed.store, ← eq]
  refine ⟨fun few => ?_, fun many hot => ?_, fun many mild => ?_⟩
  · rw [equalizeWork_done few]
    exact ⟨equalizeEnds_stage _ _ _, equalizeEnds_eq _ _ _⟩
  · exact equalizeWork_suspends many (by rw [eq]; exact running) hot
  · rw [equalizeWork_counts many mild]
    exact ⟨stands, rfl⟩

end Sys2Proof.Machine

open Sys2Proof Sys2Proof.Machine

/-- Settles O28, the requests and the completion from what the end of an equalize leaves, the turn at a measurement
event from the stage's own work in BULK, FLOAT and EQUALIZE. -/
theorem equalizeIsAskedStoppedAndCompleted : Obligations.EqualizeIsAskedStoppedAndCompleted := by
  intro s on cleared
  refine ⟨fun hears => onRequest_serves on hears (serveEqualizeStart_eq s),
    fun hears none_ => onRequest_serves on hears (serveEqualizeStop_none none_),
    fun hears pending => onRequest_serves on hears (serveEqualizeStop_pending pending),
    fun hears suspended => onRequest_serves on hears (serveEqualizeStop_suspended suspended),
    fun hears running stage => equalizeStop_running on hears running stage,
    fun stage few => ⟨_, onExpiry_due s equalizeDue _ on (by simp [equalizeDue, stage, few]), ?_⟩,
    fun other => onExpiry_early s equalizeDue _ (by simp [equalizeDue, other]), fun untested => ?_⟩
  · rw [equalizeDone_eq]
    exact equalizeEnds_moves stage 0 s.charge.eq.duration
  · intro w cooled rises allowed
    have again : cooled ↔ newlyCool s = true := (newlyCool_iff s).symm
    refine ⟨chargeEvent_bulk_eq untested, fun float unwritten stays => ?_, chargeEvent_equalize_eq untested⟩
    obtain ⟨begins, waits⟩ := chargeEvent_float_eq untested float unwritten (by rwa [← again])
    refine ⟨fun may pending => ?_, fun may suspended => ?_, waits⟩
    · simpa [EqRec.begun, pending] using begins may (.inl pending)
    · simpa [EqRec.begun, suspended] using begins may (.inr suspended)
end

section
/-! SUPPORT. One second of the calendar (R152, R153): where it carries to, and what that makes of the seconds since
2000-01-01. -/

namespace Sys2Proof.Machine

/-! ## Days (R152) -/

theorem dayNumber_nextMonth {year month : Nat} (first : 1 ≤ month) :
    dayNumber year (month + 1) 1 = dayNumber year month (daysInMonth year month) + 1 := by
  obtain ⟨m, rfl⟩ := Nat.exists_eq_add_of_le' first
  have days : 1 ≤ daysInMonth year (m + 1) := by
    unfold daysInMonth
    (repeat' split) <;> decide
  simp only [dayNumber, Nat.add_sub_cancel, List.range_succ, List.map_append, List.map_cons, List.map_nil,
    List.sum_append, List.sum_cons, List.sum_nil]
  omega

theorem dayNumber_nextYear {year : Nat} (first : 2000 ≤ year) :
    dayNumber (year + 1) 1 1 = dayNumber year 12 31 + 1 := by
  have whole : ((List.range 11).map fun j => daysInMonth year (j + 1)).sum = if year % 4 = 0 then 335 else 334 := by
    simp only [List.range_succ, daysInMonth]
    split <;> rfl
  have opened : dayNumber (year + 1) 1 1 = 365 * (year + 1 - 2000) + (year + 1 - 2000 + 3) / 4 := by
    simp [dayNumber]
  have closed : dayNumber year 12 31 = 365 * (year - 2000) + (year - 2000 + 3) / 4 +
      (if year % 4 = 0 then 335 else 334) + 30 := by
    rw [← whole]
    rfl
  rw [opened, closed]
  split <;> omega

theorem dayNumber_nextDay {year month day : Nat} (first : 1 ≤ day) :
    dayNumber year month (day + 1) = dayNumber year month day + 1 := by
  simp only [dayNumber]
  omega

/-! ## One second (R153) -/

/-- The time of the calendar is in its ranges. -/
structure Cal.Legal (c : Cal) : Prop where
  year : 2000 ≤ c.year ∧ c.year ≤ 2099
  month : 1 ≤ c.month ∧ c.month ≤ 12
  day : 1 ≤ c.day ∧ c.day ≤ daysInMonth c.year c.month
  hour : c.hour ≤ 23
  minute : c.minute ≤ 59
  second : c.second ≤ 59

theorem State.CalendarLegal.legal {s : State} (h : s.CalendarLegal) : s.cal.Legal :=
  let ⟨y, y', m, m', d, d', hour, minute, second, _⟩ := h
  ⟨⟨y, y'⟩, ⟨m, m'⟩, ⟨d, d'⟩, hour, minute, second⟩

/-- The last second of a day. -/
abbrev Cal.DayEnds (c : Cal) : Prop := c.hour = 23 ∧ c.minute = 59 ∧ c.second = 59

/-- The last second of 2099. -/
abbrev Cal.Ends (c : Cal) : Prop :=
  c.year = 2099 ∧ c.month = 12 ∧ c.day = 31 ∧ c.hour = 23 ∧ c.minute = 59 ∧ c.second = 59

/-- The first second of the next day, but for its date. -/
abbrev Cal.dayBegun (c : Cal) : Cal := { c with hour := 0, minute := 0, second := 0, weekday := (c.weekday + 1) % 7 }

/-- R153: the field that a second carries into. -/
inductive Cal.Carried (c : Cal) : Cal → Prop where
  | second (h : c.second < 59) : Carried c { c with second := c.second + 1 }
  | minute (s : c.second = 59) (h : c.minute < 59) : Carried c { c with second := 0, minute := c.minute + 1 }
  | hour (s : c.second = 59) (m : c.minute = 59) (h : c.hour < 23) :
    Carried c { c with second := 0, minute := 0, hour := c.hour + 1 }
  | day (ends : c.DayEnds) (h : c.day < daysInMonth c.year c.month) : Carried c { c.dayBegun with day := c.day + 1 }
  | month (ends : c.DayEnds) (d : c.day = daysInMonth c.year c.month) (h : c.month < 12) :
    Carried c { c.dayBegun with day := 1, month := c.month + 1 }
  | year (ends : c.DayEnds) (d : c.day = 31) (m : c.month = 12) (h : c.year < 2099) :
    Carried c { c.dayBegun with day := 1, month := 1, year := c.year + 1 }
  | wrap (ends : c.Ends) :
    Carried c { c.dayBegun with day := 1, month := 1, year := 2000, weekday := 5, valid := false }

theorem Cal.carryDay_carried {c : Cal} (legal : c.Legal) (ends : c.DayEnds) :
    c.Carried (Cal.carryDay { c with hour := 0, minute := 0, second := 0 }) := by
  obtain ⟨-, lastDay⟩ := legal.day
  rcases lt_or_eq_of_le lastDay with inside | atEnd
  · rw [Cal.carryDay, if_neg (by exact not_le.2 inside)]
    exact .day ends inside
  rw [Cal.carryDay, if_pos (by exact atEnd.ge)]
  rcases lt_or_eq_of_le legal.month.2 with inside | december
  · rw [Cal.carryMonth, if_neg (by exact not_le.2 inside)]
    exact .month ends atEnd inside
  rw [Cal.carryMonth, if_pos (by exact december.ge)]
  have new : c.day = 31 := by rw [atEnd, december]; rfl
  rcases lt_or_eq_of_le legal.year.2 with inside | lastYear
  · rw [Cal.carryYear, if_neg (by exact not_le.2 inside)]
    exact .year ends new december inside
  · rw [Cal.carryYear, if_pos (by exact lastYear.ge)]
    exact .wrap ⟨lastYear, december, new, ends⟩

theorem Cal.tick_carried {c : Cal} (legal : c.Legal) : c.Carried c.tick := by
  rcases lt_or_eq_of_le legal.second with inside | second
  · rw [Cal.tick, if_neg (not_le.2 inside)]
    exact .second inside
  rw [Cal.tick, if_pos second.ge]
  rcases lt_or_eq_of_le legal.minute with inside | minute
  · rw [Cal.carryMinute, if_neg (by exact not_le.2 inside)]
    exact .minute second inside
  rw [Cal.carryMinute, if_pos (by exact minute.ge)]
  rcases lt_or_eq_of_le legal.hour with inside | hour
  · rw [Cal.carryHour, if_neg (by exact not_le.2 inside)]
    exact .hour second minute inside
  · rw [Cal.carryHour, if_pos (by exact hour.ge)]
    exact Cal.carryDay_carried legal ⟨hour, minute, second⟩

/-- R153: out of any second but the last of 2099 the time is one second later. -/
theorem Cal.tick_stamp {c : Cal} (legal : c.Legal) (goes : ¬ c.Ends) : c.tick.stamp = c.stamp + 1 ∧
    c.tick.valid = c.valid ∧ c.tick.weekday = if c.DayEnds then (c.weekday + 1) % 7 else c.weekday := by
  have tick := c.tick_carried legal
  have next {d : Cal} (ends : c.DayEnds) (midnight : d.hour = 0 ∧ d.minute = 0 ∧ d.second = 0)
      (day : dayNumber d.year d.month d.day = dayNumber c.year c.month c.day + 1) : d.stamp = c.stamp + 1 := by
    simp only [Cal.stamp, day, midnight, ends]
    omega
  generalize c.tick = d at tick
  cases tick with
  | second h =>
    refine ⟨?_, rfl, by rw [if_neg fun ends => by omega]⟩
    simp only [Cal.stamp]
    omega
  | minute s h =>
    refine ⟨?_, rfl, by rw [if_neg fun ends => by omega]⟩
    simp only [Cal.stamp]
    omega
  | hour s m h =>
    refine ⟨?_, rfl, by rw [if_neg fun ends => by omega]⟩
    simp only [Cal.stamp]
    omega
  | day ends h => exact ⟨next ends ⟨rfl, rfl, rfl⟩ (dayNumber_nextDay legal.day.1), rfl, by rw [if_pos ends]⟩
  | month ends d h =>
    exact ⟨next ends ⟨rfl, rfl, rfl⟩ (by rw [d, dayNumber_nextMonth legal.month.1]), rfl, by rw [if_pos ends]⟩
  | year ends d m h =>
    exact ⟨next ends ⟨rfl, rfl, rfl⟩ (by rw [d, m, dayNumber_nextYear legal.year.1]), rfl, by rw [if_pos ends]⟩
  | wrap ends => exact absurd ends goes

/-- R153: out of the last second of 2099. -/
theorem Cal.tick_ends {c : Cal} (legal : c.Legal) (ends : c.Ends) :
    c.tick.stamp = 0 ∧ c.tick.valid = false ∧ c.tick.weekday = 5 := by
  have tick := c.tick_carried legal
  generalize c.tick = d at tick
  cases tick with
  | wrap _ => exact ⟨by simp [Cal.stamp, dayNumber], rfl, rfl⟩
  | second _ | minute _ _ | hour _ _ _ => omega
  | day _ h =>
    obtain ⟨year, month, day, -⟩ := ends
    rw [year, month, day] at h
    exact absurd h (by decide)
  | month _ _ _ | year _ _ _ _ => omega

/-- R157: midnight is the second after the last of a day. -/
theorem Cal.tick_midnight {c : Cal} (legal : c.Legal) :
    (c.tick.hour = 0 ∧ c.tick.minute = 0 ∧ c.tick.second = 0) ↔ c.DayEnds := by
  have tick := c.tick_carried legal
  generalize c.tick = d at tick
  cases tick with
  | second _ | minute _ _ | hour _ _ _ => simp only [Cal.DayEnds]; omega
  | day ends _ | month ends _ _ | year ends _ _ _ => exact iff_of_true ⟨rfl, rfl, rfl⟩ ends
  | wrap ends => exact iff_of_true ⟨rfl, rfl, rfl⟩ ends.2.2.2

/-- R160: the tick of the time leaves the exercise records. -/
theorem Cal.tick_exercise {c : Cal} (legal : c.Legal) : c.tick =
    { c.tick with
      exState := c.exState, exDuration := c.exDuration, exWindow := c.exWindow, exDue := c.exDue, runMark := c.runMark
      missed := c.missed, last := c.last, handAgain := c.handAgain } := by
  have tick := c.tick_carried legal
  generalize c.tick = d at tick
  cases tick <;> rfl

end Sys2Proof.Machine
end

section
/-! SUPPORT. A start evaluated (R129): the conditions it can have reported, and what it leaves of the calendar; the
exercise that is due (R158 to R160); the day boundary (R60, R65). -/

namespace Sys2Proof.Machine

/-! ## The conditions of a run that begins (R127, R129) -/

/-- The conditions that follow the machine outside ONLINE: GEN_RUNNING, the lockout conditions and GEN_ENGINE_FAULT. -/
abbrev startCodes : List Nat := [alGenStartFail, alGenStopFail, alGenEngineFault, alGenRunning, alGenLockout]

theorem genEnter_within_offline {new : GenState} {s : State} (offline : s.gen.machine ≠ .online) (ne : new ≠ .online) :
    AlarmsWithin startCodes s (genEnter new s) := by
  have reported (c : Nat) (v : Bool) (u : State) (known : c ∈ startCodes) : AlarmsWithin startCodes u (report c v u) :=
    report_within c v u known
  have entered : AlarmsWithin startCodes s (s.onGen fun g => { g with machine := new, stateCount := 0 }) := .of_eq rfl
  rw [genEnter_offline new s (by simpa [State.online] using offline) ne, reportLockout]
  exact ((((entered.trans (reported alGenRunning _ _ (by decide))).trans (reported alGenLockout _ _ (by decide))).trans
    (reported alGenStartFail _ _ (by decide))).trans (reported alGenStopFail _ _ (by decide))).trans
    (reported alGenEngineFault _ _ (by decide))

theorem enterCranking_within_offline {s : State} (offline : s.gen.machine ≠ .online) :
    AlarmsWithin startCodes s (enterCranking s) := by
  cases present : s.meas.genPresent with
  | true =>
    rw [enterCranking_present present]
    exact genEnter_within_offline offline (by decide)
  | false =>
    rw [enterCranking_absent present]
    exact AlarmsWithin.trans (t := countAttempt s) (.of_eq rfl) (genEnter_within_offline offline (by decide))

theorem enterPriming_within_offline {s : State} (offline : s.gen.machine ≠ .online) :
    AlarmsWithin startCodes s (enterPriming s) := by
  have primed : AlarmsWithin startCodes s (genEnter .priming s) := genEnter_within_offline offline (by decide)
  by_cases prime : s.inForce 3 11 = 0
  · rw [enterPriming_passed prime]
    exact primed.trans (enterCranking_within_offline (by simp))
  · rw [enterPriming_primes (Nat.pos_of_ne_zero prime)]
    exact primed

theorem beginRun_within_offline (basis : Basis) (opening : Option Basis) (load : Bool) (duration : Option Nat)
    {s : State} (offline : s.gen.machine ≠ .online) : AlarmsWithin startCodes s (beginRun basis opening load duration s) := by
  have opened : AlarmsWithin startCodes s (openRun basis opening load duration s) := .of_eq rfl
  rw [beginRun_eq]
  exact (opened.trans (post_within _ _ _ _ _)).trans (enterPriming_within_offline (by simpa [openRun] using offline))

/-- R129: an evaluation begins a run, or leaves the state. -/
theorem evaluateStart_or (s : State) : evaluateStart s = s ∨ ∃ basis opening load duration,
    RunBegun basis opening load duration s (evaluateStart s) ∧ AlarmsWithin startCodes s (evaluateStart s) := by
  cases gates : gatesOpen s with
  | false => exact .inl (evaluateStart_shut s gates)
  | true =>
    have offline : s.gen.machine ≠ .online := by simp [gatesOpen_idle s gates]
    have begins (basis : Basis) (opening : Option Basis) (load : Bool) (duration : Option Nat)
        (begun : evaluateStart s = beginRun basis opening load duration s) : ∃ basis opening load duration,
        RunBegun basis opening load duration s (evaluateStart s) ∧ AlarmsWithin startCodes s (evaluateStart s) := by
      rw [begun]
      exact ⟨basis, opening, load, duration, beginRun_begun basis opening load duration s offline,
        beginRun_within_offline basis opening load duration offline⟩
    cases cause : firstCause s with
    | none => exact .inl (evaluateStart_none s cause)
    | some b =>
      have begun := evaluateStart_begins s b gates cause
      cases b with
      | exercise =>
        rw [beginCause] at begun
        split at begun
        · exact .inr (begins _ _ _ _ begun)
        · exact .inr (begins _ _ _ _ begun)
      | _ => exact .inr (begins _ _ _ _ begun)

theorem evaluateStart_startCodes (s : State) : AlarmsWithin startCodes s (evaluateStart s) := by
  rcases evaluateStart_or s with same | ⟨_, _, _, _, -, within⟩
  · exact .of_eq (by rw [same])
  · exact within

/-- R158: of the calendar a run that begins sets its mark. -/
theorem evaluateStart_cal (s : State) : (evaluateStart s).cal =
    { s.cal with runMark := (evaluateStart s).cal.runMark } := by
  rcases evaluateStart_or s with same | ⟨_, _, _, _, begun, -⟩
  · rw [same]
  · rw [begun.mark]

theorem evaluateStart_exercise (s : State) : (evaluateStart s).gen.exercise = s.gen.exercise := by
  rcases evaluateStart_or s with same | ⟨_, _, _, _, begun, -⟩
  · rw [same]
  · rw [begun.generator]

/-! ## The exercise due (R158 to R160) -/

/-- R127: the machine is in a run. -/
abbrev State.Runs (s : State) : Prop := s.gen.machine ≠ .idle ∧ s.gen.machine ≠ .failed

theorem inRun_iff (s : State) : s.gen.machine.inRun = true ↔ s.Runs := by
  cases machine : s.gen.machine <;> simp [State.Runs, GenState.inRun, machine]

/-- R160: an exercise counted by a run in progress. -/
abbrev Cal.countedToday (c : Cal) : Cal :=
  { c.noExercise with last := some { date := c.date, outcome := .counted } }

theorem takeExercise_counts {s : State} (runs : s.Runs) : takeExercise s = { s with cal := s.cal.countedToday } :=
  if_pos ((inRun_iff s).2 runs)

/-- R147: the exercise is handed. -/
def exerciseHanded (s : State) : State :=
  { s with cal := { s.cal with exState := .waiting }, gen := { s.gen with exercise := some s.cal.exDuration } }

theorem takeExercise_hands {s : State} (idle : ¬ s.Runs) : takeExercise s = evaluateStart (exerciseHanded s) :=
  if_neg (mt (inRun_iff s).1 idle)

theorem calendarEvent_handed {s : State} (handed : s.cal.handAgain = false) : calendarEvent s = s :=
  if_neg (by simp [handed])

theorem calendarEvent_free {s : State} (again : s.cal.handAgain = true) (free : s.cal.exState = .none) :
    calendarEvent s = { s with cal := { s.cal with handAgain := false } } :=
  (if_pos again).trans (if_pos free)

/-- R158, R163: an exercise owed across a start is handed. -/
theorem calendarEvent_hands {s : State} (again : s.cal.handAgain = true) (owed : s.cal.exState ≠ .none) :
    calendarEvent s = takeExercise { s with cal := { s.cal with handAgain := false } } :=
  (if_pos again).trans (if_neg owed)

/-- R159: an exercise falls due. -/
abbrev State.FallsDue (s : State) : Prop :=
  s.cal.second = 0 ∧ s.cal.hour = s.now 3 29 ∧ s.cal.minute = s.now 3 30 ∧
    (s.now 3 28 = 7 ∨ s.cal.weekday = s.now 3 28) ∧ s.now 3 27 = 1 ∧ s.now 3 0 = 1 ∧ s.cal.valid = true ∧
    s.cal.exState = .none

theorem fallsDue_iff (s : State) : (exerciseWanted s && atDueMoment s) = true ↔ s.FallsDue := by
  simp only [exerciseWanted, atDueMoment, Bool.and_eq_true, Bool.or_eq_true, beq_iff_eq, State.FallsDue]
  tauto

/-- R159: the record of an exercise that has fallen due. -/
def exerciseDue (s : State) : State :=
  { s with cal := { s.cal with
      exState := .due, exDuration := s.now 3 31, exWindow := s.now 3 32 * 3600, exDue := s.cal.date
      handAgain := false } }

theorem dueTest_other {s : State} (other : ¬ s.FallsDue) : dueTest s = s := if_neg (mt (fallsDue_iff s).1 other)

theorem dueTest_counts {s : State} (due : s.FallsDue) (runs : s.Runs) :
    dueTest s = { s with cal := (exerciseDue s).cal.countedToday } :=
  (if_pos ((fallsDue_iff s).2 due)).trans (takeExercise_counts (s := exerciseDue s) runs)

theorem dueTest_hands {s : State} (due : s.FallsDue) (idle : ¬ s.Runs) :
    dueTest s = evaluateStart (exerciseHanded (exerciseDue s)) :=
  (if_pos ((fallsDue_iff s).2 due)).trans (takeExercise_hands (s := exerciseDue s) idle)

/-- R159: a due moment touches the generator controller, the calendar and the alarm unit. -/
theorem dueTest_kept (s : State) : dueTest s =
    { s with gen := (dueTest s).gen, cal := (dueTest s).cal, alarm := (dueTest s).alarm } := by
  by_cases due : s.FallsDue
  · by_cases runs : s.Runs
    · rw [dueTest_counts due runs]
    · rw [dueTest_hands due runs, evaluateStart_kept]
      rfl
  · rw [dueTest_other due]

/-- R159: the time and the missed flag stand. -/
theorem dueTest_cal (s : State) : (dueTest s).cal =
    { (dueTest s).cal with
      year := s.cal.year, month := s.cal.month, day := s.cal.day, hour := s.cal.hour, minute := s.cal.minute
      second := s.cal.second, weekday := s.cal.weekday, valid := s.cal.valid, missed := s.cal.missed } := by
  by_cases due : s.FallsDue
  · by_cases runs : s.Runs
    · rw [dueTest_counts due runs]
      rfl
    · rw [dueTest_hands due runs, evaluateStart_cal]
      rfl
  · rw [dueTest_other due]

theorem dueTest_startCodes (s : State) : AlarmsWithin startCodes s (dueTest s) := by
  by_cases due : s.FallsDue
  · by_cases runs : s.Runs
    · exact .of_eq (by rw [dueTest_counts due runs])
    · rw [dueTest_hands due runs]
      exact AlarmsWithin.trans (t := exerciseHanded (exerciseDue s)) (.of_eq rfl) (evaluateStart_startCodes _)
  · exact .of_eq (by rw [dueTest_other due])

/-! ## The day boundary (R60, R65) -/

/-- R60, R65: an equalize waits. -/
abbrev EqRec.Waits (e : EqRec) : Prop := e.state = .pending ∨ e.state = .suspended

/-- R60: one more day. -/
def EqRec.dayLater (e : EqRec) : EqRec :=
  { e with
    dayCount := min 65535 (e.dayCount + 1)
    daysWaiting := if e.Waits then min 65535 (e.daysWaiting + 1) else e.daysWaiting }

/-- R60: the record after a day boundary. -/
def State.dayEq (s : State) : EqRec :=
  if IntervalReached s s.charge.eq.dayLater then s.charge.eq.dayLater.asked else s.charge.eq.dayLater

theorem dayEq_eq (s : State) :
    let days := min 65535 (s.charge.eq.dayCount + 1)
    s.dayEq = if s.charge.eq.state = .none ∧ s.inForce 1 15 ≠ 0 ∧ s.inForce 1 15 ≤ days then
      { s.charge.eq with dayCount := days, state := .pending, daysWaiting := 0 }
    else if s.charge.eq.Waits then
      { s.charge.eq with dayCount := days, daysWaiting := min 65535 (s.charge.eq.daysWaiting + 1) }
    else { s.charge.eq with dayCount := days } := by
  intro days
  have reached : IntervalReached s s.charge.eq.dayLater ↔
      s.charge.eq.state = .none ∧ s.inForce 1 15 ≠ 0 ∧ s.inForce 1 15 ≤ days :=
    ⟨fun ⟨on, count, none_⟩ => ⟨none_, on, count⟩, fun ⟨none_, on, count⟩ => ⟨on, count, none_⟩⟩
  rw [State.dayEq, if_congr reached rfl rfl]
  split
  · rfl
  · rw [EqRec.dayLater]
    split <;> rfl

theorem dayEq_dayCount (s : State) : s.dayEq.dayCount = min 65535 (s.charge.eq.dayCount + 1) := by
  unfold State.dayEq
  split <;> rfl

/-- R60: a day boundary is the interval test a day later. -/
def dayTested (s : State) : State := intervalTest (s.onCharge fun c => { c with eq := c.eq.dayLater })

theorem chargeDayBoundary_eq (s : State) : chargeDayBoundary s = reportOverdue (dayTested s) := rfl

theorem dayTested_charge (s : State) : (dayTested s).charge = { s.charge with eq := s.dayEq } := by
  obtain ⟨eq, charge⟩ := intervalTest_charge (s.onCharge fun c => { c with eq := c.eq.dayLater })
  have tested : eq = s.dayEq := (congrArg Charge.eq charge).symm.trans (intervalTest_eq _)
  rw [dayTested, charge, tested]
  rfl

/-- R65: EQUALIZE_OVERDUE is told with the record. -/
theorem reportOverdue_cond {s : State} (complete : s.alarm.records.length = 40) :
    ((reportOverdue s).record alEqualizeOverdue).cond = true ↔ s.charge.eq.Waits ∧ 14 < s.charge.eq.daysWaiting := by
  rw [reportOverdue, report_cond _ _ _ (complete ▸ by decide)]
  simp

end Sys2Proof.Machine
end

section
/-! SUPPORT and the statement about the calendar's tick (R60, R65, R147, R152 to R163). -/

namespace Sys2Proof.Machine

/-! ## Up to the due moment (R153, R154, R157, R160, R161) -/

/-- R161: the window of an exercise owed closes at this tick. -/
abbrev WindowCloses (s : State) : Prop := s.cal.exState ≠ .none ∧ s.cal.exWindow ≤ 1 ∧ s.cal.runMark = false

/-- R153, R160, R161: the calendar once its time and its window have moved on. -/
def calTicked (s : State) : Cal :=
  { s.cal.tick with
    exState := if WindowCloses s then .none else s.cal.exState
    exDuration := if WindowCloses s then 0 else s.cal.exDuration
    exWindow :=
      if WindowCloses s then 0 else if s.cal.exState = .none then s.cal.exWindow else s.cal.exWindow - 1
    missed := s.cal.missed || decide (WindowCloses s)
    last := if WindowCloses s then some { date := s.cal.exDue, outcome := .missed } else s.cal.last }

/-- R153, R160: the time and the window. -/
abbrev timeTicked (s : State) : State := s.onCal fun c => c.tick.windowTick

theorem windowTicked_cal {s : State} (legal : s.cal.Legal) : s.cal.tick.windowTick =
    { s.cal.tick with exWindow := if s.cal.exState = .none then s.cal.exWindow else s.cal.exWindow - 1 } := by
  rw [Cal.windowTick, Cal.tick_exercise legal]
  split <;> rfl

theorem windowCloses_iff {s : State} (legal : s.cal.Legal) :
    ((timeTicked s).cal.exState ≠ .none ∧ (timeTicked s).cal.exWindow = 0 ∧ (timeTicked s).cal.runMark = false) ↔
      WindowCloses s := by
  have cal : (timeTicked s).cal = _ := windowTicked_cal legal
  have state : s.cal.tick.exState = s.cal.exState := by rw [Cal.tick_exercise legal]
  have mark : s.cal.tick.runMark = s.cal.runMark := by rw [Cal.tick_exercise legal]
  rw [cal, state, mark]
  refine and_congr_right fun owed => and_congr_left fun _ => ?_
  simp only [if_neg owed]
  omega

theorem windowClosed_closes {s : State} (legal : s.cal.Legal) (closes : WindowCloses s) :
    windowClosed (timeTicked s) = exerciseMissed (timeTicked s) := if_pos ((windowCloses_iff legal).2 closes)

theorem windowClosed_stays {s : State} (legal : s.cal.Legal) (stays : ¬ WindowCloses s) :
    windowClosed (timeTicked s) = timeTicked s := if_neg (mt (windowCloses_iff legal).1 stays)

theorem windowClosed_cal {s : State} (legal : s.cal.Legal) : (windowClosed (timeTicked s)).cal = calTicked s := by
  have cal : (timeTicked s).cal = _ := windowTicked_cal legal
  by_cases closes : WindowCloses s
  · rw [windowClosed_closes legal closes, exerciseMissed_cal, cal, calTicked, Cal.tick_exercise legal]
    simp [Cal.noExercise, closes]
  · rw [windowClosed_stays legal closes, cal, calTicked, Cal.tick_exercise legal]
    simp [closes]

theorem windowClosed_exercise {s : State} (legal : s.cal.Legal) : (windowClosed (timeTicked s)).gen =
    { s.gen with exercise := if WindowCloses s then none else s.gen.exercise } := by
  by_cases closes : WindowCloses s
  · rw [windowClosed_closes legal closes, exerciseMissed_gen, if_pos closes]
    rfl
  · rw [windowClosed_stays legal closes, if_neg closes]
    rfl

/-- R153 to R161: the tick before its day boundary. -/
def clockTicked (s : State) : State := clockTest s.cal.valid (windowClosed (timeTicked s))

theorem clockTicked_cal {s : State} (legal : s.cal.Legal) : (clockTicked s).cal = calTicked s := by
  simp [clockTicked, windowClosed_cal legal]

@[simp] theorem clockTicked_frame (s : State) :
    (clockTicked s).pending = s.pending ∧ (clockTicked s).powered = s.powered ∧
    (clockTicked s).markerGood = s.markerGood ∧ (clockTicked s).meas = s.meas ∧ (clockTicked s).sup = s.sup ∧
    (clockTicked s).acct = s.acct ∧ (clockTicked s).charge = s.charge ∧ (clockTicked s).prot = s.prot ∧
    (clockTicked s).rect = s.rect ∧ (clockTicked s).bus = s.bus ∧ (clockTicked s).store = s.store ∧
    (clockTicked s).link = s.link := by
  simp [clockTicked]

/-- R153 to R161: the tick up to the due moment. -/
def tickCarried (s : State) : State := boundaryTest (clockTicked s)

theorem poweredTick_eq (s : State) : poweredTick s = dueTest (tickCarried s) := rfl

@[simp] theorem tickCarried_frame (s : State) :
    (tickCarried s).pending = s.pending ∧ (tickCarried s).powered = s.powered ∧
    (tickCarried s).markerGood = s.markerGood ∧ (tickCarried s).meas = s.meas ∧ (tickCarried s).sup = s.sup ∧
    (tickCarried s).acct = s.acct ∧ (tickCarried s).prot = s.prot ∧ (tickCarried s).rect = s.rect ∧
    (tickCarried s).bus = s.bus ∧ (tickCarried s).store = s.store ∧ (tickCarried s).link = s.link := by
  simp [tickCarried]

theorem tickCarried_cal {s : State} (legal : s.cal.Legal) : (tickCarried s).cal = calTicked s := by
  simp [tickCarried, clockTicked_cal legal]

theorem tickCarried_gen {s : State} (legal : s.cal.Legal) : (tickCarried s).gen =
    { s.gen with exercise := if WindowCloses s then none else s.gen.exercise } := by
  simp [tickCarried, clockTicked, windowClosed_exercise legal]

theorem tickCarried_day {s : State} (legal : s.cal.Legal) (ends : s.cal.DayEnds) :
    tickCarried s = reportOverdue (dayTested (clockTicked s)) := by
  have midnight : (clockTicked s).cal.hour = 0 ∧ (clockTicked s).cal.minute = 0 ∧ (clockTicked s).cal.second = 0 := by
    rw [clockTicked_cal legal]
    exact (Cal.tick_midnight legal).2 ends
  rw [tickCarried, boundaryTest, if_pos (by simpa [atMidnight, and_assoc] using midnight), chargeDayBoundary_eq]

theorem tickCarried_within {s : State} (legal : s.cal.Legal) (inside : ¬ s.cal.DayEnds) :
    tickCarried s = clockTicked s := by
  have other : ¬ ((clockTicked s).cal.hour = 0 ∧ (clockTicked s).cal.minute = 0 ∧ (clockTicked s).cal.second = 0) := by
    rw [clockTicked_cal legal]
    exact mt (Cal.tick_midnight legal).1 inside
  rw [tickCarried, boundaryTest, if_neg (by simpa [atMidnight, and_assoc] using other)]

theorem dayEq_congr {s t : State} (charge : t.charge = s.charge) (store : t.store = s.store) : t.dayEq = s.dayEq := by
  simp only [State.dayEq, IntervalReached, charge, inForce_congr store]

/-- R60: at midnight the day is counted. -/
theorem tickCarried_charge {s : State} (legal : s.cal.Legal) : (tickCarried s).charge =
    { s.charge with eq := if s.cal.DayEnds then s.dayEq else s.charge.eq } := by
  by_cases ends : s.cal.DayEnds
  · have day : (clockTicked s).dayEq = s.dayEq := dayEq_congr (by simp) (by simp)
    rw [if_pos ends, tickCarried_day legal ends]
    simp [dayTested_charge, day]
  · simp [if_neg ends, tickCarried_within legal ends]

/-- Inside a day nothing but the time and the window moves, where the window does not close. -/
theorem tickCarried_plain {s : State} (legal : s.cal.Legal) (inside : ¬ s.cal.DayEnds) (stays : ¬ WindowCloses s) :
    tickCarried s = { s with cal := calTicked s } := by
  have valid : s.cal.tick.valid = s.cal.valid := (Cal.tick_stamp legal fun ends => inside ends.2.2.2).2.1
  have cal := windowClosed_cal legal
  rw [windowClosed_stays legal stays] at cal
  rw [tickCarried_within legal inside, clockTicked, windowClosed_stays legal stays, clockTest, if_pos, ← cal]
  · rfl
  · rw [cal]
    exact valid

/-! ## The conditions (R65, R154, R158) -/

theorem windowClosed_within (s : State) : AlarmsWithin [alExerciseMissed] s (windowClosed s) := by
  unfold windowClosed
  split
  · exact AlarmsWithin.trans (t := dropCause (s.onCal _)) (.of_eq rfl) (report_within _ _ _ (by simp))
  · exact .of_eq rfl

theorem clockTest_within (was : Bool) (s : State) : AlarmsWithin [alClockLost] s (clockTest was s) := by
  unfold clockTest
  split
  · exact .of_eq rfl
  · exact report_within _ _ _ (by simp)

theorem boundaryTest_within (s : State) : AlarmsWithin [alEqualizeOverdue] s (boundaryTest s) := by
  unfold boundaryTest
  split
  · exact AlarmsWithin.trans (t := dayTested s) (.of_eq (by simp [dayTested])) (report_within _ _ _ (by simp))
  · exact .of_eq rfl

theorem clockTicked_alarms (s : State) : AlarmsWithin [alExerciseMissed, alClockLost] s (clockTicked s) :=
  have ticked : AlarmsWithin [alExerciseMissed, alClockLost] s (timeTicked s) := .of_eq rfl
  (ticked.trans ((windowClosed_within _).mono (by simp))).trans ((clockTest_within _ _).mono (by simp))

/-- R65: EQUALIZE_OVERDUE is told at midnight. -/
theorem poweredTick_overdue {s : State} (legal : s.cal.Legal) (complete : s.alarm.records.length = 40) :
    ((poweredTick s).record alEqualizeOverdue).cond = true ↔
      if s.cal.DayEnds then s.dayEq.Waits ∧ 14 < s.dayEq.daysWaiting
      else (s.record alEqualizeOverdue).cond = true := by
  rw [poweredTick_eq, (dueTest_startCodes _).record _ (by decide)]
  by_cases ends : s.cal.DayEnds
  · have length : (dayTested (clockTicked s)).alarm.records.length = 40 := by
      simp [dayTested, (clockTicked_alarms s).length, complete]
    have day : (dayTested (clockTicked s)).charge.eq = s.dayEq := by
      rw [dayTested_charge]
      exact dayEq_congr (by simp) (by simp)
    rw [if_pos ends, tickCarried_day legal ends, reportOverdue_cond length, day]
  · rw [if_neg ends, tickCarried_within legal ends, (clockTicked_alarms s).record _ (by decide)]

/-- R158: EXERCISE_MISSED is told as the window closes. -/
theorem poweredTick_missed {s : State} (legal : s.cal.Legal) (complete : s.alarm.records.length = 40)
    (closes : WindowCloses s) : ((poweredTick s).record alExerciseMissed).cond = true := by
  rw [poweredTick_eq, (dueTest_startCodes _).record _ (by decide), tickCarried,
    (boundaryTest_within _).record _ (by decide), clockTicked, (clockTest_within _ _).record _ (by decide),
    windowClosed_closes legal closes]
  exact report_cond _ _ _ (show _ < s.alarm.records.length from complete ▸ by decide)

/-- R154: CLOCK_LOST is told as 2099 ends. -/
theorem poweredTick_clockLost {s : State} (legal : s.cal.Legal) (complete : s.alarm.records.length = 40)
    (ends : s.cal.Ends) (valid : s.cal.valid = true) : ((poweredTick s).record alClockLost).cond = true := by
  have lost : (windowClosed (timeTicked s)).cal.valid = false := by
    rw [windowClosed_cal legal]
    exact (Cal.tick_ends legal ends).2.1
  have length : alClockLost < (windowClosed (timeTicked s)).alarm.records.length := by
    rw [(windowClosed_within _).length]
    exact complete ▸ by decide
  rw [poweredTick_eq, (dueTest_startCodes _).record _ (by decide), tickCarried,
    (boundaryTest_within _).record _ (by decide), clockTicked, clockTest, if_neg (by simp [lost, valid]), reportClock,
    report_cond _ _ _ length, lost]
  rfl

/-! ## The due moment (R147, R159, R160) -/

/-- R159: an exercise falls due at the tick from `s` to `t`. -/
abbrev TickDue (s t : State) : Prop :=
  t.cal.second = 0 ∧ t.cal.hour = s.now 3 29 ∧ t.cal.minute = s.now 3 30 ∧
    (s.now 3 28 = 7 ∨ t.cal.weekday = s.now 3 28) ∧ s.now 3 27 = 1 ∧ s.now 3 0 = 1 ∧ t.cal.valid = true ∧
    (s.cal.exState = .none ∨ WindowCloses s)

theorem tickCarried_due {s : State} (legal : s.cal.Legal) :
    (tickCarried s).FallsDue ↔ TickDue s (poweredTick s) := by
  have now : (tickCarried s).now = s.now := funext₂ fun g i => by simp [State.now]
  have free : (tickCarried s).cal.exState = .none ↔ s.cal.exState = .none ∨ WindowCloses s := by
    rw [tickCarried_cal legal, calTicked]
    by_cases closes : WindowCloses s
    · exact iff_of_true (if_pos closes) (.inr closes)
    · simp only [if_neg closes, or_iff_left closes]
  rw [TickDue, poweredTick_eq, dueTest_cal, State.FallsDue, now, free]

theorem tickCarried_runs {s : State} (legal : s.cal.Legal) : (tickCarried s).Runs ↔ s.Runs := by
  rw [State.Runs, tickCarried_gen legal]

/-- The time is that of the tick, whatever falls due. -/
theorem poweredTick_time {s : State} (legal : s.cal.Legal) : s.cal.tick.SameTime (poweredTick s).cal := by
  rw [poweredTick_eq, dueTest_cal, tickCarried_cal legal]
  exact ⟨rfl, rfl, rfl⟩

theorem poweredTick_parts {s : State} (legal : s.cal.Legal) : poweredTick s =
    { s with
      charge := { s.charge with eq := (poweredTick s).charge.eq }, gen := (poweredTick s).gen
      cal := (poweredTick s).cal, alarm := (poweredTick s).alarm } := by
  have kept := dueTest_kept (tickCarried s)
  rw [← poweredTick_eq] at kept
  have charge : (poweredTick s).charge = (tickCarried s).charge := by rw [kept]
  apply State.ext_parts
  case charge => rw [charge, tickCarried_charge legal]
  case sup => exact (congrArg State.sup kept).trans (by simp)
  case acct => exact (congrArg State.acct kept).trans (by simp)
  case prot => exact (congrArg State.prot kept).trans (by simp)
  case rect => exact (congrArg State.rect kept).trans (by simp)
  all_goals simp

theorem poweredTick_eqRecord {s : State} (legal : s.cal.Legal) :
    (poweredTick s).charge.eq = if s.cal.DayEnds then s.dayEq else s.charge.eq := by
  rw [poweredTick_eq, dueTest_kept, tickCarried_charge legal]

theorem poweredTick_missedFlag {s : State} (legal : s.cal.Legal) :
    (poweredTick s).cal.missed = (s.cal.missed || decide (WindowCloses s)) := by
  rw [poweredTick_eq, dueTest_cal, tickCarried_cal legal]
  rfl

/-- R158: what a calendar says of the exercise owed. -/
abbrev Cal.owed (c : Cal) : ExState × Nat × Nat := (c.exState, c.exDuration, c.exWindow)

/-- R159: no due moment. -/
theorem poweredTick_other {s : State} (legal : s.cal.Legal) (other : ¬ TickDue s (poweredTick s)) :
    poweredTick s = tickCarried s := dueTest_other (mt (tickCarried_due legal).1 other)

theorem poweredTick_calOther {s : State} (legal : s.cal.Legal) (other : ¬ TickDue s (poweredTick s)) :
    (poweredTick s).cal = calTicked s := by
  rw [poweredTick_other legal other, tickCarried_cal legal]

theorem calTicked_owed (s : State) : (calTicked s).owed =
    if WindowCloses s then (.none, 0, 0)
    else (s.cal.exState, s.cal.exDuration,
      if s.cal.exState = .none then s.cal.exWindow else s.cal.exWindow - 1) := by
  by_cases closes : WindowCloses s
  · simp only [calTicked, if_pos closes]
  · simp only [calTicked, if_neg closes]

/-- R160: a due moment in a run. -/
theorem poweredTick_counts {s : State} (legal : s.cal.Legal) (due : TickDue s (poweredTick s)) (runs : s.Runs) :
    poweredTick s = { tickCarried s with cal := (exerciseDue (tickCarried s)).cal.countedToday } :=
  dueTest_counts ((tickCarried_due legal).2 due) ((tickCarried_runs legal).2 runs)

/-- R147, R159: a due moment with no run. -/
theorem poweredTick_hands {s : State} (legal : s.cal.Legal) (due : TickDue s (poweredTick s)) (idle : ¬ s.Runs) :
    poweredTick s = evaluateStart (exerciseHanded (exerciseDue (tickCarried s))) :=
  dueTest_hands ((tickCarried_due legal).2 due) (mt (tickCarried_runs legal).1 idle)

/-- R147: the generator controller's part, where no exercise is handed. -/
theorem poweredTick_gen {s : State} (legal : s.cal.Legal) (unhanded : ¬ (TickDue s (poweredTick s) ∧ ¬ s.Runs)) :
    (poweredTick s).gen = { s.gen with exercise := if WindowCloses s then none else s.gen.exercise } := by
  by_cases due : TickDue s (poweredTick s)
  · have runs : s.Runs := by_contra fun idle => unhanded ⟨due, idle⟩
    simp only [poweredTick_counts legal due runs, tickCarried_gen legal]
  · rw [poweredTick_other legal due, tickCarried_gen legal]

/-- R147, R158, R159: the records of an exercise that is handed. -/
theorem poweredTick_handed {s : State} (legal : s.cal.Legal) (due : TickDue s (poweredTick s)) (idle : ¬ s.Runs) :
    let t := poweredTick s
    t.cal = { calTicked s with
      exState := .waiting, exDuration := s.now 3 31, exWindow := s.now 3 32 * 3600, exDue := (calTicked s).date
      handAgain := false, runMark := t.cal.runMark } ∧
      t.gen.exercise = some (s.now 3 31) := by
  have now (g i : Nat) : (tickCarried s).now g i = s.now g i := by simp [State.now]
  intro t
  have handed : t = _ := poweredTick_hands legal due idle
  rw [handed, evaluateStart_exercise]
  refine ⟨?_, ?_⟩
  · rw [evaluateStart_cal]
    simp [exerciseHanded, exerciseDue, now, tickCarried_cal legal]
  · simp [exerciseHanded, exerciseDue, now]

/-- R129, R147: an exercise handed inside a day, with no other's window closing, is evaluated. -/
theorem poweredTick_evaluated {s : State} (legal : s.cal.Legal) (due : TickDue s (poweredTick s)) (idle : ¬ s.Runs)
    (inside : ¬ s.cal.DayEnds) (stays : ¬ WindowCloses s) : Evaluated
      { s with
        cal := { (poweredTick s).cal with runMark := s.cal.runMark }
        gen := { s.gen with exercise := some (s.now 3 31) } } (poweredTick s) := by
  have mark : (calTicked s).runMark = s.cal.runMark := by
    rw [calTicked, Cal.tick_exercise legal]
  have source : exerciseHanded (exerciseDue (tickCarried s)) =
      { s with
        cal := { (poweredTick s).cal with runMark := s.cal.runMark }
        gen := { s.gen with exercise := some (s.now 3 31) } } := by
    rw [(poweredTick_handed legal due idle).1, tickCarried_plain legal inside stays, ← mark]
    rfl
  rw [← source, poweredTick_hands legal due idle]
  exact evaluateStart_evaluated _

/-! ## Without the supply (R153, R160) -/

theorem unpoweredTick_kept {s : State} (legal : s.cal.Legal) (kept : s.markerGood = true) :
    unpoweredTick s = { s with cal := { s.cal.tick with
      exWindow := if s.cal.exState = .none then s.cal.exWindow else s.cal.exWindow - 1 } } := by
  rw [unpoweredTick, if_pos kept, ← windowTicked_cal legal]
  rfl

end Sys2Proof.Machine

open Sys2Proof Sys2Proof.Machine

/-- Settles O43: the time and the window of a tick, what a tick brings up to the due moment and at it, the tick without
the supply, and the calendar's turn at a measurement event. -/
theorem ticksAdvanceTheTime : Obligations.TicksAdvanceTheTime := by
  intro s calendar last midnight advanced runs closes falls today owed lapsed days waits reached
  have legal := calendar.legal
  have advances (t : State) (time : s.cal.tick.SameTime t.cal)
      (window : s.cal.exState ≠ .none → 1 < s.cal.exWindow →
        t.cal.exState = s.cal.exState ∧ t.cal.exWindow = s.cal.exWindow - 1) : advanced t := by
    obtain ⟨stamp, valid, weekday⟩ := time
    refine ⟨fun goes => ?_, fun ends => ?_, window⟩
    · obtain ⟨stamped, kept, day⟩ := Cal.tick_stamp legal goes
      exact ⟨stamp.trans stamped, valid.trans kept, weekday.trans day⟩
    · obtain ⟨stamped, kept, day⟩ := Cal.tick_ends legal ends
      exact ⟨stamp.trans stamped, valid.trans kept, weekday.trans day⟩
  have powered (on : s.powered = true) : exec .calendarTick s = .next (poweredTick s) :=
    congrArg Host.Outcome.next (if_pos on)
  have unpowered (off : s.powered = false) : exec .calendarTick s = .next (unpoweredTick s) :=
    congrArg Host.Outcome.next (if_neg (by simp [off]))
  refine ⟨fun on => ⟨_, powered on, ?_⟩, fun off kept => ⟨_, unpowered off, ?_⟩, fun off broken => ?_, ?_⟩
  · have eq : (poweredTick s).charge.eq = if midnight then s.dayEq else s.charge.eq := poweredTick_eqRecord legal
    refine ⟨advances _ (poweredTick_time legal) fun owes open_ => ?_, ?_, ?_, fun complete => ⟨?_, ?_, ?_⟩,
      poweredTick_missedFlag legal, poweredTick_gen legal, fun due running => ?_, fun due idle => ?_, fun other => ?_,
      poweredTick_parts legal⟩
    · have stays : ¬ closes := fun ⟨_, short, _⟩ => by omega
      have other : ¬ TickDue s (poweredTick s) := fun ⟨_, _, _, _, _, _, _, free⟩ => free.elim owes stays
      rw [poweredTick_calOther legal other]
      exact ⟨if_neg stays, (if_neg stays).trans (if_neg owes)⟩
    · rw [eq, apply_ite EqRec.dayCount, dayEq_dayCount]
    · rw [eq, ite_not, dayEq_eq]
    · have told := poweredTick_overdue legal complete
      by_cases ends : midnight
      · rw [if_pos ends] at told eq ⊢
        rw [eq]
        exact told
      · rw [if_neg ends] at told ⊢
        exact told
    · exact poweredTick_missed legal complete
    · exact poweredTick_clockLost legal complete
    · have counted := congrArg State.cal (poweredTick_counts legal due running)
      simp only [owed, today, counted]
      exact ⟨rfl, rfl⟩
    · obtain ⟨cal, exercise⟩ := poweredTick_handed legal due idle
      refine ⟨?_, ?_, ?_, exercise, poweredTick_evaluated legal due idle⟩
      · simp only [owed]
        rw [cal, Nat.mul_comm]
      · rw [cal]
        rfl
      · simp only [today]
        rw [cal]
        rfl
    · simp only [owed]
      rw [poweredTick_calOther legal other]
      exact ⟨rfl, calTicked_owed s⟩
  · have tick := Cal.tick_exercise legal
    have state : s.cal.tick.exState = s.cal.exState := by rw [tick]
    rw [unpoweredTick_kept legal kept]
    refine ⟨advances _ ⟨rfl, rfl, rfl⟩ fun owes _ => ⟨state, if_neg owes⟩, ?_⟩
    rw [tick]
  · rw [unpowered off, unpoweredTick, if_neg (by simp [broken])]
  · refine ⟨calendarEvent_handed, calendarEvent_free, fun again owes running => ?_, fun again owes idle => ?_⟩
    · exact (calendarEvent_hands again owes).trans (takeExercise_counts running)
    · show Evaluated _ (calendarEvent s)
      rw [calendarEvent_hands again owes, takeExercise_hands (by exact idle)]
      exact evaluateStart_evaluated _
end

section
/-! SUPPORT and the statement about the NEL and the reports of the bus (R72 to R77, R82, R83). -/

namespace Sys2Proof.Machine

/-! ## The NEL opens and closes (R76, R77) -/

theorem openNel_prot (cause : ShedCause) (s : State) : (openNel cause s).prot =
    { s.prot with nel := .opened, shedCount := 0, nelCount := 0, shedCause := some cause } := by
  simp [openNel, State.onProt]

theorem closeNel_prot (s : State) : (closeNel s).prot =
    { s.prot with nel := .closed, shedCause := none, shedCount := 0, nelCount := 0 } := by
  simp [closeNel, State.onProt]

/-- A condition reported behind a write of the protection unit's own state. -/
theorem onProt_reported (f : Prot → Prot) (c : Nat) (v : Bool) {s : State} (h : c < s.alarm.records.length) :
    Reported c v s (report c v (s.onProt f)) :=
  have reported := report_reported c v (s.onProt f) h
  ⟨reported.cond, reported.others, reported.notices, reported.evaluated⟩

theorem openNel_reported (cause : ShedCause) {s : State} (complete : s.alarm.records.length = 40) :
    Reported 3 true s (openNel cause s) :=
  onProt_reported _ 3 true (by omega)

theorem closeNel_reported {s : State} (complete : s.alarm.records.length = 40) : Reported 3 false s (closeNel s) :=
  onProt_reported _ 3 false (by omega)

/-! ## The tests and counts of the event, written out (R73 to R75, R77, R83) -/

theorem shedSocTest_iff (s : State) : shedSocTest s = true ↔ s.inForce 2 6 ≠ 0 ∧
    (s.fittedStrings.any fun r =>
      r.sync == .sync && decide (r.account * 100 / (100 * r.capacity) ≤ s.inForce 2 6)) = true := by
  rw [shedSocTest, Bool.and_eq_true, bne_iff_ne]
  rfl

/-- R74: the count of the shed after the event. -/
def shedRun (s : State) : Nat := if busFalls s 4 then s.prot.shedCount + 1 else 0

theorem shedRun_eq (s : State) :
    shedRun s = if s.meas.bus ≤ s.cells * s.inForce 2 4 / 10 then s.prot.shedCount + 1 else 0 := by
  simp only [shedRun, busFalls, decide_eq_true_eq]
  rfl

/-- R77: the count of the NEL's reconnect after the event. -/
def nelRun (s : State) : Nat := if busRises s 7 then s.prot.nelCount + 1 else 0

theorem nelRun_eq (s : State) :
    nelRun s = if s.cells * s.inForce 2 7 / 10 ≤ s.meas.bus then s.prot.nelCount + 1 else 0 := by
  simp only [nelRun, busRises, decide_eq_true_eq]
  rfl

/-- R83: the count of the discharge after the event. -/
def drainRun (s : State) : Nat := if dischargeTest s then min 60 (s.prot.dischargeCount + 1) else 0

theorem drainRun_eq (s : State) :
    drainRun s =
      if s.sup.ac = true ∧ s.charge.stage ≠ .test ∧ s.batteryCurrent ≤ -(s.inForce 2 11 : Int) then
        min 60 (s.prot.dischargeCount + 1) else 0 := by
  simp only [drainRun, dischargeTest, Bool.and_eq_true, bne_iff_ne, decide_eq_true_eq, and_assoc]

/-! ## The work on the NEL at a measurement event (R74 to R77) -/

/-- R74, R75: the event sheds, by its delay or by SOC. -/
def shedsNow (s : State) : Prop := s.inForce 2 5 ≤ shedRun s ∨ shedSocTest s = true

/-- R76: the cause of a shed at the event. -/
def eventShedCause (s : State) : ShedCause :=
  if s.inForce 2 5 ≤ shedRun s ∧ shedSocTest s = true then .both
  else if s.inForce 2 5 ≤ shedRun s then .voltage else .soc

theorem shedWork_opens {s : State} (battery : s.sup.mode = .battery) (closed : s.prot.nel = .closed)
    (h : shedsNow s) : shedWork s = openNel (eventShedCause s) s := by
  refine (if_pos ⟨battery, closed⟩).trans ?_
  rw [← shedRun]
  by_cases slow : s.inForce 2 5 ≤ shedRun s
  · cases empty : shedSocTest s <;> simp [eventShedCause, slow, empty]
  · simp [eventShedCause, slow, h.resolve_left slow]

theorem shedWork_counting {s : State} (battery : s.sup.mode = .battery) (closed : s.prot.nel = .closed)
    (h : ¬ shedsNow s) : shedWork s = s.onProt fun p => { p with shedCount := shedRun s } := by
  obtain ⟨slow, empty⟩ := not_or.1 h
  refine (if_pos ⟨battery, closed⟩).trans ?_
  rw [← shedRun]
  simp [slow, empty]

theorem shedWork_off {s : State} (h : s.sup.mode ≠ .battery) :
    shedWork s = s.onProt fun p => { p with shedCount := 0 } :=
  if_neg fun b => h b.1

theorem nelWork_due {s : State} (opened : s.prot.nel = .opened) (ac : s.sup.ac = true)
    (h : s.inForce 2 8 ≤ nelRun s) : nelWork s = closeNel s :=
  (if_pos ⟨opened, ac⟩).trans (if_pos h)

theorem nelWork_counting {s : State} (opened : s.prot.nel = .opened) (ac : s.sup.ac = true)
    (h : nelRun s < s.inForce 2 8) : nelWork s = s.onProt fun p => { p with nelCount := nelRun s } :=
  (if_pos ⟨opened, ac⟩).trans (if_neg (Nat.not_le.2 h))

theorem nelWork_off {s : State} (h : s.sup.ac = false) : nelWork s = s.onProt fun p => { p with nelCount := 0 } :=
  if_neg fun b => by simp [h] at b

theorem nelWorked_closed {s : State} (h : s.prot.nel = .closed) : nelWorked s = shedWork s := if_neg (by simp [h])

theorem nelWorked_opened {s : State} (h : s.prot.nel = .opened) : nelWorked s = nelWork s := if_pos h

/-- The work on the NEL opens it, closes it or counts for it. -/
theorem nelWorked_cases (s : State) :
    (∃ cause, nelWorked s = openNel cause s) ∨ nelWorked s = closeNel s ∨
      ∃ sheds reconnects : Nat,
        nelWorked s = s.onProt fun p => { p with shedCount := sheds, nelCount := reconnects } := by
  cases nel : s.prot.nel with
  | closed =>
    rw [nelWorked_closed nel]
    by_cases battery : s.sup.mode = .battery
    · by_cases sheds : shedsNow s
      · exact .inl ⟨_, shedWork_opens battery nel sheds⟩
      · exact .inr (.inr ⟨_, s.prot.nelCount, shedWork_counting battery nel sheds⟩)
    · exact .inr (.inr ⟨0, s.prot.nelCount, shedWork_off battery⟩)
  | opened =>
    rw [nelWorked_opened nel]
    cases ac : s.sup.ac with
    | false => exact .inr (.inr ⟨s.prot.shedCount, 0, nelWork_off ac⟩)
    | true =>
      rcases Nat.lt_or_ge (nelRun s) (s.inForce 2 8) with early | due_
      · exact .inr (.inr ⟨s.prot.shedCount, _, nelWork_counting nel ac early⟩)
      · exact .inr (.inl (nelWork_due nel ac due_))

theorem nelWorked_dischargeCount (s : State) : (nelWorked s).prot.dischargeCount = s.prot.dischargeCount := by
  rcases nelWorked_cases s with ⟨cause, opens⟩ | closes | ⟨_, _, counts⟩
  · rw [opens, openNel_prot]
  · rw [closes, closeNel_prot]
  · rw [counts]
    rfl

/-! ## What the work behind that on the NEL leaves of it -/

/-- The conditions that the event's work behind that on the NEL can have reported: LOAD_SHED is none of them. -/
abbrev behindNelCodes : List Nat := [alBusHigh, alBusLow, alBatteryDisconnected] ++ modeCodes

/-- From `s` to `t` the NEL, its cause and LOAD_SHED stand, and a count of the NEL that is 0 stays 0. -/
structure NelKept (s t : State) : Prop extends AlarmsWithin behindNelCodes s t where
  nel : t.prot.nel = s.prot.nel
  cause : t.prot.shedCause = s.prot.shedCause
  shedCount : s.prot.shedCount = 0 → t.prot.shedCount = 0
  nelCount : s.prot.nelCount = 0 → t.prot.nelCount = 0

theorem NelKept.loadShed {s t : State} (h : NelKept s t) : t.record 3 = s.record 3 := h.record 3 (by decide)

theorem NelKept.refl (s : State) : NelKept s s := ⟨.of_eq rfl, rfl, rfl, id, id⟩

theorem NelKept.trans {s t u : State} (h₁ : NelKept s t) (h₂ : NelKept t u) : NelKept s u :=
  ⟨h₁.toAlarmsWithin.trans h₂.toAlarmsWithin, h₂.nel.trans h₁.nel, h₂.cause.trans h₁.cause,
    h₂.shedCount ∘ h₁.shedCount, h₂.nelCount ∘ h₁.nelCount⟩

theorem NelKept.ite {s t u : State} (p : Prop) [Decidable p] (ht : NelKept s t) (hu : NelKept s u) :
    NelKept s (if p then t else u) := by
  split
  · exact ht
  · exact hu

/-- What a change of the mode does outside the protection unit. -/
theorem NelKept.of_prot {s t : State} (prot : t.prot = s.prot) (alarms : AlarmsWithin modeCodes s t) : NelKept s t :=
  ⟨alarms.mono (List.subset_append_right _ _), by rw [prot], by rw [prot], by rw [prot]; exact id,
    by rw [prot]; exact id⟩

theorem NelKept.report {s t : State} (h : NelKept s t) {c : Nat} (v : Bool) (hc : c ∈ behindNelCodes) :
    NelKept s (Machine.report c v t) :=
  h.trans ⟨report_within c v t hc, by simp, by simp, by simp, by simp⟩

/-- The protection unit writes of itself what is not the NEL, discarding a count of it or not, and reports. -/
theorem report_onProt_nelKept (f : Prot → Prot) (c : Nat) (v : Bool) (s : State) (nel : (f s.prot).nel = s.prot.nel)
    (cause : (f s.prot).shedCause = s.prot.shedCause) (sheds : s.prot.shedCount = 0 → (f s.prot).shedCount = 0)
    (reconnects : s.prot.nelCount = 0 → (f s.prot).nelCount = 0) (hc : c ∈ behindNelCodes) :
    NelKept s (report c v (s.onProt f)) :=
  have written : NelKept s (s.onProt f) := ⟨.of_eq rfl, nel, cause, sheds, reconnects⟩
  written.report v hc

/-- A mode that is not BATTERY, or an AC that is not available, discards counts of the NEL (R73). -/
theorem protectionModeChange_nelKept (s : State) : NelKept s (protectionModeChange s) := by
  have sheds : NelKept s (if s.sup.mode = .battery then s else
      s.onProt fun p => { p with shedCount := 0, disconnectCount := 0 }) :=
    .ite _ (.refl s) ⟨.of_eq rfl, rfl, rfl, fun _ => rfl, id⟩
  have reconnects (u : State) :
      NelKept u (dropDischargeCount (u.onProt fun p => { p with nelCount := 0, bpdCount := 0 })) :=
    report_onProt_nelKept (fun p => { p with nelCount := 0, bpdCount := 0, dischargeCount := 0 }) alBatteryDischarge
      false u rfl rfl id (fun _ => rfl) (by decide)
  exact .ite _ sheds (sheds.trans (reconnects _))

/-- A mode derived anew moves neither the NEL nor its cause. -/
theorem rederive_nelKept (s : State) : NelKept s (rederive s) := by
  have supervised : NelKept s (supervise s) := .of_prot (by simp) (supervise_within modeCodes s)
  have charged (old : Mode) (u : State) : NelKept u (chargeModeChange old u) :=
    .of_prot (chargeModeChange_prot old u) (chargeModeChange_stands old u).toAlarmsWithin
  have scheduled (ac : Bool) (u : State) : NelKept u (schedulerAcChange ac u) :=
    .of_prot (by simp) (schedulerAcChange_stands ac u).toAlarmsWithin
  unfold rederive actOnMode
  exact ((supervised.trans (.ite _ (.refl _) (charged _ _))).trans
    (.ite _ (.refl _) (protectionModeChange_nelKept _))).trans (scheduled _ _)

theorem openBpd_nelKept (s : State) : NelKept s (openBpd s) :=
  (report_onProt_nelKept _ alBatteryDisconnected _ s rfl rfl id id (by decide)).trans (rederive_nelKept (bpdOpened s))

theorem closeBpd_nelKept (s : State) : NelKept s (closeBpd s) :=
  (report_onProt_nelKept _ alBatteryDisconnected _ s rfl rfl id id (by decide)).trans (rederive_nelKept (bpdClosed s))

/-! ## The work on the BPD moves it or counts -/

/-- From `s` to `t` only the counts of the BPD have moved. -/
def BpdCounted (s t : State) : Prop := ∃ disconnects reconnects : Nat,
  t = s.onProt fun p => { p with disconnectCount := disconnects, bpdCount := reconnects }

theorem BpdCounted.nelKept {s t : State} (h : BpdCounted s t) : NelKept s t := by
  obtain ⟨_, _, rfl⟩ := h
  exact ⟨.of_eq rfl, rfl, rfl, id, id⟩

theorem disconnectWork_cases (s : State) : disconnectWork s = openBpd s ∨ BpdCounted s (disconnectWork s) := by
  by_cases judged : s.sup.mode = .battery ∧ s.prot.bpd = .closed
  · rcases Nat.lt_or_ge (disconnectRun s) (s.inForce 2 1) with early | due_
    · exact .inr ⟨_, s.prot.bpdCount, disconnectWork_counting judged.1 judged.2 early⟩
    · exact .inl (disconnectWork_due judged.1 judged.2 due_)
  · exact .inr ⟨0, s.prot.bpdCount, if_neg judged⟩

theorem reconnectWork_cases (s : State) : reconnectWork s = closeBpd s ∨ BpdCounted s (reconnectWork s) := by
  by_cases opened : s.prot.bpd = .opened
  · rcases Nat.lt_or_ge (reconnectRun s) (s.inForce 2 3) with early | due_
    · exact .inr ⟨s.prot.disconnectCount, _, reconnectWork_counting opened early⟩
    · exact .inl (reconnectWork_due opened due_)
  · exact .inr ⟨s.prot.disconnectCount, 0, if_neg opened⟩

theorem openBpd_bpd (s : State) : (openBpd s).prot.bpd = .opened := by rw [openBpd_eq, rederive_bpd, bpdOpened_prot]

theorem closeBpd_bpd (s : State) : (closeBpd s).prot.bpd = .closed := by rw [closeBpd_eq, rederive_bpd, bpdClosed_prot]

/-- The unit's work on the BPD opens a closed one, closes an open one, or counts. -/
theorem bpdWorked_cases (s : State) :
    s.prot.bpd = .closed ∧ bpdWorked s = openBpd (nelWorked s) ∨
      s.prot.bpd = .opened ∧ bpdWorked s = closeBpd (nelWorked s) ∨ BpdCounted (nelWorked s) (bpdWorked s) := by
  cases bpd : s.prot.bpd with
  | closed =>
    have work : bpdWorked s = disconnectWork (nelWorked s) := if_neg (by simp [bpd])
    rw [work]
    exact (disconnectWork_cases _).imp (⟨rfl, ·⟩) .inr
  | opened =>
    have work : bpdWorked s = reconnectWork (nelWorked s) := if_pos bpd
    rw [work]
    exact .inr ((reconnectWork_cases _).imp_left (⟨rfl, ·⟩))

theorem bpdWorked_nelKept (s : State) : NelKept (nelWorked s) (bpdWorked s) := by
  rcases bpdWorked_cases s with ⟨-, opens⟩ | ⟨-, closes⟩ | counts
  · exact opens ▸ openBpd_nelKept _
  · exact closes ▸ closeBpd_nelKept _
  · exact counts.nelKept

/-- A BPD that stands where it stood has only been counted for. -/
theorem bpdWorked_still {s : State} (still : (bpdWorked s).prot.bpd = s.prot.bpd) :
    BpdCounted (nelWorked s) (bpdWorked s) := by
  rcases bpdWorked_cases s with ⟨closed, opens⟩ | ⟨opened, closes⟩ | counts
  · simp [opens, openBpd_bpd, closed] at still
  · simp [closes, closeBpd_bpd, opened] at still
  · exact counts

/-! ## The whole event (R82, R83) -/

theorem protectionEvent_nelKept (s : State) : NelKept (nelWorked s) (protectionEvent s) := by
  have drained (u : State) : NelKept u (dischargeWork u) :=
    report_onProt_nelKept _ alBatteryDischarge _ u rfl rfl id id (by decide)
  have reported (u : State) : NelKept u (reportBus u) :=
    ((NelKept.refl u).report _ (by decide)).report _ (by decide)
  exact ((bpdWorked_nelKept s).trans (drained _)).trans (reported _)

/-- Where the BPD does not move, the counts of the NEL are those its work has left. -/
theorem protectionEvent_nelCounts {s : State} (still : (protectionEvent s).prot.bpd = s.prot.bpd) :
    (protectionEvent s).prot.shedCount = (nelWorked s).prot.shedCount ∧
      (protectionEvent s).prot.nelCount = (nelWorked s).prot.nelCount := by
  rw [(protectionEvent_kept s).prot] at still ⊢
  obtain ⟨_, _, counted⟩ := bpdWorked_still still
  rw [counted]
  exact ⟨rfl, rfl⟩

theorem dischargeWork_prot (s : State) : (dischargeWork s).prot = { s.prot with dischargeCount := drainRun s } := by
  simp [dischargeWork, drainRun, State.onProt]

theorem dischargeWork_cond {s : State} (h : 5 < s.alarm.records.length) :
    ((dischargeWork s).record 5).cond = (drainRun s == 60) :=
  report_cond _ _ _ h

/-- The tests of the bus read the measurements and the settings alone. -/
theorem busTests_congr {s t : State} (meas : t.meas = s.meas) (store : t.store = s.store) (i : Nat) :
    busRises t i = busRises s i ∧ busFalls t i = busFalls s i := by
  simp [busRises, busFalls, State.plantVoltage, State.cells, State.inForce, meas, store]

/-- R82, and what the reports of the bus leave of BATTERY_DISCHARGE. -/
theorem reportBus_cond {s : State} (complete : s.alarm.records.length = 40) :
    ((reportBus s).record 1).cond = busRises s 10 ∧ ((reportBus s).record 2).cond = busFalls s 9 ∧
      (reportBus s).record 5 = s.record 5 := by
  unfold reportBus
  refine ⟨?_, ?_, ?_⟩
  · rw [report_record_ne _ _ _ _ (by decide), report_cond _ _ _ (by rw [complete]; decide)]
  · exact report_cond _ _ _ (by rw [report_length, complete]; decide)
  · rw [report_record_ne _ _ _ _ (by decide), report_record_ne _ _ _ _ (by decide)]

/-- Where the BPD does not move, the discharge is counted from the state in which the event is taken. -/
theorem drainRun_bpdWorked {s : State} (still : (bpdWorked s).prot.bpd = s.prot.bpd) :
    drainRun (bpdWorked s) = drainRun s := by
  obtain ⟨_, _, counted⟩ := bpdWorked_still still
  have test : dischargeTest (bpdWorked s) = dischargeTest s := by
    rw [counted, (nelWorked_untouched s).frame]
    rfl
  have count : (bpdWorked s).prot.dischargeCount = s.prot.dischargeCount := by
    rw [counted]
    exact nelWorked_dischargeCount s
  rw [drainRun, test, count]
  rfl

theorem bpdWorked_length (s : State) : (bpdWorked s).alarm.records.length = s.alarm.records.length :=
  (bpdWorked_nelKept s).length.trans (nelWorked_untouched s).length

/-- The event reports the bus by the voltages in which it is taken. -/
theorem protectionEvent_busConds {s : State} (complete : s.alarm.records.length = 40) :
    ((protectionEvent s).record 1).cond = busRises s 10 ∧ ((protectionEvent s).record 2).cond = busFalls s 9 := by
  have length : (dischargeWork (bpdWorked s)).alarm.records.length = 40 := by
    rw [dischargeWork, report_length]
    exact (bpdWorked_length s).trans complete
  have same := busTests_congr (s := s) (t := dischargeWork (bpdWorked s)) (by simp [bpdWorked, nelWorked])
    (by simp [bpdWorked, nelWorked])
  obtain ⟨high, low, -⟩ := reportBus_cond length
  rw [protectionEvent_eq, high, low, (same 10).1, (same 9).2]
  exact ⟨rfl, rfl⟩

theorem protectionEvent_discharge {s : State} (complete : s.alarm.records.length = 40)
    (still : (protectionEvent s).prot.bpd = s.prot.bpd) :
    (protectionEvent s).prot.dischargeCount = drainRun s ∧
      ((protectionEvent s).record 5).cond = (drainRun s == 60) := by
  have length : (bpdWorked s).alarm.records.length = 40 := (bpdWorked_length s).trans complete
  rw [(protectionEvent_kept s).prot] at still
  have drain := drainRun_bpdWorked still
  have worked := reportBus_cond (s := dischargeWork (bpdWorked s)) (by rw [dischargeWork, report_length]; exact length)
  obtain ⟨-, -, stands⟩ := worked
  refine ⟨?_, ?_⟩
  · simp [protectionEvent_eq, dischargeWork_prot, drain]
  · rw [protectionEvent_eq, stands, dischargeWork_cond (by omega), drain]

end Sys2Proof.Machine

open Sys2Proof Sys2Proof.Machine

/-- Settles O30: the three commands open and close the NEL and end the discharge count, and an event does each in the
same way. -/
theorem nelOpensAndClosesOnItsCounts : Obligations.NelOpensAndClosesOnItsCounts := by
  intro s on complete
  refine ⟨fun battery closed due_ => ?_, fun not_ => ?_, fun opened ac due_ => ?_, fun not_ => ?_,
    fun ac notTest due_ => ?_, fun not_ => ?_, ?_⟩
  · have led : exec .shedDelayExpiry s = .next (openNel (delayedShedCause s) s) :=
      onExpiry_due s _ _ on (by simp [shedDue, battery, closed, due, due_])
    refine ⟨_, led, ?_, openNel_reported _ complete, (openNel_untouched _ s).frame⟩
    rw [openNel_prot, delayedShedCause, if_congr (shedSocTest_iff s) rfl rfl]
  · refine onExpiry_early s _ _ ?_
    rcases not_ with h | h <;> simp [shedDue, h]
  · have led : exec .nelReconnect s = .next (closeNel s) :=
      onExpiry_due s _ _ on (by simp [nelReconnectDue, opened, ac, due, due_])
    exact ⟨_, led, closeNel_prot s, closeNel_reported complete, (closeNel_untouched s).frame⟩
  · refine onExpiry_early s _ _ ?_
    rcases not_ with h | h <;> simp [nelReconnectDue, h]
  · have led : exec .dischargeCountExpiry s = .next (dischargeFull s) :=
      onExpiry_due s _ _ on (by simp [dischargeDue, ac, notTest, due]; omega)
    refine ⟨_, led, by simp [dischargeFull, State.onProt], onProt_reported _ 5 true (by omega), ?_⟩
    apply State.ext_parts <;> simp [dischargeFull]
  · refine onExpiry_early s _ _ ?_
    rcases not_ with h | h <;> simp [dischargeDue, h]
  · have kept := protectionEvent_nelKept s
    have counts := protectionEvent_nelCounts (s := s)
    obtain ⟨high, low⟩ := protectionEvent_busConds complete
    have discharge := protectionEvent_discharge complete
    dsimp only
    rw [← shedRun_eq, ← nelRun_eq, ← drainRun_eq]
    refine ⟨fun closed battery sheds => ?_, fun closed battery stays => ?_, fun closed notBattery => ?_,
      fun opened ac due_ => ?_, fun opened ac early => ?_, fun opened noAc => ?_, ?_, ?_, fun still => ?_⟩
    · have sheds : shedsNow s := sheds.imp_right (shedSocTest_iff s).2
      have work := (nelWorked_closed closed).trans (shedWork_opens battery closed sheds)
      rw [work] at kept
      have prot := openNel_prot (eventShedCause s) s
      refine ⟨kept.nel.trans (by rw [prot]), ?_, kept.shedCount (by rw [prot]), kept.cause.trans ?_⟩
      · rw [kept.loadShed]; exact (openNel_reported _ complete).cond
      · rw [prot, eventShedCause, if_congr (and_congr_right' (shedSocTest_iff s)) rfl rfl]
    · have stays : ¬ shedsNow s := fun sheds => stays (sheds.imp_right (shedSocTest_iff s).1)
      have work := (nelWorked_closed closed).trans (shedWork_counting battery closed stays)
      rw [work] at kept counts
      exact ⟨kept.nel.trans closed, kept.cause, fun still => (counts still).1⟩
    · have work := (nelWorked_closed closed).trans (shedWork_off notBattery)
      rw [work] at kept
      exact ⟨kept.nel.trans closed, kept.cause, kept.shedCount rfl⟩
    · have work := (nelWorked_opened opened).trans (nelWork_due opened ac due_)
      rw [work] at kept
      have prot := closeNel_prot s
      refine ⟨kept.nel.trans (by rw [prot]), kept.cause.trans (by rw [prot]), ?_, kept.nelCount (by rw [prot])⟩
      rw [kept.loadShed]
      exact (closeNel_reported complete).cond
    · have work := (nelWorked_opened opened).trans (nelWork_counting opened ac early)
      rw [work] at kept counts
      exact ⟨kept.nel.trans opened, kept.cause, fun still => (counts still).2⟩
    · have work := (nelWorked_opened opened).trans (nelWork_off noAc)
      rw [work] at kept
      exact ⟨kept.nel.trans opened, kept.cause, kept.nelCount rfl⟩
    · rw [high]
      exact decide_eq_true_iff
    · rw [low]
      exact decide_eq_true_iff
    · obtain ⟨count, cond⟩ := discharge still
      exact ⟨count, by rw [cond, beq_iff_eq]⟩
end

section
/-! The statement about the outputs (R72, R127, R128, R176, R178). -/

namespace Sys2Proof.Machine

/-! ## The lamp (R178) -/

theorem isUnseen_iff (a : AlarmState) : a.isUnseen = true ↔ a = .activeNew ∨ a = .goneUnseen := by
  cases a <;> decide

theorem flashing_iff (a : Alarm) : a.flashing = true ↔ a.evaluated = true ∧
    (a.records.any fun r => r.state == .activeNew || r.state == .goneUnseen) = true := by
  simp [Alarm.flashing, isUnseen_iff]

theorem lampWay_unevaluated {s : State} (h : s.alarm.evaluated = false) : s.lampWay = .steady := by
  simp [State.lampWay, h]

theorem lampWay_flashing {s : State} (h : s.alarm.flashing = true) : s.lampWay = .flashing := by
  simp [State.lampWay, h, ((flashing_iff s.alarm).1 h).1]

theorem lampWay_quiet {s : State} (evaluated : s.alarm.evaluated = true) (h : s.alarm.flashing = false) :
    s.lampWay = if (s.alarm.records.any fun r => r.state == .activeSeen) = true then .steady else .dark := by
  simp [State.lampWay, evaluated, h]

/-- While the lamp flashes it is lit by the half it stands in. -/
theorem lampLit_flashing {s : State} (on : s.powered = true) (way : s.lampWay = .flashing) :
    s.lampLit = s.alarm.lampLit := by
  simp [State.lampLit, on, way]

theorem lampLit_steadily {s : State} (on : s.powered = true) (way : s.lampWay ≠ .flashing) :
    s.lampLit = true ↔ s.lampWay = .steady := by
  cases h : s.lampWay with
  | flashing => exact absurd h way
  | steady => simp [State.lampLit, on, h]
  | dark => simp [State.lampLit, on, h]

/-- What a lamp that does not flash shows; before the first evaluation it is such a lamp. -/
theorem lampWay_still {s : State} (h : s.alarm.flashing = false) :
    s.lampWay ≠ .flashing ∧ (s.lampWay = .steady ↔
      s.alarm.evaluated = false ∨ (s.alarm.records.any fun r => r.state == .activeSeen) = true) := by
  cases evaluated : s.alarm.evaluated with
  | false => simp [lampWay_unevaluated evaluated]
  | true =>
    rw [lampWay_quiet evaluated h]
    split
    · next seen => simp [seen]
    · next unseen => simp [unseen]

/-! ## The relays and the generator's outputs (R127, R176) -/

theorem relayEnergised_iff {s : State} (on : s.powered = true) (k : Nat) :
    s.relayEnergised k = true ↔ s.alarm.evaluated = true ∧
      ∀ c, c < 40 → (s.now 6 c).testBit k = true → (s.record c).state = .idle := by
  have released (c : Nat) : (!s.mapped k c || (s.record c).state == .idle) = true ↔
      ((s.now 6 c).testBit k = true → (s.record c).state = .idle) := by
    cases mapped : (s.now 6 c).testBit k <;> simp [State.mapped, mapped]
  simp only [State.relayEnergised, on, Bool.true_and, Bool.and_eq_true, List.all_eq_true, List.mem_range, released]

theorem runs_iff (m : GenState) : m.runs = true ↔ m ≠ .idle ∧ m ≠ .stopping ∧ m ≠ .failed := by
  cases m <;> decide

end Sys2Proof.Machine

open Sys2Proof Sys2Proof.Machine

/-- Settles O48: without supply every drive is off; with it each output is read off its table. -/
theorem relaysAndLampShowTheTable : Obligations.RelaysAndLampShowTheTable := by
  intro k s
  refine ⟨fun off => ?_, fun on => ?_, fun on _ => ⟨relayEnergised_iff on k, fun evaluated unseen => ?_, fun h => ?_⟩⟩
  · simp [State.primeDriven, State.crankDriven, State.runDriven, State.changeoverGenerator, State.nelDriven,
      State.bpdDriven, State.relayEnergised, State.lampLit, off]
  · simp [State.primeDriven, State.crankDriven, State.runDriven, State.changeoverGenerator, State.nelDriven,
      State.bpdDriven, State.online, runs_iff, on]
  · have way := lampWay_flashing ((flashing_iff s.alarm).2 ⟨evaluated, unseen⟩)
    exact ⟨(whenPowered_on s lampHalf on).trans (congrArg Host.Outcome.next (if_pos way)), lampLit_flashing on way⟩
  · have quiet : s.alarm.flashing = false := Bool.eq_false_iff.2 fun flashes => by
      obtain ⟨evaluated, unseen⟩ := (flashing_iff s.alarm).1 flashes
      rcases h with h | h
      · simp [evaluated] at h
      · exact h unseen
    obtain ⟨way, steady⟩ := lampWay_still quiet
    exact ⟨(whenPowered_on s lampHalf on).trans (congrArg Host.Outcome.next (if_neg way)),
      (lampLit_steadily on way).trans steady⟩
end

section
/-! SUPPORT. The rules of the roster's operations (R87, R88, R105, R108, R109): what a change of a slot's state, a place
in the queue and the end of a swap make of the slots and the lists, and what they leave. -/

namespace Sys2Proof.Machine

/-! ## Slots and their hours -/

theorem modify_getD_self {i : Nat} (f : Slot → Slot) {l : List Slot} (h : i < l.length) :
    (l.modify i f).getD i blankSlot = f (l.getD i blankSlot) := by
  simp [List.getD_eq_getElem?_getD, h]

theorem modify_getD_hours (i j : Nat) (f : Slot → Slot) (l : List Slot) (keeps : ∀ x, (f x).hours = x.hours) :
    ((l.modify i f).getD j blankSlot).hours = (l.getD j blankSlot).hours := by
  simp only [List.getD_eq_getElem?_getD, List.getElem?_modify]
  cases l[j]? with
  | none => rfl
  | some x => by_cases h : i = j <;> simp [h, keeps]

/-- R87: slot `i` in state `new` (log 13 for the status of one that becomes ABSENT). -/
def Slot.took (new : SlotState) (now : Nat) (x : Slot) : Slot :=
  { x with
    state := new, lastChange := now, startCount := 0, recovery := 0
    data := if new = .absent then none else x.data }

theorem changeSlot_slots {i : Nat} {new : SlotState} {s : State} (ne : (s.slot i).state ≠ new) :
    (changeSlot i new s).rect.slots = s.rect.slots.modify i (Slot.took new s.stamp) := by
  rw [changeSlot_rect i new s ne]
  rfl

theorem changeSlot_slot {i : Nat} {new : SlotState} {s : State} (h : i < s.rect.slots.length)
    (ne : (s.slot i).state ≠ new) : (changeSlot i new s).slot i = (s.slot i).took new s.stamp := by
  rw [State.slot, changeSlot_slots ne, modify_getD_self _ h]
  rfl

theorem changeSlot_state {i : Nat} (new : SlotState) {s : State} (h : i < s.rect.slots.length) :
    ((changeSlot i new s).slot i).state = new := by
  by_cases same : (s.slot i).state = new
  · rw [changeSlot_same i new s same, same]
  · rw [changeSlot_slot h same]
    rfl

@[simp] theorem changeSlot_length (i : Nat) (new : SlotState) (s : State) :
    (changeSlot i new s).rect.slots.length = s.rect.slots.length := by
  by_cases same : (s.slot i).state = new
  · rw [changeSlot_same i new s same]
  · rw [changeSlot_slots same, List.length_modify]

@[simp] theorem changeSlot_hours (i j : Nat) (new : SlotState) (s : State) :
    (changeSlot i new s).hours j = s.hours j := by
  by_cases same : (s.slot i).state = new
  · rw [changeSlot_same i new s same]
  · rw [State.hours, State.slot, changeSlot_slots same, modify_getD_hours i j (Slot.took new s.stamp) _ fun _ => rfl]
    rfl

@[simp] theorem onSlot_length (i : Nat) (f : Slot → Slot) (s : State) :
    (onSlot i f s).rect.slots.length = s.rect.slots.length := by
  simp [onSlot]

theorem onSlot_hours {f : Slot → Slot} (keeps : ∀ x, (f x).hours = x.hours) (i j : Nat) (s : State) :
    (onSlot i f s).hours j = s.hours j := modify_getD_hours i j f _ keeps

/-- What a slot's record says whatever is written elsewhere of it. -/
theorem onSlot_field {α : Type} (g : Slot → α) {f : Slot → Slot} (keeps : ∀ x, g (f x) = g x) (i j : Nat) (s : State) :
    g ((onSlot i f s).slot j) = g (s.slot j) := by
  by_cases same : j = i
  · subst same
    by_cases inside : j < s.rect.slots.length
    · rw [onSlot_slot _ _ _ inside, keeps]
    · have short := List.getElem?_eq_none (Nat.le_of_not_lt inside)
      simp [onSlot, State.slot, List.getD_eq_getElem?_getD, short]
  · rw [onSlot_slot_ne _ _ _ _ same]

/-! ## The standby queue (R88) -/

theorem queueBefore_iff (s : State) (i j : Nat) :
    queueBefore s i j = true ↔ s.hours i < s.hours j ∨ s.hours i = s.hours j ∧ i < j := by
  simp [queueBefore]

theorem queueBefore_trans {s : State} {i j k : Nat} (h : queueBefore s i j = true) (h' : queueBefore s j k = true) :
    queueBefore s i k = true := by
  rw [queueBefore_iff] at *
  omega

theorem queueBefore_total {s : State} {i j : Nat} (ne : i ≠ j) (h : ¬ queueBefore s i j = true) :
    queueBefore s j i = true := by
  rw [queueBefore_iff] at *
  omega

theorem queueBefore_congr {s t : State} {i j : Nat} (hi : t.hours i = s.hours i) (hj : t.hours j = s.hours j) :
    queueBefore t i j = queueBefore s i j := by
  simp [queueBefore, hi, hj]

/-- A slot that joins an ordered queue takes its place in the order. -/
theorem queueInsert_pairwise {s : State} {i : Nat} {l : List Nat} (h : l.Pairwise fun i j => queueBefore s i j = true)
    (new : i ∉ l) : (queueInsert s i l).Pairwise fun i j => queueBefore s i j = true := by
  induction l with
  | nil => simp [queueInsert]
  | cons j l ih =>
    obtain ⟨first, rest⟩ := List.pairwise_cons.1 h
    obtain ⟨ne, notMem⟩ := not_or.1 (mt List.mem_cons.2 new)
    by_cases before : queueBefore s i j = true
    · rw [queueInsert, if_pos before]
      refine List.pairwise_cons.2 ⟨fun k hk => ?_, h⟩
      rcases List.mem_cons.1 hk with rfl | hk
      · exact before
      · exact queueBefore_trans before (first k hk)
    · rw [queueInsert, if_neg before]
      refine List.pairwise_cons.2 ⟨fun k hk => ?_, ih rest notMem⟩
      rcases (mem_queueInsert s i k l).1 hk with rfl | hk
      · exact queueBefore_total ne before
      · exact first k hk

/-! ## Places in the lists (R87, R88) -/

theorem commanded_iff (x : SlotState) : x.commanded = true ↔ x = .starting ∨ x = .running := by
  cases x <;> decide

theorem mem_placeRunning {i : Nat} {new : SlotState} {l : List Nat} (once : l.Nodup) (j : Nat) :
    j ∈ placeRunning i new l ↔ j = i ∧ new.commanded = true ∨ j ≠ i ∧ j ∈ l := by
  cases commanded : new.commanded with
  | false => simp [placeRunning, commanded, once.mem_erase_iff]
  | true =>
    by_cases held : i ∈ l
    · simp only [placeRunning, commanded, List.contains_iff_mem, held, if_true, and_true]
      by_cases same : j = i <;> simp [same, held]
    · simp only [placeRunning, commanded, List.contains_iff_mem, held, if_true, if_false, and_true, List.mem_append,
        List.mem_singleton]
      by_cases same : j = i <;> simp [same]

theorem placeRunning_nodup {i : Nat} {new : SlotState} {l : List Nat} (once : l.Nodup) :
    (placeRunning i new l).Nodup := by
  unfold placeRunning
  split
  · split
    · exact once
    · next notIn =>
      rw [← List.concat_eq_append]
      exact once.concat (by simpa using notIn)
  · exact once.erase i

theorem mem_placeQueue {s : State} {i : Nat} {new : SlotState} {l : List Nat} (once : l.Nodup) (j : Nat) :
    j ∈ placeQueue s i new l ↔ j = i ∧ new = .standby ∨ j ≠ i ∧ j ∈ l := by
  by_cases standby : new = .standby
  · rw [placeQueue, if_pos standby, mem_queueInsert, once.mem_erase_iff]
    by_cases same : j = i <;> simp [same, standby]
  · rw [placeQueue, if_neg standby, once.mem_erase_iff]
    simp [standby]

theorem placeQueue_nodup {s : State} {i : Nat} {new : SlotState} {l : List Nat} (once : l.Nodup) :
    (placeQueue s i new l).Nodup := by
  unfold placeQueue
  split
  · exact nodup_queueInsert _ _ _ (once.erase i) once.not_mem_erase
  · exact once.erase i

theorem placeQueue_pairwise {s : State} {i : Nat} {new : SlotState} {l : List Nat} (once : l.Nodup)
    (h : l.Pairwise fun i j => queueBefore s i j = true) :
    (placeQueue s i new l).Pairwise fun i j => queueBefore s i j = true := by
  have left := h.sublist (List.erase_sublist (a := i))
  unfold placeQueue
  split
  · exact queueInsert_pairwise left once.not_mem_erase
  · exact left

/-! ## The end of a swap (R108, R109) -/

/-- What the scheduler holds once a swap has ended (R108). -/
def Rect.swapEnded (w : Swap) (outcome : SwapOutcome) (now : Nat) (r : Rect) : Rect :=
  { r with
    rotationRequest := false, requestFreed := false, swap := none
    lastSwap := some { incoming := w.incoming, outgoing := w.outgoing, outcome := outcome, endTime := now }
    rotation := if outcome = .abandoned then r.rotation else 0 }

theorem endSwap_rect {s : State} {w : Swap} (outcome : SwapOutcome) (swap : s.rect.swap = some w) :
    (endSwap outcome s).rect = s.rect.swapEnded w outcome s.stamp := by
  simp [endSwap, swap, Rect.swapEnded, Rect.dropRequest]

@[simp] theorem endSwap_queue (outcome : SwapOutcome) (s : State) : (endSwap outcome s).rect.queue = s.rect.queue := by
  cases swap : s.rect.swap with
  | none => rw [endSwap_none _ _ swap]
  | some w => rw [endSwap_rect _ swap]; rfl

/-- All that a slot's leaving of the swap can do (R109). -/
theorem leaveSwap_cases (i : Nat) (s : State) :
    (leaveSwap i s = s ∧ ∀ w, s.rect.swap = some w → w.incoming ≠ i ∧ w.outgoing ≠ i) ∨
      ∃ w, s.rect.swap = some w ∧ (w.incoming = i ∨ w.outgoing = i) ∧
        leaveSwap i s = endSwap (if w.incoming = i then .abandoned else .noStop) s := by
  cases swap : s.rect.swap with
  | none => exact .inl ⟨leaveSwap_none i s swap, by simp⟩
  | some w =>
    by_cases incoming : w.incoming = i
    · exact .inr ⟨w, rfl, .inl incoming, by simp [leaveSwap, swap, incoming]⟩
    · by_cases outgoing : w.outgoing = i
      · exact .inr ⟨w, rfl, .inr outgoing, by simp [leaveSwap, swap, incoming, outgoing]⟩
      · refine .inl ⟨leaveSwap_other i w s swap incoming outgoing, fun x hx => ?_⟩
        obtain rfl := Option.some.inj hx
        exact ⟨incoming, outgoing⟩

@[simp] theorem leaveSwap_lists (i : Nat) (s : State) :
    (leaveSwap i s).rect.slots = s.rect.slots ∧ (leaveSwap i s).rect.running = s.rect.running ∧
      (leaveSwap i s).rect.queue = s.rect.queue := by
  rcases leaveSwap_cases i s with ⟨h, -⟩ | ⟨w, -, -, h⟩ <;> rw [h] <;> simp

theorem leaveSwap_swap (i : Nat) (s : State) :
    (leaveSwap i s).rect.swap = s.rect.swap.filter fun w => w.incoming != i && w.outgoing != i := by
  rcases leaveSwap_cases i s with ⟨h, apart⟩ | ⟨w, swap, member, h⟩
  · rw [h]
    cases swap : s.rect.swap with
    | none => rfl
    | some w =>
      obtain ⟨incoming, outgoing⟩ := apart w swap
      simp [Option.filter, incoming, outgoing]
  · rw [h, endSwap_gone, swap]
    rcases member with rfl | rfl <;> simp [Option.filter]

end Sys2Proof.Machine
end

section
/-! SUPPORT. Steps that keep the roster placed, the queue in order and the swap placed (R87, R88, R105, R107 to R109): the
scheduler's own operations. -/

namespace Sys2Proof.Machine

/-! ## What keeps the roster -/

/-- From `s` to `t` a placed roster stays placed, and its queue in order. -/
structure ListStep (s t : State) : Prop where
  placed : s.RosterPlaced → t.RosterPlaced
  ordered : s.RosterPlaced → s.QueueOrdered → t.QueueOrdered

/-- From `s` to `t` a placed roster stays placed, its queue in order and its swap placed. -/
structure RosterStep (s t : State) : Prop extends ListStep s t where
  swapped : s.RosterPlaced → s.SwapPlaced → t.SwapPlaced

theorem ListStep.refl (s : State) : ListStep s s := ⟨id, fun _ => id⟩

theorem ListStep.trans {s t u : State} (h : ListStep s t) (k : ListStep t u) : ListStep s u :=
  ⟨k.placed ∘ h.placed, fun placed ordered => k.ordered (h.placed placed) (h.ordered placed ordered)⟩

theorem RosterStep.refl (s : State) : RosterStep s s := ⟨.refl s, fun _ => id⟩

theorem RosterStep.trans {s t u : State} (h : RosterStep s t) (k : RosterStep t u) : RosterStep s u :=
  ⟨h.toListStep.trans k.toListStep, fun placed swap => k.swapped (h.placed placed) (h.swapped placed swap)⟩

theorem RosterStep.ite {s t u : State} (p : Prop) [Decidable p] (ht : p → RosterStep s t) (hu : ¬ p → RosterStep s u) :
    RosterStep s (if p then t else u) := by
  split
  · exact ht ‹_›
  · exact hu ‹_›

theorem RosterStep.foldl {α : Type} (f : State → α → State) (l : List α) (s : State)
    (h : ∀ s a, RosterStep s (f s a)) : RosterStep s (l.foldl f s) := by
  induction l generalizing s with
  | nil => exact .refl s
  | cons a l ih => exact (h s a).trans (ih (f s a))

theorem ListStep.foldl {α : Type} (f : State → α → State) (l : List α) (s : State)
    (h : ∀ a ∈ l, ∀ s, ListStep s (f s a)) : ListStep s (l.foldl f s) := by
  induction l generalizing s with
  | nil => exact .refl s
  | cons a l ih =>
    exact (h a List.mem_cons_self s).trans (ih (f s a) fun b hb => h b (List.mem_cons_of_mem a hb))

/-- Of a roster that is not placed nothing is to be kept. -/
theorem RosterStep.of_placed {s t : State} (h : s.RosterPlaced → RosterStep s t) : RosterStep s t :=
  ⟨⟨fun p => (h p).placed p, fun p => (h p).ordered p⟩, fun p => (h p).swapped p⟩

theorem ListStep.of_placed {s t : State} (h : s.RosterPlaced → ListStep s t) : ListStep s t :=
  ⟨fun p => (h p).placed p, fun p => (h p).ordered p⟩

/-- With no swap there is none to be placed. -/
theorem ListStep.swapless {s t : State} (h : ListStep s t) (gone : t.rect.swap = none) : RosterStep s t :=
  ⟨h, fun _ _ w swap => by simp [gone] at swap⟩

theorem slot_congr {s t : State} (slots : t.rect.slots = s.rect.slots) : t.slot = s.slot := by
  funext i
  simp [State.slot, slots]

/-- A roster with the same states, running list and members of the queue is placed where the one before was. -/
theorem State.RosterPlaced.of_states {s t : State} (placed : s.RosterPlaced)
    (length : t.rect.slots.length = s.rect.slots.length) (state : ∀ i, (t.slot i).state = (s.slot i).state)
    (running : t.rect.running = s.rect.running) (once : t.rect.queue.Nodup)
    (queue : ∀ i, i ∈ t.rect.queue ↔ i ∈ s.rect.queue) (links : t.bus.links.length = s.bus.links.length)
    (swap : ∀ w, t.rect.swap = some w → w.incoming < 12 ∧ w.outgoing < 12) : t.RosterPlaced := by
  obtain ⟨slots, linked, runsOnce, -, runs, waits, -⟩ := placed
  refine ⟨length.trans slots, links.trans linked, running ▸ runsOnce, once, fun i => ?_, fun i => ?_, swap⟩
  · rw [running, runs, state]
  · rw [queue, waits, state]

/-- What leaves the two lists, every slot's state and hours and the number of links keeps the roster, with a swap of two
slots that are its own. -/
theorem ListStep.of_states {s t : State} (length : t.rect.slots.length = s.rect.slots.length)
    (state : ∀ i, (t.slot i).state = (s.slot i).state) (hours : ∀ i, t.hours i = s.hours i)
    (running : t.rect.running = s.rect.running) (queue : t.rect.queue = s.rect.queue)
    (links : t.bus.links.length = s.bus.links.length)
    (swap : s.RosterPlaced → ∀ w, t.rect.swap = some w → w.incoming < 12 ∧ w.outgoing < 12) : ListStep s t where
  placed placed := by
    obtain ⟨-, -, -, waitsOnce, -, -, -⟩ := id placed
    exact placed.of_states length state running (queue ▸ waitsOnce) (fun i => by rw [queue]) links (swap placed)
  ordered _ ordered := by
    rw [State.QueueOrdered, queue]
    exact ordered.imp fun before => (queueBefore_congr (hours _) (hours _)).trans before

/-- What leaves the roster keeps it. -/
theorem RosterStep.of_states {s t : State} (length : t.rect.slots.length = s.rect.slots.length)
    (state : ∀ i, (t.slot i).state = (s.slot i).state) (hours : ∀ i, t.hours i = s.hours i)
    (running : t.rect.running = s.rect.running) (queue : t.rect.queue = s.rect.queue)
    (links : t.bus.links.length = s.bus.links.length) (swap : t.rect.swap = s.rect.swap) : RosterStep s t where
  toListStep := .of_states length state hours running queue links fun placed => by
    obtain ⟨-, -, -, -, -, -, members⟩ := placed
    rwa [swap]
  swapped _ placed w held := by
    rw [running, state]
    exact placed w (swap ▸ held)

/-- What writes of the scheduler its counts at most keeps the roster. -/
theorem RosterStep.of_eq {s t : State}
    (h : t.rect.slots = s.rect.slots ∧ t.rect.running = s.rect.running ∧ t.rect.queue = s.rect.queue ∧
      t.rect.swap = s.rect.swap ∧ t.bus.links.length = s.bus.links.length) : RosterStep s t := by
  obtain ⟨slots, running, queue, swap, links⟩ := h
  exact .of_states (by rw [slots]) (fun i => by rw [slot_congr slots])
    (fun i => by rw [State.hours, State.hours, slot_congr slots]) running queue links swap

theorem ModulesKept.rosterStep {s t : State} (h : ModulesKept s t) (links : t.bus.links.length = s.bus.links.length) :
    RosterStep s t := .of_eq (by rw [h.rect]; simp [links])

/-! ## Slots (R87) -/

theorem State.RosterPlaced.size {s : State} (h : s.RosterPlaced) : s.rect.slots.length = 12 := h.1

/-- The running list of a placed roster, read off the states. -/
theorem State.RosterPlaced.mem_running {s : State} (h : s.RosterPlaced) {i : Nat} :
    i ∈ s.rect.running ↔ i < 12 ∧ (s.slot i).state.commanded = true := by
  obtain ⟨-, -, -, -, runs, -, -⟩ := h
  rw [runs, commanded_iff]

/-- The standby queue of a placed roster, read off the states. -/
theorem State.RosterPlaced.mem_queue {s : State} (h : s.RosterPlaced) {i : Nat} :
    i ∈ s.rect.queue ↔ i < 12 ∧ (s.slot i).state = .standby := by
  obtain ⟨-, -, -, -, -, waits, -⟩ := h
  exact waits i

/-- Outside the twelve records no slot is anything but ABSENT. -/
theorem State.RosterPlaced.lt_of_state {s : State} (h : s.RosterPlaced) {i : Nat} (present : (s.slot i).state ≠ .absent) :
    i < 12 := by
  by_contra outside
  have short := List.getElem?_eq_none (l := s.rect.slots) (i := i) (by rw [h.size]; omega)
  simp [State.slot, List.getD_eq_getElem?_getD, short, blankSlot] at present

theorem changeSlot_listStep {i : Nat} (hi : i < 12) (new : SlotState) (s : State) : ListStep s (changeSlot i new s) := by
  by_cases same : (s.slot i).state = new
  · rw [changeSlot_same i new s same]
    exact .refl s
  have rect := changeSlot_rect i new s same
  have state (placed : s.RosterPlaced) (j : Nat) :
      ((changeSlot i new s).slot j).state = if j = i then new else (s.slot j).state := by
    split
    · next eq => rw [eq, changeSlot_state new (by rw [placed.size]; exact hi)]
    · next ne => rw [changeSlot_slot_ne new s ne]
  constructor
  · intro placed
    obtain ⟨slots, links, runsOnce, waitsOnce, -, -, members⟩ := id placed
    refine ⟨by simpa using slots, by simpa using links, ?_, ?_, fun j => ?_, fun j => ?_, ?_⟩
    · rw [rect]
      exact placeRunning_nodup runsOnce
    · rw [rect]
      exact placeQueue_nodup waitsOnce
    · rw [rect, mem_placeRunning runsOnce, placed.mem_running, state placed, ← commanded_iff]
      by_cases eq : j = i <;> simp [eq, hi]
    · rw [rect, mem_placeQueue waitsOnce, placed.mem_queue, state placed]
      by_cases eq : j = i <;> simp [eq, hi]
    · rwa [changeSlot_swap]
  · intro placed ordered
    obtain ⟨-, -, -, waitsOnce, -, -, -⟩ := placed
    rw [State.QueueOrdered, rect]
    exact (placeQueue_pairwise waitsOnce ordered).imp fun before =>
      (queueBefore_congr (changeSlot_hours _ _ _ _) (changeSlot_hours _ _ _ _)).trans before

/-! ## Swaps (R107 to R109) -/

/-- The swap is placed, unless slot `i` takes part in it. -/
def SwapPlacedApart (i : Nat) (s : State) : Prop :=
  ∀ w, s.rect.swap = some w → w.incoming ≠ i → w.outgoing ≠ i →
    w.incoming ∈ s.rect.running ∧ w.outgoing ∈ s.rect.running ∧ w.incoming ≠ w.outgoing ∧
      (w.phase = .overlap ↔ (s.slot w.incoming).state = .running)

theorem changeSlot_apart {i : Nat} (new : SlotState) {s : State} (placed : s.RosterPlaced) (swap : s.SwapPlaced) :
    SwapPlacedApart i (changeSlot i new s) := by
  intro w held incoming outgoing
  rw [changeSlot_swap] at held
  obtain ⟨mem, mem', ne, phase⟩ := swap w held
  obtain ⟨-, -, runsOnce, -, -, -, -⟩ := placed
  by_cases same : (s.slot i).state = new
  · rw [changeSlot_same i new s same]
    exact ⟨mem, mem', ne, phase⟩
  · rw [changeSlot_slot_ne new s incoming, changeSlot_rect i new s same]
    exact ⟨(mem_placeRunning runsOnce _).2 (.inr ⟨incoming, mem⟩), (mem_placeRunning runsOnce _).2 (.inr ⟨outgoing, mem'⟩),
      ne, phase⟩

/-- A slot that the running list does not hold takes no part in the swap. -/
theorem changeSlot_rosterStep {i : Nat} (hi : i < 12) (new : SlotState) {s : State}
    (idle : (s.slot i).state.commanded = false) : RosterStep s (changeSlot i new s) where
  toListStep := changeSlot_listStep hi new s
  swapped placed swap w held := by
    have before : s.rect.swap = some w := by rwa [changeSlot_swap] at held
    obtain ⟨mem, mem', -, -⟩ := swap w before
    have notIn : i ∉ s.rect.running := fun mem => by simp [idle, placed.mem_running] at mem
    exact changeSlot_apart new placed swap w held (fun eq => notIn (eq ▸ mem)) fun eq => notIn (eq ▸ mem')

/-- What leaves the slots and the lists, and the swap or ends it. -/
theorem ListStep.of_swap {s t : State} (slots : t.rect.slots = s.rect.slots) (running : t.rect.running = s.rect.running)
    (queue : t.rect.queue = s.rect.queue) (links : t.bus.links.length = s.bus.links.length)
    (swap : ∀ w, t.rect.swap = some w → s.rect.swap = some w) : ListStep s t :=
  .of_states (by rw [slots]) (fun i => by rw [slot_congr slots])
    (fun i => by rw [State.hours, State.hours, slot_congr slots]) running queue links
    fun ⟨_, _, _, _, _, _, members⟩ w held => members w (swap w held)

theorem endSwap_rosterStep (outcome : SwapOutcome) (s : State) : RosterStep s (endSwap outcome s) :=
  (ListStep.of_swap (by simp) (by simp) (by simp) (by simp) (by simp [endSwap_gone])).swapless (endSwap_gone outcome s)

theorem leaveSwap_listStep (i : Nat) (s : State) : ListStep s (leaveSwap i s) :=
  .of_swap (by simp) (by simp) (by simp) (by simp) fun w held => by
    rw [leaveSwap_swap] at held
    exact (Option.filter_eq_some_iff.1 held).1

theorem SwapPlacedApart.leave {i : Nat} {s : State} (h : SwapPlacedApart i s) : (leaveSwap i s).SwapPlaced := by
  intro w held
  rw [leaveSwap_swap] at held
  obtain ⟨held, apart⟩ := Option.filter_eq_some_iff.1 held
  obtain ⟨incoming, outgoing⟩ : w.incoming ≠ i ∧ w.outgoing ≠ i := by simpa using apart
  simpa [slot_congr (leaveSwap_lists i s).1] using h w held incoming outgoing

/-- A write of a slot's record that is neither of its state nor of its hours. -/
def KeepsPlace (f : Slot → Slot) : Prop := ∀ x, (f x).state = x.state ∧ (f x).hours = x.hours

theorem onSlot_rosterStep {f : Slot → Slot} (i : Nat) (s : State)
    (keeps : KeepsPlace f := by exact fun _ => ⟨rfl, rfl⟩) : RosterStep s (onSlot i f s) :=
  .of_states (onSlot_length i f s) (fun j => onSlot_field Slot.state (fun x => (keeps x).1) i j s)
    (fun j => onSlot_hours (fun x => (keeps x).2) i j s) rfl rfl rfl rfl

theorem leaveSwap_changed {i : Nat} (hi : i < 12) (new : SlotState) (s : State) :
    RosterStep s (leaveSwap i (changeSlot i new s)) where
  toListStep := (changeSlot_listStep hi new s).trans (leaveSwap_listStep i _)
  swapped placed swap := (changeSlot_apart new placed swap).leave

/-- R98: one fault more. -/
def Slot.faulted (x : Slot) : Slot := { x with faults := min 255 (x.faults + 1) }

theorem enterFault_eq (i : Nat) (s : State) :
    enterFault i s = leaveSwap i (onSlot i Slot.faulted (changeSlot i .fault s)) := rfl

/-- R98: a slot enters FAULT and leaves the swap it is in. -/
theorem enterFault_rosterStep {i : Nat} (hi : i < 12) (s : State) : RosterStep s (enterFault i s) where
  toListStep := ((changeSlot_listStep hi .fault s).trans (onSlot_rosterStep i _).toListStep).trans
    (leaveSwap_listStep i _)
  swapped placed swap := by
    rw [enterFault_eq]
    refine SwapPlacedApart.leave fun w held incoming outgoing => ?_
    rw [onSlot_field Slot.state (f := Slot.faulted) fun _ => rfl]
    exact changeSlot_apart .fault placed swap w held incoming outgoing

/-! ## Module status and presence (R97 to R101) -/

/-- R108: the phase of a swap follows its incoming slot. -/
def Swap.follow (i : Nat) (phase : SwapPhase) (w : Swap) : Swap :=
  if w.incoming = i then { w with phase := phase, overlap := 0 } else w

theorem follow_slots (i : Nat) (phase : SwapPhase) (w : Swap) :
    (w.follow i phase).incoming = w.incoming ∧ (w.follow i phase).outgoing = w.outgoing := by
  unfold Swap.follow
  split <;> simp

/-- A slot of the running list goes over from STARTING to RUNNING or back, and the phase of its swap with it. -/
theorem followed_rosterStep {i : Nat} (hi : i < 12) {new : SlotState} (phase : SwapPhase) {s : State}
    (ne : (s.slot i).state ≠ new) (commanded : new.commanded = true) (follows : phase = .overlap ↔ new = .running) :
    RosterStep s ((changeSlot i new s).onRect fun r => { r with swap := r.swap.map (Swap.follow i phase) }) where
  toListStep := by
    refine (changeSlot_listStep hi new s).trans ?_
    refine .of_states rfl (fun _ => rfl) (fun _ => rfl) rfl rfl rfl fun placed w held => ?_
    obtain ⟨-, -, -, -, -, -, members⟩ := placed
    obtain ⟨x, before, rfl⟩ := Option.map_eq_some_iff.1 held
    obtain ⟨incoming, outgoing⟩ := follow_slots i phase x
    rw [incoming, outgoing]
    exact members x before
  swapped placed swap w held := by
    obtain ⟨x, before, rfl⟩ := Option.map_eq_some_iff.1 held
    obtain ⟨incoming, outgoing⟩ := follow_slots i phase x
    rw [changeSlot_swap] at before
    obtain ⟨mem, mem', apart, phases⟩ := swap x before
    have size := placed.size
    obtain ⟨-, -, runsOnce, -, -, -, -⟩ := placed
    have stays (j : Nat) (mem : j ∈ s.rect.running) : j ∈ (changeSlot i new s).rect.running := by
      rw [changeSlot_rect i new s ne]
      refine (mem_placeRunning runsOnce j).2 ?_
      by_cases same : j = i
      · exact .inl ⟨same, commanded⟩
      · exact .inr ⟨same, mem⟩
    rw [incoming, outgoing]
    refine ⟨stays _ mem, stays _ mem', apart, ?_⟩
    change _ ↔ ((changeSlot i new s).slot x.incoming).state = .running
    by_cases same : x.incoming = i
    · rw [same, changeSlot_state new (by omega), Swap.follow, if_pos same]
      exact follows
    · rw [changeSlot_slot_ne new s same, Swap.follow, if_neg same]
      exact phases

theorem swapIncomingRuns_rosterStep {i : Nat} (hi : i < 12) {s : State} (ne : (s.slot i).state ≠ .running) :
    RosterStep s (swapIncomingRuns i (changeSlot i .running s)) :=
  followed_rosterStep hi .overlap ne rfl (by simp)

theorem swapIncomingFalls_rosterStep {i : Nat} (hi : i < 12) {s : State} (ne : (s.slot i).state ≠ .starting) :
    RosterStep s (swapIncomingFalls i (changeSlot i .starting s)) :=
  followed_rosterStep hi .starting ne rfl (by simp)

theorem takeStatus_rosterStep {i : Nat} (hi : i < 12) (d : ModuleData) (s : State) : RosterStep s (takeStatus i d s) := by
  have stored : RosterStep s (onSlot i (fun x => { x with data := some d }) s) :=
    onSlot_rosterStep i s
  have state : ((onSlot i (fun x => { x with data := some d }) s).slot i).state = (s.slot i).state :=
    onSlot_field Slot.state (f := fun x => { x with data := some d }) (fun _ => rfl) i i s
  unfold takeStatus
  refine .ite _ (fun _ => .refl s) fun _ => stored.trans ?_
  refine .ite _ (fun _ => ?_) fun _ => ?_
  · cases (s.slot i).state
    case standby | starting | running => exact enterFault_rosterStep hi _
    case fault => exact onSlot_rosterStep i _
    case lockout | absent => exact .refl _
  · cases old : (s.slot i).state
    case starting =>
      exact .ite _ (fun _ => swapIncomingRuns_rosterStep hi (by simp [state, old])) fun _ => .refl _
    case running =>
      exact .ite _ (fun _ => .refl _) fun _ => swapIncomingFalls_rosterStep hi (by simp [state, old])
    all_goals exact .refl _

theorem reportLost_rosterStep (s : State) : RosterStep s (reportLost s) := .of_eq (by simp)

theorem takeLost_rosterStep {i : Nat} (hi : i < 12) (s : State) : RosterStep s (takeLost i s) := by
  refine RosterStep.trans ?_ (reportLost_rosterStep _)
  refine RosterStep.trans (t := onSlot i (fun x => { x with answering := .no }) s)
    (onSlot_rosterStep i s) ?_
  split
  case h_5 | h_6 => exact .refl _
  all_goals exact leaveSwap_changed hi .absent _

theorem takeFound_rosterStep {i : Nat} (hi : i < 12) (s : State) : RosterStep s (takeFound i s) := by
  refine RosterStep.trans ?_ (reportLost_rosterStep _)
  refine RosterStep.trans (t := onSlot i (fun x => { x with answering := .yes }) s)
    (onSlot_rosterStep i s) ?_
  exact .ite _ (fun absent => changeSlot_rosterStep hi .standby (by rw [absent]; rfl)) fun _ => .refl _

/-! ## AC available and the generator cap (R94, R96) -/

theorem acLost_rosterStep (s : State) : RosterStep s (acLost s) := by
  refine RosterStep.of_placed fun placed => (endSwap_rosterStep .abandoned s).trans ?_
  have stopped (u : State) (l : List Nat) (h : ∀ i ∈ l, i < 12) :
      ListStep u (l.foldl (fun s i => changeSlot i .standby s) u) :=
    .foldl _ _ _ fun i hi => changeSlot_listStep (h i hi) .standby
  have swap (l : List Nat) (u : State) :
      (l.foldl (fun s i => changeSlot i .standby s) u).rect.swap = u.rect.swap := by
    induction l generalizing u with
    | nil => rfl
    | cons i l ih => rw [List.foldl_cons, ih, changeSlot_swap]
  have reported : RosterStep ((endSwap .abandoned s).rect.running.foldl (fun s i => changeSlot i .standby s)
      (endSwap .abandoned s)) (acLost s) := .of_eq (by simp [acLost])
  refine (((stopped _ _ fun i mem => ?_)).swapless ((swap _ _).trans (endSwap_gone _ s))).trans reported
  rw [(endSwap_lists .abandoned s).1] at mem
  exact (placed.mem_running.1 mem).1

theorem schedulerAcChange_rosterStep (oldAc : Bool) (s : State) : RosterStep s (schedulerAcChange oldAc s) := by
  unfold schedulerAcChange
  exact .ite _ (fun _ => acLost_rosterStep s) fun _ => .ite _ (fun _ => .of_eq ⟨rfl, rfl, rfl, rfl, rfl⟩) fun _ => .refl s

theorem stopOne_cases (s : State) :
    stopOne s = s ∨ ∃ i ∈ s.rect.running, stopOne s = changeSlot i .standby s := by
  unfold stopOne
  by_cases none_ : s.rect.running = []
  · simp [none_, mostHours]
  · obtain ⟨i, most, mem⟩ := mostHours_mem (s := s) none_
    exact .inr ⟨i, mem, by rw [most]⟩

@[simp] theorem stopOne_swap (s : State) : (stopOne s).rect.swap = s.rect.swap := by
  rcases stopOne_cases s with h | ⟨i, -, h⟩ <;> rw [h]
  exact changeSlot_swap i .standby s

theorem stopOne_listStep (s : State) : ListStep s (stopOne s) := by
  refine .of_placed fun placed => ?_
  rcases stopOne_cases s with h | ⟨i, mem, h⟩ <;> rw [h]
  · exact .refl s
  · exact changeSlot_listStep (placed.mem_running.1 mem).1 .standby s

theorem trimToGen_rosterStep (s : State) : RosterStep s (trimToGen s) := by
  refine .ite _ (fun _ => (endSwap_rosterStep .abandoned s).trans ?_) fun _ => .refl s
  refine ListStep.swapless (.foldl _ _ _ fun _ _ => stopOne_listStep) ?_
  have swap (l : List Nat) (u : State) : (l.foldl (fun s _ => stopOne s) u).rect.swap = u.rect.swap := by
    induction l generalizing u with
    | nil => rfl
    | cons _ l ih => rw [List.foldl_cons, ih, stopOne_swap]
  exact (swap _ _).trans (endSwap_gone .abandoned s)

/-! ## Starts, stops and swaps (R92, R93, R106 to R110) -/

theorem counts_rosterStep (s : State) (spacing dwell : Nat) :
    RosterStep s (s.onRect fun r => { r with spacing := spacing, dwell := dwell }) := .of_eq ⟨rfl, rfl, rfl, rfl, rfl⟩

theorem startHead_rosterStep (s : State) : RosterStep s (startHead s) := by
  refine .of_placed fun placed => ?_
  unfold startHead
  split
  · exact .refl s
  · next i _ queue =>
    obtain ⟨hi, standby⟩ := placed.mem_queue.1 (by rw [queue]; exact List.mem_cons_self)
    exact (changeSlot_rosterStep hi .starting (by rw [standby]; rfl)).trans (counts_rosterStep _ 0 0)

/-- R107: the pair of a swap is the head of the queue and a RUNNING slot of the running list, with hours apart by more than
the margin, and room for one module more. -/
theorem swapPair_some {s : State} {i o : Nat} (h : swapPair s = some (i, o)) :
    s.rect.swap = none ∧ s.rect.queue.head? = some i ∧ outgoingCandidate s = some o ∧
      s.hours i + s.inForce 4 7 < s.hours o ∧ (s.online → s.nRun < s.nGen) := by
  unfold swapPair at h
  split at h
  · next i' o' swap head candidate =>
    split at h
    · next fits =>
      obtain ⟨rfl, rfl⟩ := Prod.mk.inj (Option.some.inj h)
      exact ⟨swap, head, candidate, fits⟩
    · simp at h
  · simp at h

theorem outgoingCandidate_mem {s : State} {o : Nat} (h : outgoingCandidate s = some o) :
    o ∈ s.rect.running ∧ (s.slot o).state = .running := by
  by_cases none_ : (s.rect.running.filter fun i => (s.slot i).state == .running) = []
  · simp [outgoingCandidate, none_, mostHours] at h
  · obtain ⟨i, most, mem⟩ := mostHours_mem (s := s) none_
    obtain rfl : i = o := Option.some.inj (most.symm.trans h)
    simpa using mem

theorem beginSwap_rosterStep {s : State} {i o : Nat} (pair : swapPair s = some (i, o)) :
    RosterStep s (beginSwap i o s) := by
  refine .of_placed fun placed => ?_
  obtain ⟨-, head, candidate, -, -⟩ := swapPair_some pair
  obtain ⟨hi, standby⟩ := placed.mem_queue.1 (List.mem_of_mem_head? head)
  obtain ⟨mem, runs⟩ := outgoingCandidate_mem candidate
  have ho := (placed.mem_running.1 mem).1
  generalize begun : s.onRect (fun r =>
      { r.dropRequest with
        swap := some { incoming := i, outgoing := o, phase := .starting, overlap := 0 } }) = u
  have slot : u.slot = s.slot := by rw [← begun]; rfl
  have swap : u.rect.swap = some { incoming := i, outgoing := o, phase := .starting, overlap := 0 } := by
    rw [← begun]; rfl
  have running : u.rect.running = s.rect.running := by rw [← begun]; rfl
  have into : ListStep s u := by
    rw [← begun]
    refine .of_states rfl (fun _ => rfl) (fun _ => rfl) rfl rfl rfl fun _ w held => ?_
    obtain rfl := Option.some.inj held
    exact ⟨hi, ho⟩
  have before : beginSwap i o s = (changeSlot i .starting u).onRect fun r => { r with spacing := 0, dwell := 0 } := by
    rw [← begun]; rfl
  rw [before]
  refine RosterStep.trans ⟨into.trans (changeSlot_listStep hi .starting u), fun _ _ w held => ?_⟩
    (counts_rosterStep _ 0 0)
  obtain rfl := Option.some.inj (swap.symm.trans ((changeSlot_swap i .starting u).symm.trans held))
  have now := (into.trans (changeSlot_listStep hi .starting u)).placed placed
  have apart : o ≠ i := fun same => by simp [same, standby] at runs
  have starting : ((changeSlot i .starting u).slot i).state = .starting :=
    changeSlot_state .starting (by rw [(into.placed placed).size]; exact hi)
  have still : ((changeSlot i .starting u).slot o).state = .running := by
    rw [changeSlot_slot_ne _ _ apart, slot, runs]
  refine ⟨now.mem_running.2 ⟨hi, by rw [starting]; rfl⟩, now.mem_running.2 ⟨ho, by rw [still]; rfl⟩, apart.symm, ?_⟩
  rw [starting]
  simp

theorem finishSwap_rosterStep (s : State) : RosterStep s (finishSwap s) := by
  refine .of_placed fun placed => ?_
  unfold finishSwap
  split
  · exact .refl s
  · next w swap =>
    refine .ite _ (fun _ => ?_) fun _ => endSwap_rosterStep .absorbed s
    obtain ⟨-, -, -, -, -, -, members⟩ := placed
    have dwelt (u : State) : ListStep u (u.onRect fun r => { r with dwell := 0 }) :=
      RosterStep.toListStep (.of_eq ⟨rfl, rfl, rfl, rfl, rfl⟩)
    exact (((changeSlot_listStep (members w swap).2 .standby s).trans (dwelt _)).trans
      (endSwap_rosterStep .completed _).toListStep).swapless (endSwap_gone _ _)

theorem dropFreed_rosterStep (s : State) : RosterStep s (dropFreed s) := .of_eq (by simp [dropFreed_rect]; split <;> simp)

theorem swapWork_rosterStep (s : State) : RosterStep s (swapWork s) := by
  unfold swapWork
  refine .ite _ (fun _ => ?_) fun _ => dropFreed_rosterStep s
  split
  · next i o pair => exact beginSwap_rosterStep pair
  · exact dropFreed_rosterStep s

theorem stopWork_rosterStep (s : State) : RosterStep s (stopWork s) := by
  refine .ite _ (fun stops => ?_) fun _ => .refl s
  obtain ⟨-, -, gone⟩ := stops
  exact ((stopOne_listStep s).swapless ((stopOne_swap s).trans gone)).trans (.of_eq ⟨rfl, rfl, rfl, rfl, rfl⟩)

theorem countWork_rosterStep (s : State) : RosterStep s (countWork s) :=
  .ite _ (fun _ => (startHead_rosterStep s).trans (dropFreed_rosterStep _)) fun _ =>
    (stopWork_rosterStep s).trans (swapWork_rosterStep _)

/-! ## The measurement event (R89) -/

theorem dropSlot_rosterStep (i : Nat) (s : State) : RosterStep s (dropSlot i s) := by
  refine .of_placed fun placed => ?_
  have wiped (u : State) : RosterStep u (onSlot i (fun x => { x with answering := .unknown, faults := 0, data := none }) u) :=
    onSlot_rosterStep i u
  refine RosterStep.trans ?_ (wiped _)
  by_cases hi : i < 12
  · exact leaveSwap_changed hi .absent s
  · have absent : (s.slot i).state = .absent := by
      by_contra present
      exact hi (placed.lt_of_state present)
    obtain ⟨-, -, -, -, -, -, members⟩ := placed
    rw [changeSlot_same _ _ _ absent]
    rcases leaveSwap_cases i s with ⟨h, -⟩ | ⟨w, swap, member, -⟩
    · rw [h]
      exact .refl s
    · exact absurd (members w swap) (by omega)

theorem refitSlots_rosterStep (s : State) : RosterStep s (refitSlots s) :=
  RosterStep.trans (t := s.onRect fun r => { r with fitted := s.inForce 0 15 }) (.of_eq ⟨rfl, rfl, rfl, rfl, rfl⟩)
    (.foldl _ _ _ fun s i => dropSlot_rosterStep i s)

theorem runSecond_state (x : Slot) : x.runSecond.state = x.state := by
  unfold Slot.runSecond
  (repeat' split) <;> rfl

/-- R88: a STANDBY slot with new hours takes its new place. -/
theorem addHours_rosterStep (i : Nat) (s : State) : RosterStep s (addHours i s) := by
  refine .ite _ (fun _ => ?_) fun _ => .refl s
  generalize counted : onSlot i Slot.runSecond s = u
  have state (j : Nat) : (u.slot j).state = (s.slot j).state := by
    rw [← counted]
    exact onSlot_field Slot.state runSecond_state i j s
  have others (j : Nat) (ne : j ≠ i) : u.hours j = s.hours j := by
    rw [State.hours, State.hours, ← counted, onSlot_slot_ne _ _ _ _ ne]
  have length : u.rect.slots.length = s.rect.slots.length := by rw [← counted, onSlot_length]
  obtain ⟨running, queue, swap, bus⟩ : u.rect.running = s.rect.running ∧ u.rect.queue = s.rect.queue ∧
      u.rect.swap = s.rect.swap ∧ u.bus = s.bus := by
    rw [← counted]
    exact ⟨rfl, rfl, rfl, rfl⟩
  have left (l : List Nat) (apart : i ∉ l) (ordered : l.Pairwise fun i j => queueBefore s i j = true) :
      l.Pairwise fun i j => queueBefore u i j = true :=
    ordered.imp_of_mem fun ha hb before =>
      (queueBefore_congr (others _ fun eq => apart (eq ▸ ha)) (others _ fun eq => apart (eq ▸ hb))).trans before
  have swapped (placed : s.SwapPlaced) : u.SwapPlaced := fun w held => by
    rw [running, state]
    exact placed w (swap ▸ held)
  refine .ite _ (fun standby => ?_) fun notStandby => ?_
  · rw [state] at standby
    refine ⟨⟨fun placed => ?_, fun placed ordered => ?_⟩, fun _ placed => swapped placed⟩
    · obtain ⟨-, -, -, once, -, -, members⟩ := id placed
      have waits := placed.mem_queue.2 ⟨placed.lt_of_state (i := i) (by rw [standby]; decide), standby⟩
      refine placed.of_states length state running ?_ (fun j => ?_) (by rw [← bus]; rfl) (by rw [← swap] at members; exact members)
      · change (queueInsert u i (u.rect.queue.erase i)).Nodup
        rw [queue]
        exact nodup_queueInsert u i _ (once.erase i) once.not_mem_erase
      · change j ∈ queueInsert u i (u.rect.queue.erase i) ↔ _
        rw [queue, mem_queueInsert, once.mem_erase_iff]
        by_cases same : j = i <;> simp [same, waits]
    · obtain ⟨-, -, -, once, -, -, -⟩ := placed
      have before := left _ once.not_mem_erase (ordered.sublist (List.erase_sublist (a := i)))
      change (queueInsert u i (u.rect.queue.erase i)).Pairwise fun i j => queueBefore u i j = true
      rw [queue]
      exact queueInsert_pairwise before once.not_mem_erase
  · rw [state] at notStandby
    refine ⟨⟨fun placed => ?_, fun placed ordered => ?_⟩, fun _ placed => swapped placed⟩
    · obtain ⟨-, -, -, once, -, -, members⟩ := id placed
      exact placed.of_states length state running (queue ▸ once) (fun j => by rw [queue]) (by rw [bus])
        (by rwa [← swap] at members)
    · rw [State.QueueOrdered, queue]
      exact left _ (fun mem => notStandby (placed.mem_queue.1 mem).2) ordered

theorem startTick_rosterStep (i : Nat) (s : State) : RosterStep s (startTick i s) := by
  refine .of_placed fun placed => .ite _ (fun starting => ?_) fun _ => .refl s
  have hi := placed.lt_of_state (i := i) (by rw [starting]; decide)
  exact .ite _ (fun _ => enterFault_rosterStep hi s) fun _ => onSlot_rosterStep i s

theorem recoveryTick_rosterStep (i : Nat) (s : State) : RosterStep s (recoveryTick i s) := by
  refine .of_placed fun placed => .ite _ (fun fault => ?_) fun _ => .refl s
  have hi := placed.lt_of_state (i := i) (by rw [fault.1]; decide)
  exact .ite _ (fun _ => changeSlot_rosterStep hi .standby (by rw [fault.1]; rfl)) fun _ =>
    onSlot_rosterStep i s

/-- R89: an overlap that counts keeps its phase. -/
def Swap.overlapSecond (w : Swap) : Swap := if w.phase = .overlap then { w with overlap := w.overlap + 1 } else w

theorem overlapSecond_frame (w : Swap) : w.overlapSecond.incoming = w.incoming ∧
    w.overlapSecond.outgoing = w.outgoing ∧ w.overlapSecond.phase = w.phase := by
  unfold Swap.overlapSecond
  split <;> simp

theorem advanceCounts_swap (s : State) : (advanceCounts s).rect.swap = s.rect.swap.map Swap.overlapSecond := rfl

theorem advanceCounts_rosterStep (s : State) : RosterStep s (advanceCounts s) where
  toListStep := by
    refine .of_states rfl (fun _ => rfl) (fun _ => rfl) rfl rfl rfl fun placed w held => ?_
    obtain ⟨-, -, -, -, -, -, members⟩ := placed
    obtain ⟨x, before, rfl⟩ := Option.map_eq_some_iff.1 ((advanceCounts_swap s).symm.trans held)
    obtain ⟨incoming, outgoing, -⟩ := overlapSecond_frame x
    rw [incoming, outgoing]
    exact members x before
  swapped _ swap w held := by
    obtain ⟨x, before, rfl⟩ := Option.map_eq_some_iff.1 ((advanceCounts_swap s).symm.trans held)
    obtain ⟨incoming, outgoing, phase⟩ := overlapSecond_frame x
    rw [incoming, outgoing, phase]
    exact swap x before

theorem overlapWork_rosterStep (s : State) : RosterStep s (overlapWork s) :=
  .ite _ (fun _ => finishSwap_rosterStep s) fun _ => .refl s

theorem rectEvent_rosterStep (s : State) : RosterStep s (rectEvent s) := by
  have counted (u : State) : RosterStep u
      (if u.sup.ac then countWork (overlapWork (formCounts (advanceCounts u))) else dropFreed u) := by
    refine .ite _ (fun _ => ?_) fun _ => dropFreed_rosterStep u
    have formed (u : State) : RosterStep u (formCounts u) := .of_eq ⟨rfl, rfl, rfl, rfl, rfl⟩
    exact (((advanceCounts_rosterStep u).trans (formed _)).trans (overlapWork_rosterStep _)).trans (countWork_rosterStep _)
  have reported (u : State) : RosterStep u
      (reportFaults (reportLost (report alRectShortfall (shortfall (recomputeIm u)) (recomputeIm u)))) := .of_eq (by simp)
  have hours (u : State) : RosterStep u (u.fittedSlots.foldl (fun s i => addHours i s) u) :=
    .foldl _ _ _ fun s i => addHours_rosterStep i s
  have starts (u : State) : RosterStep u (u.fittedSlots.foldl (fun s i => startTick i s) u) :=
    .foldl _ _ _ fun s i => startTick_rosterStep i s
  have recoveries (u : State) : RosterStep u (u.fittedSlots.foldl (fun s i => recoveryTick i s) u) :=
    .foldl _ _ _ fun s i => recoveryTick_rosterStep i s
  exact (((((refitSlots_rosterStep s).trans (hours _)).trans (starts _)).trans (recoveries _)).trans (counted _)).trans
    (reported _)

/-! ## Requests (R103, R104, R110) -/

theorem serveLockout_rosterStep (i : Nat) (s : State) : RosterStep s (serveLockout i s).1 := by
  unfold serveLockout
  split
  · exact .refl s
  · next fitted =>
    split
    · exact .refl s
    · exact leaveSwap_changed (by omega) .lockout s

theorem serveRestore_rosterStep (i : Nat) (s : State) : RosterStep s (serveRestore i s).1 := by
  unfold serveRestore
  split
  · exact .refl s
  · next fitted =>
    split
    · next locked => exact changeSlot_rosterStep (by omega) _ (by rw [locked]; rfl)
    · exact .refl s

theorem serveRotateNow_rosterStep (s : State) : RosterStep s (serveRotateNow s).1 := by
  unfold serveRotateNow
  split
  · split
    · next i o pair =>
      split
      · exact beginSwap_rosterStep pair
      · exact .of_eq ⟨rfl, rfl, rfl, rfl, rfl⟩
    · exact .refl s
  · exact .refl s

end Sys2Proof.Machine
end

section
/-! SUPPORT. What the charge controller leaves of the scheduler (R45, R95): a module limit formed again at most. -/

namespace Sys2Proof.Machine

theorem equalizeBegin_modules (s : State) : ModulesKept s (equalizeBegin s) := by
  have begun (f : Charge → Charge) : ModulesKept s (changeStage .equalize (s.onCharge f)) :=
    ModulesKept.trans (t := s.onCharge f) (.of_eq rfl) (changeStage_modules .equalize _)
  unfold equalizeBegin
  refine .ite _ ?_ (.of_eq rfl)
  split
  · exact begun _
  · exact begun _
  · exact .of_eq rfl
  · exact .of_eq rfl

theorem equalizeDone_modules (s : State) : ModulesKept s (equalizeDone s) :=
  (changeStage_modules .float s).trans (.of_eq (by simp [equalizeDone]))

theorem serveEqualizeStop_modules (s : State) : ModulesKept s (serveEqualizeStop s).1 := by
  have stopped : ModulesKept s (post .equalizeEnd 1 (s.charge.eq.remaining / 60)
      ((changeStage .float s).onCharge fun c => { c with eq := c.eq.ended })) :=
    (changeStage_modules .float s).trans (.of_eq (by simp))
  unfold serveEqualizeStop
  cases s.charge.eq.state
  case none => exact .of_eq rfl
  case running => exact stopped
  case pending | suspended => exact .of_eq (by simp)

theorem abortIfUnsync_modules (s : State) : ModulesKept s (abortIfUnsync s) :=
  .ite _ (endTest_modules _ _ s) (.of_eq rfl)

theorem judgeTest_modules (s : State) : ModulesKept s (judgeTest s) := by
  unfold judgeTest
  split
  · exact .of_eq rfl
  · have counted (t : TestRec) : ModulesKept s (s.onCharge fun c => { c with test := some t }) := .of_eq rfl
    exact (counted _).trans (.ite _ (endTest_modules _ _ _) (.ite _ (endTest_modules _ _ _) (.of_eq rfl)))

theorem serveTestStart_modules (target : Nat) (s : State) : ModulesKept s (serveTestStart target s).1 := by
  unfold serveTestStart
  split
  · exact .of_eq rfl
  · split
    · exact ModulesKept.trans (.of_eq (by simp)) (changeStage_modules .test _)
    · exact .of_eq rfl

theorem serveTestAbort_modules (s : State) : ModulesKept s (serveTestAbort s).1 := by
  unfold serveTestAbort
  split
  · exact endTest_modules _ _ s
  · exact .of_eq rfl

theorem tailExit_modules (s : State) : ModulesKept s (tailExit s) :=
  ModulesKept.trans (t := reportTail (fullCharge s)) (.of_eq (by simp)) (changeStage_modules .float _)

theorem bulkWork_modules (hot : Bool) (s : State) : ModulesKept s (bulkWork hot s) :=
  .ite _ (changeStage_modules _ s) (.ite _ (changeStage_modules _ s) (.of_eq rfl))

theorem absorbWork_modules (hot : Bool) (s : State) : ModulesKept s (absorbWork hot s) :=
  .ite _ (tailExit_modules s) (.ite _ (changeStage_modules _ s) (.ite _ (changeStage_modules _ s) (.of_eq rfl)))

theorem floatWork_modules (cooled : Bool) (s : State) : ModulesKept s (floatWork cooled s) := by
  have armed (f : Charge → Charge) : ModulesKept s (equalizeBegin (s.onCharge f)) :=
    ModulesKept.trans (t := s.onCharge f) (.of_eq rfl) (equalizeBegin_modules _)
  exact .ite _ (changeStage_modules _ s) (.ite _ (equalizeBegin_modules s) (.ite _ (changeStage_modules _ s) (armed _)))

theorem equalizeWork_modules (s : State) : ModulesKept s (equalizeWork s) := by
  have suspended (u : State) : ModulesKept u (changeStage .float (suspendEqualize u)) :=
    (suspendEqualize_modules u).trans (changeStage_modules .float _)
  have counted (f : Charge → Charge) : ModulesKept s (s.onCharge f) := .of_eq rfl
  exact .ite _ (equalizeDone_modules s) ((counted _).trans (.ite _ (suspended _) (.of_eq rfl)))

theorem stageWork_modules (hot cooled : Bool) (s : State) : ModulesKept s (stageWork hot cooled s) := by
  unfold stageWork
  cases s.charge.stage
  case bulk => exact bulkWork_modules hot s
  case absorb => exact absorbWork_modules hot s
  case float => exact floatWork_modules cooled s
  case equalize => exact equalizeWork_modules s
  case discharge | test => exact .of_eq rfl

theorem chargeEvent_modules (s : State) : ModulesKept s (chargeEvent s) := by
  have latched : ModulesKept s (latchFormed s) := .of_eq (by simp)
  have judged : ModulesKept s (testKept s) := (latched.trans (abortIfUnsync_modules _)).trans (.of_eq (by simp [testKept]))
  have worked (u : State) : ModulesKept u (if u.charge.stage = s.charge.stage then
      stageWork (newlyHot s) (newlyCool s) u else u) := .ite _ (stageWork_modules _ _ u) (.of_eq rfl)
  rw [chargeEvent_eq]
  exact (judged.trans (worked _)).trans (.of_eq (by simp))

theorem channelExpires_modules (i : Nat) (s : State) : ModulesKept s (channelExpires i s) := by
  refine .ite _ ?_ (.of_eq rfl)
  exact ModulesKept.trans (.of_eq (by simp)) (abortIfUnsync_modules _)

end Sys2Proof.Machine
end

section
/-! SUPPORT. Steps that keep the roster (R87, R88, R107): the other blocks' operations. -/

namespace Sys2Proof.Machine

/-! ## The plant mode and the feed (R15, R16, R94 to R96, R128) -/

theorem chargeActed_rosterStep (old : Sup) (s : State) : RosterStep s (chargeActed old s) := by
  refine (chargeActed_modules old s).rosterStep ?_
  unfold chargeActed
  dsimp only
  (repeat' split) <;> simp

theorem actOnMode_rosterStep (old : Sup) (s : State) : RosterStep s (actOnMode old s) :=
  (chargeActed_rosterStep old s).trans (schedulerAcChange_rosterStep _ _)

theorem rederive_rosterStep (s : State) : RosterStep s (rederive s) :=
  RosterStep.trans (t := supervise s) (.of_eq (by simp)) (actOnMode_rosterStep s.sup _)

theorem feedMoved_rosterStep (s : State) : RosterStep s (feedMoved s) := by
  have unsettled : RosterStep s (s.onRect fun r => { r with settle := 0 }) := .of_eq ⟨rfl, rfl, rfl, rfl, rfl⟩
  have formed (u : State) : RosterStep u (recomputeIbl u) := .of_eq (by simp)
  exact ((unsettled.trans (rederive_rosterStep _)).trans (formed _)).trans (trimToGen_rosterStep _)

/-- Everything the generator controller does keeps the roster. -/
theorem rosterStep_closed : FeedClosed RosterStep where
  refl := .refl
  trans := .trans
  gen f s := .of_eq (by simp)
  cal f s := .of_eq (by simp)
  report c v s := .of_eq (by simp)
  post kind subject value s := .of_eq (by simp)
  fed := feedMoved_rosterStep

/-! ## The contactors (R79, R81) -/

theorem openBpd_rosterStep (s : State) : RosterStep s (openBpd s) :=
  RosterStep.trans (.of_eq (by simp)) (rederive_rosterStep _)

theorem closeBpd_rosterStep (s : State) : RosterStep s (closeBpd s) :=
  RosterStep.trans (.of_eq (by simp)) (rederive_rosterStep _)

theorem disconnectWork_rosterStep (s : State) : RosterStep s (disconnectWork s) := by
  unfold disconnectWork
  exact .ite _ (fun _ => .ite _ (fun _ => openBpd_rosterStep s) fun _ => .of_eq (by simp)) fun _ => .of_eq (by simp)

theorem reconnectWork_rosterStep (s : State) : RosterStep s (reconnectWork s) := by
  unfold reconnectWork
  exact .ite _ (fun _ => .ite _ (fun _ => closeBpd_rosterStep s) fun _ => .of_eq (by simp)) fun _ => .of_eq (by simp)

theorem protectionEvent_rosterStep (s : State) : RosterStep s (protectionEvent s) := by
  have nel : RosterStep s (if s.prot.nel = .opened then nelWork s else shedWork s) :=
    .ite _ (fun _ => .of_eq (by simp)) fun _ => .of_eq (by simp)
  have reported (u : State) : RosterStep u (reportBus (dischargeWork u)) := .of_eq (by simp)
  have bpd (u : State) : RosterStep u (if s.prot.bpd = .opened then reconnectWork u else disconnectWork u) :=
    .ite _ (fun _ => reconnectWork_rosterStep u) fun _ => disconnectWork_rosterStep u
  exact (nel.trans (bpd _)).trans (reported _)

/-! ## Mains and the generator's AC (R9, R10) -/

theorem setMains_rosterStep (qualified : Bool) (s : State) : RosterStep s (setMains qualified s) := by
  have supervised : RosterStep s (report alMainsFail (!qualified) (mainsSupervised qualified s)) :=
    .of_eq (by simp [mainsSupervised])
  rw [setMains_eq]
  exact (supervised.trans (actOnMode_rosterStep s.sup _)).trans (rosterStep_closed.genMainsChanged _)

theorem mainsReturns_rosterStep (s : State) : RosterStep s (mainsReturns s) :=
  .ite _ (fun _ => setMains_rosterStep true s) fun _ => .refl s

theorem mainsFails_rosterStep (s : State) : RosterStep s (mainsFails s) :=
  .ite _ (fun _ => setMains_rosterStep false s) fun _ => .refl s

theorem genQualifies_rosterStep (s : State) : RosterStep s (genQualifies s) :=
  .ite _ (fun _ => RosterStep.trans (.of_eq (by simp)) (rosterStep_closed.genAcChanged _)) fun _ => .refl s

/-! ## The hold and the site inputs (R11 to R14, R21) -/

theorem endHold_rosterStep (s : State) : RosterStep s (endHold s) :=
  .ite _ (fun _ => RosterStep.trans (t := clearHold s) (.of_eq (by simp [clearHold, reportHold]))
    (rosterStep_closed.evaluateStart _)) fun _ => .refl s

theorem keyWithdrawn_rosterStep (s : State) : RosterStep s (keyWithdrawn s) := by
  have held : RosterStep s (if s.sup.hold.any fun h => h.cause == .key then endHold s else s) :=
    .ite _ (fun _ => endHold_rosterStep s) fun _ => .refl s
  have relocked (u : State) : RosterStep u (relockKeyed u) := .of_eq (by simp)
  exact held.trans (relocked _)

theorem handFunction_rosterStep (f : Nat) (s : State) : RosterStep s (handFunction f s) := by
  unfold handFunction
  exact .ite _ (fun _ => .ite _ (fun _ => .of_eq (by simp)) fun _ => keyWithdrawn_rosterStep s) fun _ =>
    .ite _ (fun _ => rosterStep_closed.inhibitChanged s) fun _ =>
    .ite _ (fun _ => .ite _ (fun _ => rosterStep_closed.takeEngineFault s) fun _ => .refl s) fun _ =>
    .ite _ (fun _ => rosterStep_closed.reportFuel s) fun _ => .refl s

theorem inputQualifies_rosterStep (n : Nat) (s : State) : RosterStep s (inputQualifies n s) := by
  have qualified : RosterStep s (inputQualified n s) := .of_eq (by simp)
  rw [inputQualifies_eq]
  exact qualified.trans (.ite _ (fun _ => .refl _) fun _ => handFunction_rosterStep _ _)

theorem persistenceExpires_rosterStep (n : Nat) (s : State) : RosterStep s (persistenceExpires n s) :=
  .ite _ (fun _ => inputQualifies_rosterStep n s) fun _ => .refl s

/-! ## Completed store writes (R190, R194) -/

theorem mainsDelaysChanged_rosterStep (old s : State) : RosterStep s (mainsDelaysChanged old s) := by
  unfold mainsDelaysChanged
  exact .ite _ (fun _ => mainsReturns_rosterStep s) fun _ => .ite _ (fun _ => mainsFails_rosterStep s) fun _ => .refl s

theorem inputSettings_rosterStep (old s : State) : RosterStep s (inputSettings old s) := by
  have reported : RosterStep s (functionReports old (repolarise s)) := .of_eq (by simp)
  have persisted (u : State) (n : Nat) : RosterStep u (persistenceChanged old n u) :=
    .ite _ (fun _ => inputQualifies_rosterStep n u) fun _ => .refl u
  exact (reported.trans (.foldl _ _ _ fun u f => handFunction_rosterStep f u)).trans (.foldl _ _ _ persisted)

theorem handGroup_rosterStep (g : Nat) (old s : State) : RosterStep s (handGroup g old s) := by
  have withdrawn (u : State) : RosterStep u (exerciseSettings u) := .of_eq (by simp)
  unfold handGroup
  exact .ite _ (fun _ => trimToGen_rosterStep s) fun _ => .ite _ (fun _ => mainsDelaysChanged_rosterStep old s) fun _ =>
    .ite _ (fun _ => (trimToGen_rosterStep s).trans (withdrawn _)) fun _ => .ite _ (fun _ => .of_eq (by simp)) fun _ =>
    .ite _ (fun _ => inputSettings_rosterStep old s) fun _ => .refl s

theorem groupWriteCompletes_rosterStep (s : State) : RosterStep s (groupWriteCompletes s) := by
  unfold groupWriteCompletes
  split
  · next g values _ =>
    have installed : RosterStep s (reportSettings (installGroup g values s)) := .of_eq (by simp)
    exact (installed.trans (handGroup_rosterStep g s _)).trans (.of_eq (by simp))
  · exact .refl s
  · exact .refl s

/-! ## The module bus (R115 to R126) -/

theorem markRepeat_length (again : Option Nat) (links : List (Option LinkRec)) :
    (markRepeat again links).length = links.length := by
  simp [markRepeat]

theorem beginExchange_rosterStep (slot : Nat) (tag : Byte) (again : Option Nat) (s : State) :
    RosterStep s (beginExchange slot tag again s) :=
  .of_eq ⟨rfl, rfl, rfl, rfl, markRepeat_length again s.bus.links⟩

theorem reportBusFail_rosterStep (s : State) : RosterStep s (reportBusFail s) := .of_eq (by simp)

theorem handGood_rosterStep {e : Exchange} (hi : e.slot < 12) (l : LinkRec) (s : State) : RosterStep s (handGood e l s) := by
  unfold handGood
  exact .ite _ (fun _ => .ite _ (fun _ => .refl s) fun _ => takeStatus_rosterStep hi _ s) fun _ =>
    .ite _ (fun _ => (takeFound_rosterStep hi s).trans (reportBusFail_rosterStep _)) fun _ => .refl s

theorem handMiss_rosterStep {e : Exchange} (hi : e.slot < 12) (l : LinkRec) (s : State) : RosterStep s (handMiss e l s) :=
  .ite _ (fun _ => (takeLost_rosterStep hi s).trans (reportBusFail_rosterStep _)) fun _ => .refl s

/-- A slot with a link record is one of the twelve. -/
theorem State.RosterPlaced.lt_of_link {s : State} (h : s.RosterPlaced) {i : Nat} {l : LinkRec}
    (link : s.linkRec i = some l) : i < 12 := by
  obtain ⟨-, links, -⟩ := h
  by_contra outside
  simp [State.linkRec, List.getD_eq_getElem?_getD, List.getElem?_eq_none (l := s.bus.links) (i := i) (by omega)] at link

theorem judgeExchange_rosterStep (e : Exchange) (s : State) : RosterStep s (judgeExchange e s) := by
  refine .of_placed fun placed => ?_
  have linked (l : LinkRec) : RosterStep s (setLink e.slot l s) := .of_eq ⟨rfl, rfl, rfl, rfl, by simp [setLink]⟩
  unfold judgeExchange
  split
  · next l _ link =>
    have hi := placed.lt_of_link link
    exact .ite _ (fun _ => (linked _).trans (handGood_rosterStep hi l _)) fun _ =>
      (linked _).trans (handMiss_rosterStep hi l _)
  · exact .refl s

theorem turnaroundEnds_rosterStep (s : State) : RosterStep s (turnaroundEnds s) :=
  .ite _ (fun _ => (judgeExchange_rosterStep _ s).trans
    (.ite _ (fun _ => beginExchange_rosterStep _ _ _ _) fun _ => beginExchange_rosterStep _ _ _ _)) fun _ => .refl s

theorem busEvent_rosterStep (s : State) : RosterStep s (busEvent s) := by
  have refitted : RosterStep s (refitLinks s) := by
    refine ⟨⟨fun ⟨slots, _, runsOnce, waitsOnce, runs, waits, members⟩ => ?_, fun _ => id⟩, fun _ => id⟩
    exact ⟨slots, by simp [refitLinks], runsOnce, waitsOnce, runs, waits, members⟩
  exact refitted.trans (reportBusFail_rosterStep _)

theorem onExchange_rosterStep (f : Exchange → Exchange) (s : State) : RosterStep s (onExchange f s) :=
  .of_eq ⟨rfl, rfl, rfl, rfl, rfl⟩

theorem phaseTo_rosterStep (old new : Phase) (f : Exchange → Exchange) (s : State) : RosterStep s (phaseTo old new f s) :=
  .ite _ (fun _ => onExchange_rosterStep _ s) fun _ => .refl s

/-! ## The measurement event (R3) -/

theorem accountEvent_rosterStep (s : State) : RosterStep s (accountEvent s) := by
  have integrated : RosterStep s (accountIntegrate s) := .of_eq (by simp)
  have reported (u : State) : RosterStep u (accountReport u) := .of_eq (by simp)
  exact (integrated.trans ((judgeTest_modules _).rosterStep (by simp))).trans (reported _)

theorem blockEvent_rosterStep (b : Block) (s : State) : RosterStep s (blockEvent b s) := by
  cases b with
  | account => exact accountEvent_rosterStep s
  | charge => exact (chargeEvent_modules s).rosterStep (by simp)
  | protection => exact protectionEvent_rosterStep s
  | rectifier => exact rectEvent_rosterStep s
  | moduleBus => exact busEvent_rosterStep s
  | generator => exact rosterStep_closed.genEvent s
  | calendar => exact rosterStep_closed.calendarEvent s
  | _ => exact .of_eq (by simp [blockEvent])

theorem measurementEvent_rosterStep (r : Readings) (order : List Block) (s : State) :
    RosterStep s (measurementEvent r order s) := by
  have raised : RosterStep s (raiseEvent r s) := .of_eq (by simp)
  have seen (u : State) : RosterStep u (u.onStore fun x => { x with fresh := [] }) := .of_eq (by simp)
  exact (raised.trans (.foldl _ _ _ fun u b => blockEvent_rosterStep b u)).trans (seen _)

/-! ## The clock (R153 to R157) -/

theorem timeCarried_rosterStep (was : Bool) (s : State) : RosterStep s (timeCarried was s) := by
  have tested : RosterStep s (clockTest was s) := .of_eq (by simp)
  have bounded (u : State) : RosterStep u (boundaryTest u) := .of_eq (by simp)
  exact (tested.trans (bounded _)).trans (rosterStep_closed.dueTest _)

theorem poweredTick_rosterStep (s : State) : RosterStep s (poweredTick s) := by
  have ticked : RosterStep s (s.onCal fun c => c.tick.windowTick) := .of_eq (by simp)
  exact (ticked.trans (rosterStep_closed.windowClosed _)).trans (timeCarried_rosterStep _ _)

theorem serveAlign_rosterStep (s : State) : RosterStep s (serveAlign s).1 := by
  have aligned (f : Cal → Cal) : RosterStep s (s.onCal f) := .of_eq (by simp)
  unfold serveAlign
  split
  · split
    · exact .of_eq (by simp)
    · exact (aligned _).trans (timeCarried_rosterStep _ _)
  · exact .refl s

/-! ## Starts (R1, R113, R126) -/

/-- R113: after a start no slot runs or stands by, and no swap is in flight. -/
theorem started_rosterStep {s t : State} (length : t.rect.slots.length = s.rect.slots.length)
    (links : t.bus.links.length = 12) (absent : ∀ i, (t.slot i).state = .absent) (running : t.rect.running = [])
    (queue : t.rect.queue = []) (swap : t.rect.swap = none) : RosterStep s t where
  placed placed := by
    refine ⟨length.trans placed.size, links, by rw [running]; exact List.nodup_nil, by rw [queue]; exact List.nodup_nil,
      fun i => ?_, fun i => ?_, fun w held => by simp [swap] at held⟩
    · simp [running, absent]
    · simp [queue, absent]
  ordered _ _ := by
    rw [State.QueueOrdered, queue]
    exact List.Pairwise.nil
  swapped _ _ w held := by simp [swap] at held

theorem makeStart_rosterStep (cause : StartCause) (blank : Bool) (p : Pins) (s : State) :
    RosterStep s (makeStart cause blank p s) := by
  rw [makeStart_eq]
  refine RosterStep.trans ?_ (rosterStep_closed.evaluateStart _)
  have rect : (conditionsReported cause blank p s).rect = (rosterStarted s).rect := by
    simp [conditionsReported, exerciseStart]
  have bus : (conditionsReported cause blank p s).bus = (batteryStarted blank p s).bus := by
    simp [conditionsReported, exerciseStart]
  have roster := rosterStarted_rect s
  refine started_rosterStep ?_ ?_ (fun i => ?_) ?_ ?_ ?_
  · rw [rect]
    simp [rosterStarted, rectStart_rect]
  · rw [bus]
    simp [batteryStarted, busStart, beginExchange, markRepeat]
  · rw [State.slot, rect]
    exact (rosterStarted_slot s i).1
  all_goals rw [rect, roster]

/-! ## Requests -/

theorem serveRequest_rosterStep (i : Instr) (s : State) : RosterStep s (serveRequest i s).1 := by
  cases i
  case nextNotice source => exact .of_eq (t := (serveNotice source s).1) (by simp)
  case snapshot => exact .of_eq (t := (serveSnapshot s).1) (by simp)
  case setClock year month day hour minute second =>
    exact .of_eq (t := (serveSetClock year.toNat month.toNat day.toNat hour.toNat minute.toNat second.toNat s).1) (by simp)
  case alignClock => exact serveAlign_rosterStep s
  case ackAlarm form selector => exact .of_eq (t := (serveAck form selector s).1) (by simp)
  case resetLatch => exact .of_eq (t := (serveResetLatch s).1) (by simp)
  case hold minutes => exact .of_eq (t := (serveHold minutes.toNat s).1) (by simp)
  case release => exact endHold_rosterStep s
  case genStart => exact rosterStep_closed.serveGenStart _ _ s
  case genStop => exact rosterStep_closed.serveGenStop s
  case equalizeStart => exact .of_eq (t := (serveEqualizeStart s).1) (by simp)
  case equalizeStop => exact (serveEqualizeStop_modules s).rosterStep (by simp)
  case capacityTestStart target => exact (serveTestStart_modules target.toNat s).rosterStep (by simp)
  case capacityTestAbort => exact (serveTestAbort_modules s).rosterStep (by simp)
  case rectifierLockout slot => exact serveLockout_rosterStep slot.toNat s
  case rectifierRestore slot => exact serveRestore_rosterStep slot.toNat s
  case rotateNow => exact serveRotateNow_rosterStep s
  case unlock group signature => exact .of_eq (t := (serveUnlock group.toNat signature s).1) (by simp)
  case lockGroupRelock group => exact .of_eq (t := (serveRelock group.toNat s).1) (by simp)
  case lockGroupSeal group => exact .of_eq (t := (serveSeal group.toNat s).1) (by simp)
  case lockGroupMode group mode => exact .of_eq (t := (serveMode group.toNat mode s).1) (by simp)
  case writeSettings group first count values =>
    exact .of_eq (t := (serveWrite group.toNat first.toNat count.toNat (values.map BitVec.toNat) s).1) (by simp)
  case restart => exact .of_eq (t := (serveRestart s).1) (by simp)
  all_goals exact .refl s

theorem takeRequest_rosterStep (kind : Byte) (serve : State → Served) (s : State) (h : RosterStep s (serve s).1) :
    RosterStep s (takeRequest kind serve s) :=
  h.trans (.of_eq (t := holdAnswer kind (serve s).2 (serve s).1) ⟨rfl, rfl, rfl, rfl, rfl⟩)

theorem runCloses_rosterStep (s : State) : RosterStep s (runCloses s) := by
  unfold runCloses
  refine .ite _ (fun _ => .ite _ (fun _ => ?_) fun _ => .of_eq (by simp)) fun _ => .refl s
  unfold takeFrame
  dsimp only
  split
  · exact takeRequest_rosterStep _ _ s (serveRequest_rosterStep _ s)
  · exact takeRequest_rosterStep _ _ s (.refl s)

/-! ## Commands -/

/-- A command that acts while the supply stands. -/
theorem whenPowered_rosterStep {s t : State} {f : State → State} (h : whenPowered s f = .next t)
    (step : RosterStep s (f s)) : RosterStep s t := by
  obtain rfl : (if s.powered then f s else s) = t := Host.Outcome.next.inj h
  exact .ite _ (fun _ => step) fun _ => .refl s

/-- A count's expiry that acts when it is due. -/
theorem onExpiry_rosterStep {s t : State} {isDue : State → Bool} {f : State → State} (h : onExpiry s isDue f = .next t)
    (step : isDue s = true → RosterStep s (f s)) : RosterStep s t :=
  whenPowered_rosterStep h (.ite _ step fun _ => .refl s)

theorem onRequest_rosterStep {s t : State} {kind : Byte} {i : Instr} (h : onRequest kind i s = .next t) : RosterStep s t := by
  have discarded : RosterStep s (discardByte s) := .of_eq (by simp)
  exact whenPowered_rosterStep h (.ite _ (fun _ => takeRequest_rosterStep _ _ s (serveRequest_rosterStep i s)) fun _ => discarded)

/-- R100: a slot that recovers was in FAULT, and in no swap. -/
theorem recovery_rosterStep {i : Nat} (hi : i < 12) {s : State} (h : recoveryDue i s = true) :
    RosterStep s (changeSlot i .standby s) := by
  obtain ⟨⟨fault, -⟩, -⟩ : ((s.slot i).state = .fault ∧ _) ∧ _ := by simpa [recoveryDue] using h
  exact changeSlot_rosterStep hi .standby (by rw [fault]; rfl)

/-- What every command does. -/
theorem exec_rosterStep (i : Instr) {s t : State} (h : exec i s = .next t) : RosterStep s t := by
  have closed := rosterStep_closed
  cases i
  case powerReturnStart p =>
    obtain rfl := Host.Outcome.next.inj h
    exact RosterStep.trans (t := loseSupply s) (.of_eq ⟨rfl, rfl, rfl, rfl, rfl⟩) (makeStart_rosterStep _ _ _ _)
  case resetPinStart p => exact whenPowered_rosterStep h (makeStart_rosterStep _ _ _ s)
  case restartWarmStart p => exact whenPowered_rosterStep h (.ite _ (fun _ => makeStart_rosterStep _ _ _ s) fun _ => .refl s)
  case plantSupplyLoss => exact whenPowered_rosterStep h (.of_eq ⟨rfl, rfl, rfl, rfl, rfl⟩)
  case backupCellFailure =>
    obtain rfl := Host.Outcome.next.inj h
    exact .ite _ (fun _ => .refl s) fun _ => .of_eq ⟨rfl, rfl, rfl, rfl, rfl⟩
  case measurementEvent r order => exact whenPowered_rosterStep h (measurementEvent_rosterStep r order s)
  case stringChannelUnusable i => exact whenPowered_rosterStep h ((channelExpires_modules i s).rosterStep (by simp))
  case mainsReturnTimerExpiry => exact whenPowered_rosterStep h (mainsReturns_rosterStep s)
  case mainsFailTimerExpiry => exact whenPowered_rosterStep h (mainsFails_rosterStep s)
  case genAcQualified => exact whenPowered_rosterStep h (genQualifies_rosterStep s)
  case persistenceExpiry n => exact whenPowered_rosterStep h (persistenceExpires_rosterStep n s)
  case holdExpiry => exact whenPowered_rosterStep h (endHold_rosterStep s)
  case absorbEntry => exact onExpiry_rosterStep h fun _ => (changeStage_modules .absorb s).rosterStep (by simp)
  case tailExit => exact onExpiry_rosterStep h fun _ => (tailExit_modules s).rosterStep (by simp)
  case absorbTimerExpiry => exact onExpiry_rosterStep h fun _ => (changeStage_modules .float s).rosterStep (by simp)
  case equalizeComplete => exact onExpiry_rosterStep h fun _ => (equalizeDone_modules s).rosterStep (by simp)
  case batteryDisconnect => exact onExpiry_rosterStep h fun _ => openBpd_rosterStep s
  case bpdReconnect => exact onExpiry_rosterStep h fun _ => closeBpd_rosterStep s
  case startTimeout i => exact onExpiry_rosterStep h fun _ => enterFault_rosterStep i.isLt s
  case faultRecovery i => exact onExpiry_rosterStep h fun due => recovery_rosterStep i.isLt due
  case rotationDue =>
    exact whenPowered_rosterStep h (.ite _ (fun _ => .of_eq ⟨rfl, rfl, rfl, rfl, rfl⟩) fun _ => .refl s)
  case swapOverlapExpiry => exact onExpiry_rosterStep h fun _ => finishSwap_rosterStep s
  case turnaroundEnd => exact whenPowered_rosterStep h (turnaroundEnds_rosterStep s)
  case commandSent | replyWindowExpiry | replyGapTimeout | trailingBytes =>
    exact whenPowered_rosterStep h (phaseTo_rosterStep _ _ _ s)
  case moduleReplyByte b => exact whenPowered_rosterStep h (onExchange_rosterStep _ s)
  case statusFrame bytes => exact whenPowered_rosterStep h (.foldl _ _ _ fun u b => onExchange_rosterStep _ u)
  case primeTimeExpiry => exact onExpiry_rosterStep h fun _ => closed.enterCranking s
  case crankRestExpiry => exact onExpiry_rosterStep h fun _ => closed.enterCranking s
  case crankMaximumExpiry => exact onExpiry_rosterStep h fun _ => closed.crankExpired s
  case warmupFaultArm => exact onExpiry_rosterStep h fun _ => closed.armFaults s
  case warmupEnd => exact onExpiry_rosterStep h fun _ => closed.warmupTimeReached s
  case mainsFailStartDelay | busStartQualified | restCountComplete | manualStopHoldExpiry =>
    exact whenPowered_rosterStep h (.ite _ (fun _ => closed.evaluated _ s) fun _ => .refl s)
  case maxRun => exact onExpiry_rosterStep h fun _ => closed.stopInFlight .maxRun s
  case duration => exact whenPowered_rosterStep h (.ite _ (fun _ => closed.stopInFlight _ s) fun _ => .refl s)
  case cooldownExpiry => exact onExpiry_rosterStep h fun _ => closed.enterStopping s
  case stopConfirmExpiry => exact onExpiry_rosterStep h fun _ => closed.stopExpired s
  case rearmExpiry => exact onExpiry_rosterStep h fun _ => closed.leaveFailed s
  case calendarTick =>
    obtain rfl := Host.Outcome.next.inj h
    exact .ite _ (fun _ => poweredTick_rosterStep s) fun _ => .of_eq (by simp)
  case windowClose =>
    exact whenPowered_rosterStep h (.ite _ (fun _ => closed.trans (closed.cal _ s) (closed.windowClosed _)) fun _ => .refl s)
  case storeWriteComplete => exact whenPowered_rosterStep h (groupWriteCompletes_rosterStep s)
  case runClose => exact whenPowered_rosterStep h (runCloses_rosterStep s)
  case modeTableWriteComplete | thermistorFallback | mainsSenseChange | genSenseChange | siteInputLevelChange
      | lampHalfPeriod | linkByteDiscard | linkByteBegins | replyBegin | replyEnd | deafIdleExpiry | snapshotDrop =>
    exact whenPowered_rosterStep h (.of_eq (by simp))
  case shedDelayExpiry | nelReconnect => exact onExpiry_rosterStep h fun _ => .of_eq (by simp)
  case dischargeCountExpiry => exact onExpiry_rosterStep h fun _ => .of_eq (by simp [dischargeFull])
  case qualificationCountExpiry c =>
    refine whenPowered_rosterStep h (.ite _ (fun _ => ?_) fun _ => .refl s)
    exact .ite _ (fun _ => .of_eq (by simp)) fun _ => .ite _ (fun _ => .of_eq (by simp)) fun _ => .refl s
  case idleCountExpiry => exact onExpiry_rosterStep h fun _ => .of_eq (by simp)
  all_goals exact onRequest_rosterStep h

end Sys2Proof.Machine

open Sys2Proof Sys2Proof.Machine

/-- Settles O10: an empty queue leaves the state, and every command is a `RosterStep`. -/
theorem stepsKeepTheRosterPlaced : Obligations.StepsKeepTheRosterPlaced := by
  intro s t placed h
  have step : RosterStep s t := by
    cases queue : s.pending with
    | nil =>
      rw [step_nil s queue] at h
      exact Host.Outcome.next.inj h ▸ RosterStep.refl s
    | cons c rest =>
      rw [step_cons s c rest queue] at h
      exact RosterStep.trans (t := { s with pending := rest }) (.of_eq ⟨rfl, rfl, rfl, rfl, rfl⟩) (exec_rosterStep c h)
  exact ⟨step.placed placed, step.ordered placed, step.swapped placed⟩
end

section
/-! SUPPORT and the statement about the replies of the modules (R97, R98, R101, R121 to R124): a status, a lost and a found
report in the slot's record. -/

namespace Sys2Proof.Machine

/-! ## A slot's record -/

@[simp] theorem leaveSwap_slot (i : Nat) (s : State) : (leaveSwap i s).slot = s.slot := slot_congr (by simp)

@[simp] theorem endSwap_slot (outcome : SwapOutcome) (s : State) : (endSwap outcome s).slot = s.slot :=
  slot_congr (by simp)

theorem enterFault_slot {i : Nat} {s : State} (h : i < s.rect.slots.length) (ne : (s.slot i).state ≠ .fault) :
    (enterFault i s).slot i = ((s.slot i).took .fault s.stamp).faulted := by
  rw [enterFault_eq, leaveSwap_slot, onSlot_slot _ _ _ (by simpa using h), changeSlot_slot h ne]

theorem enterFault_slot_ne {i j : Nat} (s : State) (ne : j ≠ i) : (enterFault i s).slot j = s.slot j := by
  rw [enterFault_eq, leaveSwap_slot, onSlot_slot_ne _ _ _ _ ne, changeSlot_slot_ne _ _ ne]

theorem countingFault_congr {s t : State} (sup : t.sup = s.sup) (settle : t.rect.settle = s.rect.settle) :
    countingFault t = countingFault s := by
  funext d
  simp [countingFault, State.settled, sup, settle]

/-! ## A status with data (R97, R98) -/

/-- R97: a status is stored. -/
def Slot.told (d : ModuleData) (x : Slot) : Slot := { x with data := some d }

theorem takeStatus_ignored {i : Nat} (d : ModuleData) {s : State}
    (h : s.rect.fitted ≤ i ∨ (s.slot i).state = .absent) : takeStatus i d s = s := if_pos h

/-- R98: the state that a status with a counting fault, or without one, leaves a slot in. -/
def SlotState.after (counting runs : Bool) (x : SlotState) : SlotState :=
  if counting then (if x = .lockout then .lockout else .fault)
  else if x = .starting ∧ runs = true then .running
  else if x = .running ∧ runs = false then .starting
  else x

/-- R97: a status of a fitted slot that is present is stored, and then acted on. -/
theorem takeStatus_eq {i : Nat} (d : ModuleData) {s : State} (fitted : i < s.rect.fitted)
    (present : (s.slot i).state ≠ .absent) : takeStatus i d s =
      if countingFault s d then
        match (s.slot i).state with
        | .standby | .starting | .running => enterFault i (onSlot i (Slot.told d) s)
        | .fault => onSlot i (fun x => { x with recovery := 0 }) (onSlot i (Slot.told d) s)
        | .lockout | .absent => onSlot i (Slot.told d) s
      else
        match (s.slot i).state with
        | .starting =>
          if d.running then swapIncomingRuns i (changeSlot i .running (onSlot i (Slot.told d) s))
          else onSlot i (Slot.told d) s
        | .running =>
          if d.running then onSlot i (Slot.told d) s
          else swapIncomingFalls i (changeSlot i .starting (onSlot i (Slot.told d) s))
        | .absent | .standby | .fault | .lockout => onSlot i (Slot.told d) s := by
  refine (if_neg fun ignored => ?_).trans rfl
  rcases ignored with unfitted | absent
  · omega
  · exact present absent

theorem takeStatus_slot {i : Nat} (d : ModuleData) {s : State} (hi : i < s.rect.slots.length) (fitted : i < s.rect.fitted)
    (present : (s.slot i).state ≠ .absent) :
    ((takeStatus i d s).slot i).data = some d ∧ ((takeStatus i d s).slot i).answering = (s.slot i).answering ∧
      ((takeStatus i d s).slot i).state = (s.slot i).state.after (countingFault s d) d.running := by
  have told : (onSlot i (Slot.told d) s).slot i = (s.slot i).told d := onSlot_slot _ _ _ hi
  have size : i < (onSlot i (Slot.told d) s).rect.slots.length := by simpa using hi
  have changed (new : SlotState) (ne : (s.slot i).state ≠ new) :
      (changeSlot i new (onSlot i (Slot.told d) s)).slot i = ((s.slot i).told d).took new s.stamp := by
    rw [changeSlot_slot size (by rw [told]; exact ne), told]
    rfl
  have faulted (ne : (s.slot i).state ≠ .fault) : (enterFault i (onSlot i (Slot.told d) s)).slot i =
      (((s.slot i).told d).took .fault s.stamp).faulted := by
    rw [enterFault_slot size (by rw [told]; exact ne), told]
    rfl
  rw [takeStatus_eq d fitted present]
  cases counting : countingFault s d with
  | true =>
    cases state : (s.slot i).state with
    | absent => exact absurd state present
    | standby | starting | running =>
      simp only [if_true, faulted (by rw [state]; decide)]
      simp [Slot.faulted, Slot.took, Slot.told, SlotState.after]
    | fault =>
      simp only [if_true, onSlot_slot _ _ _ size, told]
      simp [Slot.told, SlotState.after, state]
    | lockout => simp [told, Slot.told, SlotState.after, state]
  | false =>
    cases state : (s.slot i).state with
    | absent => exact absurd state present
    | starting =>
      cases runs : d.running with
      | true =>
        have slot : (swapIncomingRuns i (changeSlot i .running (onSlot i (Slot.told d) s))).slot i = _ :=
          changed .running (by rw [state]; decide)
        simp only [Bool.false_eq_true, if_false, if_true, slot]
        simp [Slot.took, Slot.told, SlotState.after]
      | false => simp [told, Slot.told, SlotState.after, state]
    | running =>
      cases runs : d.running with
      | true => simp [told, Slot.told, SlotState.after, state]
      | false =>
        have slot : (swapIncomingFalls i (changeSlot i .starting (onSlot i (Slot.told d) s))).slot i = _ :=
          changed .starting (by rw [state]; decide)
        simp only [Bool.false_eq_true, if_false, slot]
        simp [Slot.took, Slot.told, SlotState.after]
    | standby | fault | lockout => simp [told, Slot.told, SlotState.after, state]

theorem takeStatus_slot_ne {i j : Nat} (d : ModuleData) (s : State) (ne : j ≠ i) :
    (takeStatus i d s).slot j = s.slot j := by
  have told (f : Slot → Slot) (u : State) : (onSlot i f u).slot j = u.slot j := onSlot_slot_ne _ _ _ _ ne
  have changed (new : SlotState) : (changeSlot i new (onSlot i (Slot.told d) s)).slot j = s.slot j := by
    rw [changeSlot_slot_ne _ _ ne, told]
  by_cases ignored : s.rect.fitted ≤ i ∨ (s.slot i).state = .absent
  · rw [takeStatus_ignored d ignored]
  · obtain ⟨fitted, present⟩ := not_or.1 ignored
    rw [takeStatus_eq d (Nat.lt_of_not_le fitted) present]
    split
    · split
      case h_1 | h_2 | h_3 => rw [enterFault_slot_ne _ ne, told]
      case h_4 => rw [told, told]
      all_goals exact told _ _
    · split
      case h_1 => split; exacts [changed .running, told _ _]
      case h_2 => split; exacts [told _ _, changed .starting]
      all_goals exact told _ _

/-! ## Presence (R101) -/

@[simp] theorem reportLost_slot (s : State) : (reportLost s).slot = s.slot := slot_congr (by simp)

@[simp] theorem reportBusFail_slot (s : State) : (reportBusFail s).slot = s.slot := slot_congr (by simp)

/-- R101: a slot answers, or does not. -/
def Slot.heard (a : Answering) (x : Slot) : Slot := { x with answering := a }

/-- R101: a slot that is lost becomes ABSENT, unless it is in LOCKOUT. -/
theorem takeLost_eq (i : Nat) (s : State) : takeLost i s =
    let u := onSlot i (Slot.heard .no) s
    reportLost (if (u.slot i).state = .absent ∨ (u.slot i).state = .lockout then u
      else leaveSwap i (changeSlot i .absent u)) := by
  refine congrArg reportLost ?_
  split
  case h_5 absent => exact (if_pos (Or.inl absent)).symm
  case h_6 lockout => exact (if_pos (Or.inr lockout)).symm
  all_goals
    next other =>
      refine (if_neg fun kept => ?_).symm
      rcases kept with absent | lockout
      · exact SlotState.noConfusion (other.symm.trans absent)
      · exact SlotState.noConfusion (other.symm.trans lockout)

theorem takeLost_slot {i : Nat} {s : State} (hi : i < s.rect.slots.length) :
    ((takeLost i s).slot i).answering = .no ∧
      ((takeLost i s).slot i).state = if (s.slot i).state = .lockout then .lockout else .absent := by
  have heard : (onSlot i (Slot.heard .no) s).slot i = (s.slot i).heard .no := onSlot_slot _ _ _ hi
  have size : i < (onSlot i (Slot.heard .no) s).rect.slots.length := by simpa using hi
  rw [takeLost_eq, reportLost_slot]
  split
  · next stays =>
    rw [heard] at stays ⊢
    rcases stays with absent | lockout
    · exact ⟨rfl, by simp [show (s.slot i).state = .absent from absent, absent]⟩
    · exact ⟨rfl, by simp [show (s.slot i).state = .lockout from lockout, lockout]⟩
  · next leaves =>
    obtain ⟨present, unlocked⟩ := not_or.1 leaves
    rw [leaveSwap_slot, changeSlot_slot size present, heard]
    rw [heard] at unlocked
    exact ⟨rfl, (if_neg (show (s.slot i).state ≠ .lockout from unlocked)).symm⟩

theorem takeLost_slot_ne {i j : Nat} (s : State) (ne : j ≠ i) : (takeLost i s).slot j = s.slot j := by
  rw [takeLost_eq, reportLost_slot]
  split
  · exact onSlot_slot_ne _ _ _ _ ne
  · rw [leaveSwap_slot, changeSlot_slot_ne _ _ ne, onSlot_slot_ne _ _ _ _ ne]

theorem takeFound_slot {i : Nat} {s : State} (hi : i < s.rect.slots.length) :
    ((takeFound i s).slot i).answering = .yes ∧ ((takeFound i s).slot i).data = (s.slot i).data ∧
      ((takeFound i s).slot i).state = if (s.slot i).state = .absent then .standby else (s.slot i).state := by
  have heard : (onSlot i (Slot.heard .yes) s).slot i = (s.slot i).heard .yes := onSlot_slot _ _ _ hi
  have size : i < (onSlot i (Slot.heard .yes) s).rect.slots.length := by simpa using hi
  have found : takeFound i s = reportLost (if ((onSlot i (Slot.heard .yes) s).slot i).state = .absent then
      changeSlot i .standby (onSlot i (Slot.heard .yes) s) else onSlot i (Slot.heard .yes) s) := rfl
  have state : ((s.slot i).heard .yes).state = (s.slot i).state := rfl
  rw [found, reportLost_slot, heard, state]
  split
  · next absent =>
    rw [changeSlot_slot size (by rw [heard, state, absent]; decide), heard]
    exact ⟨rfl, rfl, rfl⟩
  · rw [heard]
    exact ⟨rfl, rfl, rfl⟩

theorem takeFound_slot_ne {i j : Nat} (s : State) (ne : j ≠ i) : (takeFound i s).slot j = s.slot j := by
  unfold takeFound
  dsimp only
  rw [reportLost_slot]
  split
  · rw [changeSlot_slot_ne _ _ ne, onSlot_slot_ne _ _ _ _ ne]
  · exact onSlot_slot_ne _ _ _ _ ne

/-! ## The exchange judged (R121 to R123) -/

/-- R122, R123: the second good reply in a row is one that finds the module. -/
theorem good_heard_iff {l : LinkRec} (unheard : l.state ≠ .heard) : l.good.state = .heard ↔ 1 ≤ l.goods := by
  have heard : l.good = if 2 ≤ l.goods + 1 then { l with state := .heard, misses := 0, goods := 0 }
      else { l with misses := 0, goods := l.goods + 1 } := by
    cases state : l.state with
    | heard => exact absurd state unheard
    | unheard | lost => simp [LinkRec.good, state]
  rw [heard]
  split
  · simp; omega
  · simp [unheard]; omega

/-- R122: the third miss in a row loses it. -/
theorem miss_lost_iff {l : LinkRec} (known : l.state ≠ .lost) : l.miss.state = .lost ↔ 2 ≤ l.misses := by
  unfold LinkRec.miss
  dsimp only
  split
  · simp; omega
  · simp [known]; omega

/-- The slots after a TURNAROUND are those of the judged exchange. -/
theorem turnaroundEnds_slot {s : State} {l : LinkRec} (phase : s.bus.exchange.phase = .turnaround)
    (orphan : s.bus.exchange.orphan = false) (link : s.linkRec s.bus.exchange.slot = some l) :
    (turnaroundEnds s).slot =
      (if s.bus.exchange.good then handGood s.bus.exchange l (setLink s.bus.exchange.slot l.good s)
        else handMiss s.bus.exchange l (setLink s.bus.exchange.slot l.miss s)).slot := by
  have judged : judgeExchange s.bus.exchange s =
      if s.bus.exchange.good then handGood s.bus.exchange l (setLink s.bus.exchange.slot l.good s)
      else handMiss s.bus.exchange l (setLink s.bus.exchange.slot l.miss s) := by
    simp [judgeExchange, orphan, link]
  rw [← judged, turnaroundEnds, if_pos phase]
  dsimp only
  exact slot_congr (by split <;> simp)

theorem handGood_slot_ne {e : Exchange} {l : LinkRec} {j : Nat} (s : State) (ne : j ≠ e.slot) :
    (handGood e l s).slot j = s.slot j := by
  unfold handGood
  (repeat' split)
  · rfl
  · exact takeStatus_slot_ne _ s ne
  · rw [reportBusFail_slot]
    exact takeFound_slot_ne s ne
  · rfl

theorem handMiss_slot_ne {e : Exchange} {l : LinkRec} {j : Nat} (s : State) (ne : j ≠ e.slot) :
    (handMiss e l s).slot j = s.slot j := by
  unfold handMiss
  split
  · rw [reportBusFail_slot]
    exact takeLost_slot_ne s ne
  · rfl

end Sys2Proof.Machine

open Sys2Proof Sys2Proof.Machine

/-- Settles O36: a good reply is a status or finds the module, a bad one may lose it, and none moves another slot. -/
theorem repliesMoveTheirSlot : Obligations.RepliesMoveTheirSlot := by
  intro l s on placed e x phase orphan link
  have hi : e.slot < s.rect.slots.length := by
    rw [placed.size]
    exact placed.lt_of_link link
  have slot := turnaroundEnds_slot phase orphan link
  refine ⟨turnaroundEnds s, whenPowered_on s _ on, fun j _ ne => ?_, fun good heard ready fitted present => ?_,
    fun good heard ignored => ?_, fun good unheard second => ?_, fun good unheard first => ?_,
    fun bad known third => ?_, fun bad h => ?_⟩
  · rw [slot]
    split
    · exact handGood_slot_ne _ ne
    · exact handMiss_slot_ne _ ne
  · rw [slot, if_pos good, handGood, if_pos heard, if_neg (by simp [e, ready])]
    obtain ⟨data, answering, state⟩ := takeStatus_slot (s := setLink e.slot l.good s) e.status hi fitted present
    exact ⟨data, answering, state⟩
  · rw [slot, if_pos good, handGood, if_pos heard]
    split
    · rfl
    · next ready =>
      rw [takeStatus_ignored (s := setLink e.slot l.good s) _ (ignored.resolve_left ready)]
      rfl
  · rw [slot, if_pos good, handGood, if_neg unheard, if_pos ((good_heard_iff unheard).2 second), reportBusFail_slot]
    exact takeFound_slot (s := setLink e.slot l.good s) hi
  · rw [slot, if_pos good, handGood, if_neg unheard, if_neg fun heard => ?_]
    · rfl
    · have second := (good_heard_iff unheard).1 heard
      omega
  · rw [slot, if_neg (by simp [e, bad]), handMiss, if_pos ⟨known, (miss_lost_iff known).2 third⟩, reportBusFail_slot]
    exact takeLost_slot (s := setLink e.slot l.miss s) hi
  · rw [slot, if_neg (by simp [e, bad]), handMiss, if_neg]
    · rfl
    · rintro ⟨known, lost⟩
      have third := (miss_lost_iff known).1 lost
      rcases h with h | h
      · exact known h
      · omega
end

section
/-! SUPPORT. The rules of a slot that leaves the lists and of a swap it ends (R87, R88, R95, R98, R102, R108, R109). -/

namespace Sys2Proof.Machine

/-! ## Room in the notice queue (R173) -/

theorem post_notices_le (kind : NoticeKind) (subject value : Nat) (s : State) :
    (post kind subject value s).alarm.notices.length ≤ s.alarm.notices.length + 1 := by
  by_cases room : s.alarm.notices.length < 32
  · rw [post_room _ _ _ _ room]
    simp
  · rw [post_full _ _ _ _ room]
    simp

/-- A notice that finds room is in the queue. -/
theorem post_mem_room {kind : NoticeKind} {subject value : Nat} {s : State} (room : s.alarm.notices.length < 32) :
    { kind := kind, subject := subject, value := value, time := s.stamp } ∈ (post kind subject value s).alarm.notices := by
  rw [post_room _ _ _ _ room]
  simp

theorem changeRecord_notices_le (c : Nat) (r : AlarmRec) (s : State) :
    (changeRecord c r s).alarm.notices.length ≤ s.alarm.notices.length + 1 :=
  post_notices_le .alarmChange c r.state.code (s.onAlarm fun a => a.write c { r with lastChange := some s.stamp })

theorem settle_notices_le (c : Nat) (s : State) :
    (settle c s).alarm.notices.length ≤ s.alarm.notices.length + 1 := by
  rcases settle_cases c s with h | ⟨-, -, h⟩ | ⟨-, -, h⟩ <;> rw [h]
  · exact Nat.le_succ _
  · exact changeRecord_notices_le _ _ s
  · exact changeRecord_notices_le _ _ s

/-- A report posts at most one notice. -/
theorem report_notices_le (c : Nat) (v : Bool) (s : State) :
    (report c v s).alarm.notices.length ≤ s.alarm.notices.length + 1 :=
  settle_notices_le c _

/-! ## Slots in FAULT (R102) -/

theorem reportFaults_notices_le (s : State) : (reportFaults s).alarm.notices.length ≤ s.alarm.notices.length + 2 := by
  have first := report_notices_le alRectFail (faultCount s == 1) s
  have second := report_notices_le alRectMultiFail (decide (2 ≤ faultCount s)) (report alRectFail (faultCount s == 1) s)
  exact second.trans (Nat.add_le_add_right first 1)

theorem faultCount_congr {s t : State} (fitted : t.rect.fitted = s.rect.fitted)
    (state : ∀ i, (t.slot i).state = (s.slot i).state) : faultCount t = faultCount s := by
  simp [faultCount, State.fittedSlots, fitted, state]

theorem faultCount_rect {s t : State} (rect : t.rect = s.rect) : faultCount t = faultCount s :=
  faultCount_congr (by rw [rect]) fun i => by rw [slot_congr (congrArg Rect.slots rect)]

/-- RECT_FAIL and RECT_MULTI_FAIL say how many fitted slots are in FAULT. -/
def FaultsReported (s : State) : Prop :=
  (s.record 16).cond = (faultCount s == 1) ∧ (s.record 17).cond = decide (2 ≤ faultCount s)

theorem reportFaults_reported {s : State} (records : s.alarm.records.length = 40) : FaultsReported (reportFaults s) := by
  generalize first : report alRectFail (faultCount s == 1) s = u
  have fails : (u.record 16).cond = (faultCount s == 1) := by
    rw [← first]
    exact report_cond 16 _ s (by omega)
  have room : 17 < u.alarm.records.length := by
    rw [← first, report_length]
    omega
  have reported : reportFaults s = report 17 (decide (2 ≤ faultCount s)) u := by rw [← first]; rfl
  rw [FaultsReported, faultCount_rect (reportFaults_rect s), reported]
  exact ⟨by rw [report_record_ne 17 16 _ _ (by decide), fails], report_cond 17 _ u room⟩

/-! ## A slot's change of state (R87, R95) -/

theorem changeSlot_rows (i : Nat) (new : SlotState) (s : State) :
    (changeSlot i new s).alarm.records.length = s.alarm.records.length := (changeSlot_stands i new s).length

theorem limit_alarm (n : Nat) (u : State) : (if u.nRun = n then u else recomputeIm u).alarm = u.alarm := by
  split <;> rfl

theorem changeSlot_notices_le (i : Nat) (new : SlotState) (s : State) :
    (changeSlot i new s).alarm.notices.length ≤ s.alarm.notices.length + 2 := by
  unfold changeSlot
  split
  · omega
  · refine (reportFaults_notices_le _).trans (le_of_eq ?_)
    rw [limit_alarm]
    rfl

theorem changeSlot_reported {i : Nat} {new : SlotState} {s : State} (records : s.alarm.records.length = 40)
    (ne : (s.slot i).state ≠ new) : FaultsReported (changeSlot i new s) := by
  unfold changeSlot
  rw [if_neg ne]
  refine reportFaults_reported ?_
  rw [limit_alarm]
  exact records

/-- Im is formed again when n_run changes. -/
theorem changeSlot_limit {i : Nat} {new : SlotState} {s : State} (ne : (s.slot i).state ≠ new) :
    (changeSlot i new s).rect.im =
      if (changeSlot i new s).nRun = s.nRun then s.rect.im else (changeSlot i new s).moduleLimit := by
  have formed (u : State) (im : u.rect.im = s.rect.im) :
      (reportFaults (if u.nRun = s.nRun then u else recomputeIm u)).rect.im =
        if (reportFaults (if u.nRun = s.nRun then u else recomputeIm u)).nRun = s.nRun then s.rect.im
        else (reportFaults (if u.nRun = s.nRun then u else recomputeIm u)).moduleLimit := by
    by_cases same : u.nRun = s.nRun
    · have nRun : (reportFaults u).nRun = s.nRun := by rw [State.nRun, reportFaults_rect]; exact same
      rw [if_pos same, if_pos nRun, reportFaults_rect, im]
    · have nRun : (reportFaults (recomputeIm u)).nRun ≠ s.nRun := by rw [State.nRun, reportFaults_rect]; exact same
      rw [if_neg same, if_neg nRun, reportFaults_rect]
      exact (moduleLimit_congr (by simp) (by simp) (by simp) (by simp) (by simp)).symm
  rw [changeSlot, if_neg ne]
  exact formed _ rfl

/-- R87, R88: a slot that takes a state of neither list, or STANDBY, has left the lists. -/
theorem changeSlot_took {i : Nat} {new : SlotState} {s : State} (placed : s.RosterPlaced)
    (records : s.alarm.records.length = 40) (hi : i < 12) (ne : (s.slot i).state ≠ new)
    (off : new.commanded = false) : SlotTook i new s (changeSlot i new s) := by
  have rect := changeSlot_rect i new s ne
  refine ⟨?_, fun j _ apart => changeSlot_slot_ne new s apart, ?_, ?_, changeSlot_limit ne, changeSlot_reported records ne, ?_⟩
  · rw [changeSlot_slot (by rw [placed.size]; exact hi) ne]
    rfl
  · rw [rect]
    simp [placeRunning, off]
  · rw [rect]
    by_cases standby : new = .standby
    · have notIn : i ∉ s.rect.queue := fun mem => ne ((placed.mem_queue.1 mem).2.trans standby.symm)
      simp [placeQueue, standby, List.erase_of_not_mem notIn, queueInsert_eq]
    · simp [placeQueue, standby]
  · rw [rect]
    exact ⟨rfl, rfl, rfl, rfl, rfl, rfl⟩

/-- What leaves the slots but for the fault count of slot `i`, and of the rest of the scheduler writes the swap and what
ends with it only, leaves what a slot has taken. -/
theorem SlotTook.onward {i : Nat} {new : SlotState} {s t u : State} (took : SlotTook i new s t)
    (slot : u.slot i = { t.slot i with faults := (u.slot i).faults }) (others : ∀ j, j ≠ i → u.slot j = t.slot j)
    (rect : u.rect = { t.rect with
      slots := u.rect.slots, swap := u.rect.swap, lastSwap := u.rect.lastSwap, rotation := u.rect.rotation
      rotationRequest := u.rect.rotationRequest, requestFreed := u.rect.requestFreed })
    (record : u.record = t.record) (kept : u.charge = t.charge ∧ u.meas = t.meas ∧ u.store = t.store) :
    SlotTook i new s u := by
  obtain ⟨charge, meas, store⟩ := kept
  have running : u.rect.running = t.rect.running := by rw [rect]
  have nRun : u.nRun = t.nRun := by rw [State.nRun, State.nRun, running]
  have limit : u.moduleLimit = t.moduleLimit := moduleLimit_congr (by rw [charge]) (by rw [charge]) running meas store
  have count : faultCount u = faultCount t := faultCount_congr (by rw [rect]) fun j => by
    by_cases same : j = i
    · rw [same, slot]
    · rw [others j same]
  refine ⟨?_, fun j hj apart => (others j apart).trans (took.others j hj apart), running.trans took.running, ?_, ?_, ?_, ?_⟩
  · rw [slot, took.slot]
  · rw [rect]
    exact took.queue
  · rw [nRun, limit, ← took.limit, rect]
  · rw [record, count]
    exact took.conditions
  · rw [rect]
    exact took.counts

/-! ## A swap left (R108, R109) -/

theorem endSwap_record (outcome : SwapOutcome) (s : State) : (endSwap outcome s).record = s.record :=
  funext fun c => (endSwap_stands [] outcome s).record c List.not_mem_nil

/-- The end of a swap posts its notice where there is room. -/
theorem endSwap_posts {s : State} {w : Swap} (outcome : SwapOutcome) (swap : s.rect.swap = some w)
    (room : s.alarm.notices.length < 32) :
    { kind := .rotation, subject := w.incoming, value := outcome.code, time := s.stamp } ∈
      (endSwap outcome s).alarm.notices := by
  unfold endSwap
  rw [swap]
  exact post_mem_room (s := s.onRect _) room

theorem leaveSwap_record (i : Nat) (s : State) : (leaveSwap i s).record = s.record := by
  rcases leaveSwap_cases i s with ⟨h, -⟩ | ⟨w, -, -, h⟩ <;> rw [h]
  exact endSwap_record _ s

@[simp] theorem leaveSwap_parts (i : Nat) (s : State) :
    (leaveSwap i s).charge = s.charge ∧ (leaveSwap i s).meas = s.meas ∧ (leaveSwap i s).store = s.store := by
  simp

/-- Leaving a swap writes of the scheduler what the end of a swap writes. -/
theorem leaveSwap_rect (i : Nat) (s : State) : (leaveSwap i s).rect = { s.rect with
    slots := (leaveSwap i s).rect.slots, swap := (leaveSwap i s).rect.swap, lastSwap := (leaveSwap i s).rect.lastSwap
    rotation := (leaveSwap i s).rect.rotation, rotationRequest := (leaveSwap i s).rect.rotationRequest
    requestFreed := (leaveSwap i s).rect.requestFreed } := by
  rcases leaveSwap_cases i s with ⟨h, -⟩ | ⟨w, swap, -, h⟩ <;> rw [h]
  rw [endSwap_rect _ swap]
  rfl

theorem SlotTook.leave {i : Nat} {new : SlotState} {s t : State} (took : SlotTook i new s t) :
    SlotTook i new s (leaveSwap i t) :=
  took.onward (by rw [leaveSwap_slot]) (fun j _ => by rw [leaveSwap_slot]) (leaveSwap_rect i t) (leaveSwap_record i t)
    (leaveSwap_parts i t)

/-- What the scheduler holds of a swap: the record, the last one, the rotation counter and the request. -/
def Rect.rotationParts (r : Rect) : Option Swap × Option LastSwap × Nat × Bool × Bool :=
  (r.swap, r.lastSwap, r.rotation, r.rotationRequest, r.requestFreed)

/-- R109, told of the state before the slot's change. -/
theorem leaveSwap_left {i : Nat} {s t : State} (parts : t.rect.rotationParts = s.rect.rotationParts)
    (stamp : t.stamp = s.stamp) (notices : t.alarm.notices.length ≤ s.alarm.notices.length + 2) :
    SwapLeft i s (leaveSwap i t) := by
  obtain ⟨swap, lastSwap, rotation, request, freed⟩ : t.rect.swap = s.rect.swap ∧ t.rect.lastSwap = s.rect.lastSwap ∧
      t.rect.rotation = s.rect.rotation ∧ t.rect.rotationRequest = s.rect.rotationRequest ∧
      t.rect.requestFreed = s.rect.requestFreed := by simpa [Rect.rotationParts] using parts
  refine ⟨by rw [leaveSwap_swap, swap], fun w held member => ?_, fun apart => ?_⟩
  · rcases leaveSwap_cases i t with ⟨-, stays⟩ | ⟨x, held', -, ends⟩
    · obtain ⟨incoming, outgoing⟩ := stays w (swap.trans held)
      exact absurd member (not_or.2 ⟨incoming, outgoing⟩)
    · obtain rfl : x = w := Option.some.inj (held'.symm.trans (swap.trans held))
      rw [ends, endSwap_rect _ held', stamp, Rect.swapEnded]
      by_cases incoming : x.incoming = i
      · simp only [if_pos incoming]
        exact ⟨trivial, rotation, trivial, trivial, fun room => stamp ▸ endSwap_posts _ held' (by omega)⟩
      · simp only [if_neg incoming]
        exact ⟨trivial, rfl, trivial, trivial, fun room => stamp ▸ endSwap_posts _ held' (by omega)⟩
  · rcases leaveSwap_cases i t with ⟨stays, -⟩ | ⟨x, held, member, -⟩
    · rw [stays]
      exact ⟨lastSwap, rotation, request, freed⟩
    · rw [← swap, held] at apart
      simp at apart
      exact absurd member (not_or.2 apart)

theorem changeSlot_rotationParts (i : Nat) (new : SlotState) (s : State) :
    (changeSlot i new s).rect.rotationParts = s.rect.rotationParts := by
  by_cases same : (s.slot i).state = new
  · rw [changeSlot_same i new s same]
  · rw [changeSlot_rect i new s same]
    rfl

theorem changeSlot_left {i : Nat} {new : SlotState} {s : State} : SwapLeft i s (leaveSwap i (changeSlot i new s)) :=
  leaveSwap_left (changeSlot_rotationParts i new s) (by simp [State.stamp]) (changeSlot_notices_le i new s)

end Sys2Proof.Machine
end

section
/-! SUPPORT and the statement about the slots that leave the lists and return to them (R87, R88, R98 to R100, R102 to R104,
R109). -/

namespace Sys2Proof.Machine

/-! ## What only the scheduler and the alarm unit see -/

theorem changeSlot_eq (i : Nat) (new : SlotState) (s : State) : changeSlot i new s =
    { s with rect := (changeSlot i new s).rect, alarm := (changeSlot i new s).alarm } := by
  apply State.ext_parts <;> simp

theorem leaveSwap_changeSlot_eq (i : Nat) (new : SlotState) (s : State) : leaveSwap i (changeSlot i new s) =
    { s with
      rect := (leaveSwap i (changeSlot i new s)).rect, alarm := (leaveSwap i (changeSlot i new s)).alarm } := by
  apply State.ext_parts <;> simp

theorem enterFault_state_eq (i : Nat) (s : State) :
    enterFault i s = { s with rect := (enterFault i s).rect, alarm := (enterFault i s).alarm } := by
  apply State.ext_parts <;> simp

/-! ## A slot in FAULT (R98, R99) -/

theorem faulted_eq (x : Slot) : x.faulted = { x with faults := x.faulted.faults } := rfl

/-- R98: entering FAULT is taking its state, with one fault more, and leaving the swap. -/
theorem enterFault_took {i : Nat} {s : State} (placed : s.RosterPlaced) (records : s.alarm.records.length = 40)
    (hi : i < 12) (ne : (s.slot i).state ≠ .fault) : SlotTook i .fault s (enterFault i s) := by
  have size : i < (changeSlot i .fault s).rect.slots.length := by rw [changeSlot_length, placed.size]; exact hi
  have slot := onSlot_slot i Slot.faulted (changeSlot i .fault s) size
  have faulted : SlotTook i .fault s (onSlot i Slot.faulted (changeSlot i .fault s)) :=
    (changeSlot_took placed records hi ne rfl).onward (by rw [slot, faulted_eq])
      (fun j apart => onSlot_slot_ne _ _ _ _ apart) rfl rfl ⟨rfl, rfl, rfl⟩
  exact faulted.leave

theorem enterFault_left (i : Nat) (s : State) : SwapLeft i s (enterFault i s) :=
  leaveSwap_left (t := onSlot i Slot.faulted (changeSlot i .fault s)) (changeSlot_rotationParts i .fault s)
    (by simp [State.stamp]) (changeSlot_notices_le i .fault s)

/-! ## Answered (R199) -/

/-- What moves the scheduler and the alarm unit only, and is answered. -/
theorem answered_eq (kind : Byte) (a : Answer) {s t : State}
    (moved : t = { s with rect := t.rect, alarm := t.alarm }) : holdAnswer kind a t =
      { s with rect := t.rect, alarm := t.alarm, link := (holdAnswer kind a s).link } := by
  rw [moved]
  rfl

end Sys2Proof.Machine

open Sys2Proof Sys2Proof.Machine

/-- Settles O32: each of the four is a change of the slot's state, a start timeout with one fault more, and the two that
leave the plant end the swap. -/
theorem slotsLeaveAndReturn : Obligations.SlotsLeaveAndReturn := by
  intro i b s on records placed kept
  have changed (n : Nat) (new : SlotState) : kept (changeSlot n new s) := changeSlot_rotationParts n new s
  have size {n : Nat} (h : n < 12) : n < s.rect.slots.length := by rw [placed.size]; exact h
  have faults {n : Nat} (h : n < 12) {new : SlotState} (ne : (s.slot n).state ≠ new) :
      ((changeSlot n new s).slot n).faults = (s.slot n).faults := by
    rw [changeSlot_slot (size h) ne]
    rfl
  have lockoutRuns {t : State} {a : Answer} (hears : s.hears = true) (served : serveLockout b.toNat s = (t, a)) :
      exec (.rectifierLockout b) s = .next (holdAnswer 0x2C#8 a t) :=
    onRequest_serves (i := .rectifierLockout b) on hears served
  have restoreRuns {t : State} {a : Answer} (hears : s.hears = true) (served : serveRestore b.toNat s = (t, a)) :
      exec (.rectifierRestore b) s = .next (holdAnswer 0x2D#8 a t) :=
    onRequest_serves (i := .rectifierRestore b) on hears served
  refine ⟨fun starting late => ?_, fun other => ?_, fun d data fault sound late => ?_, fun other => ?_,
    fun hears unfitted => ?_, fun hears fitted inside => ⟨fun locked => ?_, fun unlocked => ?_⟩⟩
  · have ne : (s.slot i).state ≠ .fault := by rw [starting]; decide
    refine ⟨enterFault i s, onExpiry_due s _ _ on ?_, enterFault_took placed records i.isLt ne, enterFault_left i s, ?_,
      enterFault_state_eq i s⟩
    · simp [startDue, starting, due_iff, late]
    · rw [enterFault_slot (size i.isLt) ne]
      rfl
  · exact onExpiry_early s _ _ (by simp [startDue, other])
  · have ne : (s.slot i).state ≠ .standby := by rw [fault]; decide
    refine ⟨changeSlot i .standby s, onExpiry_due s _ _ on ?_, changeSlot_took placed records i.isLt ne rfl,
      faults i.isLt ne, changed i .standby, changeSlot_eq i .standby s⟩
    simp [recoveryDue, fault, data, sound, due_iff, late]
  · refine onExpiry_early s _ _ ?_
    rcases other with other | none_
    · simp [recoveryDue, other]
    · simp [recoveryDue, none_]
  · have outside : s.rect.fitted ≤ b.toNat ∨ 11 < b.toNat := unfitted
    exact ⟨lockoutRuns hears (if_pos outside), restoreRuns hears (if_pos outside)⟩
  · have lockoutServed : serveLockout b.toNat s = (s, .ok) := by
      rw [serveLockout, if_neg (by omega), if_pos locked]
    have restoreServed : serveRestore b.toNat s =
        (changeSlot b.toNat (if (s.slot b.toNat).answering = .yes then .standby else .absent) s, .ok) := by
      rw [serveRestore, if_neg (by omega), if_pos locked]
    have off : (if (s.slot b.toNat).answering = .yes then SlotState.standby else .absent).commanded = false := by
      split <;> rfl
    have ne : (s.slot b.toNat).state ≠ if (s.slot b.toNat).answering = .yes then .standby else .absent := by
      rw [locked]
      split <;> decide
    generalize (if (s.slot b.toNat).answering = .yes then SlotState.standby else .absent) = new at *
    have took := changeSlot_took placed records (by omega) ne off
    exact ⟨lockoutRuns hears lockoutServed, _, restoreRuns hears restoreServed,
      took.onward rfl (fun _ _ => rfl) rfl rfl ⟨rfl, rfl, rfl⟩, faults (by omega) ne, changed _ _,
      answered_eq 0x2D#8 .ok (changeSlot_eq _ _ s)⟩
  · have restoreServed : serveRestore b.toNat s = (s, .refuse .refusedState) := by
      rw [serveRestore, if_neg (by omega), if_neg unlocked]
    have lockoutServed : serveLockout b.toNat s = (leaveSwap b.toNat (changeSlot b.toNat .lockout s), .ok) := by
      rw [serveLockout, if_neg (by omega), if_neg unlocked]
    have took := (changeSlot_took placed records (i := b.toNat) (by omega) unlocked rfl).leave
    have left : SwapLeft b.toNat s (leaveSwap b.toNat (changeSlot b.toNat .lockout s)) := changeSlot_left
    refine ⟨restoreRuns hears restoreServed, _, lockoutRuns hears lockoutServed,
      took.onward rfl (fun _ _ => rfl) rfl rfl ⟨rfl, rfl, rfl⟩, ⟨left.swap, left.ended, left.stands⟩, ?_,
      answered_eq 0x2C#8 .ok (leaveSwap_changeSlot_eq _ _ s)⟩
    exact (congrArg (fun f => (f b.toNat).faults) (leaveSwap_slot _ _)).trans (faults (by omega) unlocked)
end

section
/-! SUPPORT and the statement about the rotations (R93, R106 to R108, R110): what begins a swap and what ends its
overlap. -/

namespace Sys2Proof.Machine

/-! ## The module counts (R91) -/

theorem capped_congr {s t : State} (gen : t.gen = s.gen) (store : t.store = s.store) (n : Nat) :
    t.capped n = s.capped n := by
  simp [State.capped, State.online, State.nGen, State.now, gen, store]

theorem nUp_congr {s t : State} (gen : t.gen = s.gen) (store : t.store = s.store)
    (formed : t.rect.upFormed = s.rect.upFormed) : t.nUp = s.nUp := by
  rw [State.nUp, State.nUp, formed, capped_congr gen store]

theorem nDown_congr {s t : State} (gen : t.gen = s.gen) (store : t.store = s.store)
    (formed : t.rect.downFormed = s.rect.downFormed) : t.nDown = s.nDown := by
  rw [State.nDown, State.nDown, formed, capped_congr gen store]

/-- The counts that swaps leave, with the roster's size (R93, R108). -/
def State.countParts (s : State) : Nat × Nat × Nat × Nat := (s.nUp, s.nDown, s.rect.settle, s.rect.fitted)

theorem countParts_congr {s t : State} (gen : t.gen = s.gen) (store : t.store = s.store)
    (rect : t.rect.upFormed = s.rect.upFormed ∧ t.rect.downFormed = s.rect.downFormed ∧
      t.rect.settle = s.rect.settle ∧ t.rect.fitted = s.rect.fitted) : t.countParts = s.countParts := by
  obtain ⟨up, down, settle, fitted⟩ := rect
  rw [State.countParts, nUp_congr gen store up, nDown_congr gen store down, settle, fitted]
  rfl

/-! ## A STANDBY slot started (R92) -/

/-- No slot of the running list stands in STANDBY. -/
theorem State.RosterPlaced.ne_standby {s : State} (placed : s.RosterPlaced) {i : Nat} (mem : i ∈ s.rect.running) :
    (s.slot i).state ≠ .standby := fun standby => by
  have commanded := (placed.mem_running.1 mem).2
  rw [standby] at commanded
  exact Bool.noConfusion commanded

/-- R87, R88, R95: what the scheduler holds once the STANDBY slot `i` has been started. -/
theorem changeSlot_started {i : Nat} {s : State} (placed : s.RosterPlaced) (standby : (s.slot i).state = .standby) :
    (changeSlot i .starting s).rect = { s.rect with
      slots := s.rect.slots.modify i (Slot.took .starting s.stamp), running := s.rect.running ++ [i]
      queue := s.rect.queue.erase i, im := (changeSlot i .starting s).moduleLimit } := by
  have ne : (s.slot i).state ≠ .starting := by rw [standby]; decide
  have notIn : i ∉ s.rect.running := fun mem => placed.ne_standby mem standby
  have running : placeRunning i .starting s.rect.running = s.rect.running ++ [i] := by
    simp [placeRunning, SlotState.commanded, notIn]
  have rect := changeSlot_rect i .starting s ne
  have more : (changeSlot i .starting s).nRun ≠ s.nRun := by
    rw [State.nRun, rect, State.nRun, running]
    simp
  have limit := changeSlot_limit ne
  rw [if_neg more] at limit
  rw [rect, running, limit]
  rfl

theorem changeSlot_started_slot {i : Nat} {s : State} (placed : s.RosterPlaced)
    (standby : (s.slot i).state = .standby) : (changeSlot i .starting s).slot i = (s.slot i).took .starting s.stamp :=
  changeSlot_slot (by rw [placed.size]; exact placed.lt_of_state (by rw [standby]; decide)) (by rw [standby]; decide)

/-! ## A swap begins (R107) -/

/-- What the scheduler holds of a swap as it begins. -/
def Rect.swapBegun (i o : Nat) (r : Rect) : Rect :=
  { r.dropRequest with swap := some { incoming := i, outgoing := o, phase := .starting, overlap := 0 } }

theorem beginSwap_eq (i o : Nat) (s : State) : beginSwap i o s =
    (changeSlot i .starting (s.onRect (Rect.swapBegun i o))).onRect fun r => { r with spacing := 0, dwell := 0 } := rfl

theorem onRect_placed {f : Rect → Rect} {s : State} (placed : s.RosterPlaced)
    (lists : (f s.rect).slots = s.rect.slots ∧ (f s.rect).running = s.rect.running ∧ (f s.rect).queue = s.rect.queue)
    (swap : ∀ w, (f s.rect).swap = some w → w.incoming < 12 ∧ w.outgoing < 12) : (s.onRect f).RosterPlaced := by
  obtain ⟨slots, running, queue⟩ := lists
  obtain ⟨-, -, -, once, -, -, -⟩ := id placed
  exact placed.of_states (congrArg List.length slots) (fun i => by rw [slot_congr (t := s.onRect f) slots]) running
    (queue ▸ once) (fun i => by rw [← queue]; rfl) rfl swap

/-- R107: what the scheduler holds once a swap of `i` for `o` has begun. -/
theorem beginSwap_rect {i o : Nat} {s : State} (placed : s.RosterPlaced) (standby : (s.slot i).state = .standby)
    (ho : o < 12) : (beginSwap i o s).rect = { s.rect.swapBegun i o with
      slots := s.rect.slots.modify i (Slot.took .starting s.stamp), running := s.rect.running ++ [i]
      queue := s.rect.queue.erase i, im := (beginSwap i o s).moduleLimit, spacing := 0, dwell := 0 } := by
  have hi : i < 12 := placed.lt_of_state (by rw [standby]; decide)
  have begun : (s.onRect (Rect.swapBegun i o)).RosterPlaced := onRect_placed placed ⟨rfl, rfl, rfl⟩ fun w held => by
    obtain rfl := Option.some.inj held
    exact ⟨hi, ho⟩
  have started := changeSlot_started begun (i := i) standby
  rw [beginSwap_eq]
  exact congrArg (fun r : Rect => { r with spacing := 0, dwell := 0 }) started

theorem beginSwap_slot {i o : Nat} {s : State} (placed : s.RosterPlaced) (standby : (s.slot i).state = .standby) :
    (beginSwap i o s).slot i = (s.slot i).took .starting s.stamp ∧ ∀ j, j ≠ i → (beginSwap i o s).slot j = s.slot j := by
  have size : i < s.rect.slots.length := by
    rw [placed.size]
    exact placed.lt_of_state (by rw [standby]; decide)
  exact ⟨changeSlot_slot (s := s.onRect (Rect.swapBegun i o)) size (by rw [show (s.onRect _).slot i = s.slot i from rfl, standby]; decide),
    fun j ne => changeSlot_slot_ne (s := s.onRect (Rect.swapBegun i o)) .starting ne⟩

theorem beginSwap_state_eq (i o : Nat) (s : State) :
    beginSwap i o s = { s with rect := (beginSwap i o s).rect, alarm := (beginSwap i o s).alarm } := by
  apply State.ext_parts <;> simp [beginSwap_eq]

/-! ## The overlap runs out (R108) -/

/-- The state in which a swap that is COMPLETED ends. -/
def outgoingStopped (w : Swap) (s : State) : State :=
  (changeSlot w.outgoing .standby s).onRect fun r => { r with dwell := 0 }

theorem finishSwap_completed {w : Swap} {s : State} (swap : s.rect.swap = some w) (enough : s.nUp < s.nRun) :
    finishSwap s = endSwap .completed (outgoingStopped w s) := by
  rw [finishSwap, swap]
  exact if_pos enough

theorem outgoingStopped_swap {w : Swap} {s : State} (swap : s.rect.swap = some w) :
    (outgoingStopped w s).rect.swap = some w := (changeSlot_swap w.outgoing .standby s).trans swap

theorem finishSwap_completed_rect {w : Swap} {s : State} (swap : s.rect.swap = some w) (enough : s.nUp < s.nRun) :
    (finishSwap s).rect =
      { (changeSlot w.outgoing .standby s).rect.swapEnded w .completed s.stamp with dwell := 0 } := by
  rw [finishSwap_completed swap enough, endSwap_rect .completed (outgoingStopped_swap swap),
    show (outgoingStopped w s).stamp = s.stamp by simp [State.stamp, outgoingStopped]]
  rfl

theorem finishSwap_completed_slot {w : Swap} {s : State} (swap : s.rect.swap = some w) (enough : s.nUp < s.nRun) :
    (finishSwap s).slot = (changeSlot w.outgoing .standby s).slot := by
  rw [finishSwap_completed swap enough, endSwap_slot]
  rfl

theorem finishSwap_completed_posts {w : Swap} {s : State} (swap : s.rect.swap = some w) (enough : s.nUp < s.nRun)
    (room : s.alarm.notices.length < 30) :
    { kind := .rotation, subject := w.incoming, value := 0, time := s.stamp } ∈ (finishSwap s).alarm.notices := by
  have few := changeSlot_notices_le w.outgoing .standby s
  have posted := endSwap_posts (s := outgoingStopped w s) .completed (outgoingStopped_swap swap)
    (show (changeSlot w.outgoing .standby s).alarm.notices.length < 32 by omega)
  rw [finishSwap_completed swap enough]
  rwa [show (outgoingStopped w s).stamp = s.stamp by simp [State.stamp, outgoingStopped]] at posted

theorem finishSwap_absorbed {w : Swap} {s : State} (swap : s.rect.swap = some w) (short : s.nRun ≤ s.nUp) :
    finishSwap s = endSwap .absorbed s := by
  rw [finishSwap, swap]
  exact if_neg (by omega)

theorem finishSwap_state_eq (s : State) :
    finishSwap s = { s with rect := (finishSwap s).rect, alarm := (finishSwap s).alarm } := by
  unfold finishSwap
  split
  · rfl
  · split <;> (apply State.ext_parts <;> simp)

/-- A slot that stops, or stands already, is out of the running list. -/
theorem changeSlot_stopped_running {i : Nat} {s : State} (placed : s.RosterPlaced) :
    (changeSlot i .standby s).rect.running = s.rect.running.erase i := by
  by_cases standby : (s.slot i).state = .standby
  · have notIn : i ∉ s.rect.running := fun mem => placed.ne_standby mem standby
    rw [changeSlot_same i .standby s standby, List.erase_of_not_mem notIn]
  · exact changeSlot_standby_running standby

/-- Of the scheduler a change of a slot's state moves the slots, the two lists and Im. -/
theorem changeSlot_counts (i : Nat) (new : SlotState) (s : State) : (changeSlot i new s).rect = { s.rect with
    slots := (changeSlot i new s).rect.slots, running := (changeSlot i new s).rect.running
    queue := (changeSlot i new s).rect.queue, im := (changeSlot i new s).rect.im } := by
  by_cases same : (s.slot i).state = new
  · rw [changeSlot_same i new s same]
  · rw [changeSlot_rect i new s same]

/-- A running slot stopped: n_run and with it Im have changed. -/
theorem changeSlot_stopped_limit {i : Nat} {s : State} (placed : s.RosterPlaced) (mem : i ∈ s.rect.running) :
    (changeSlot i .standby s).rect.im = (changeSlot i .standby s).moduleLimit := by
  have ne := placed.ne_standby mem
  have fewer : (changeSlot i .standby s).nRun ≠ s.nRun := by
    rw [State.nRun, changeSlot_standby_running ne, List.length_erase_of_mem mem, State.nRun]
    have := List.length_pos_of_mem mem
    omega
  rw [changeSlot_limit ne, if_neg fewer]

/-- A running slot stopped takes its place in the queue. -/
theorem changeSlot_stopped_queue {i : Nat} {s : State} (placed : s.RosterPlaced) (mem : i ∈ s.rect.running) :
    (changeSlot i .standby s).rect.queue =
      (s.rect.queue.takeWhile fun j => !queueBefore s i j) ++ i :: s.rect.queue.dropWhile fun j => !queueBefore s i j := by
  have ne := placed.ne_standby mem
  have notIn : i ∉ s.rect.queue := fun waits => ne (placed.mem_queue.1 waits).2
  rw [changeSlot_rect i .standby s ne]
  simp [placeQueue, List.erase_of_not_mem notIn, queueInsert_eq]

end Sys2Proof.Machine

open Sys2Proof Sys2Proof.Machine

/-- Settles O33: a rotation holds the counter, a request begins a swap of the pair or is held, and an overlap that runs out
ends the swap. -/
theorem rotationsBeginAndEnd : Obligations.RotationsBeginAndEnd := by
  intro s on records placed stand
  have rotateRuns {t : State} {a : Answer} (hears : s.hears = true) (serves : serveRotateNow s = (t, a)) :
      exec .rotateNow s = .next (holdAnswer 0x2E#8 a t) := onRequest_serves (i := .rotateNow) on hears serves
  have rotationRuns : exec .rotationDue s = onExpiry s rotationReaches fun s =>
      s.onRect fun r => { r with rotation := max r.rotation (s.inForce 4 6 * 3600) } := rfl
  have overlapRuns : exec .swapOverlapExpiry s = onExpiry s overlapDue finishSwap := rfl
  refine ⟨fun ac every late => ?_, fun other => ?_, fun hears refused => ?_,
    fun p pair ac => ?_, fun w swap overlap late => ?_, fun none_ => ?_⟩
  · rw [rotationRuns, onExpiry_due s _ _ on (by simp [rotationReaches, ac, every, due_iff, late])]
    rfl
  · rw [rotationRuns]
    exact onExpiry_early s _ _ (by rcases other with other | other <;> simp [rotationReaches, other])
  · refine rotateRuns hears ?_
    rcases refused with off | none_
    · simp [serveRotateNow, off]
    · cases ac : s.sup.ac <;> simp [serveRotateNow, ac, none_]
  · obtain ⟨i, o⟩ := p
    obtain ⟨gone, head, candidate, margin, -⟩ := swapPair_some pair
    obtain ⟨mem, runs⟩ := outgoingCandidate_mem candidate
    obtain ⟨hi, standby⟩ := placed.mem_queue.1 (List.mem_of_mem_head? head)
    refine ⟨gone, head, runs, margin, fun hears held => rotateRuns hears ?_, fun hears free => ?_⟩
    · simp [serveRotateNow, ac, pair, held, State.onRect]
    · have rect := beginSwap_rect placed standby (placed.mem_running.1 mem).1
      obtain ⟨slot, others⟩ := beginSwap_slot (o := o) placed standby
      obtain ⟨rest, queue⟩ : ∃ rest, s.rect.queue = i :: rest := by
        cases q : s.rect.queue with
        | nil => simp [q] at head
        | cons j rest => exact ⟨rest, by simpa [q] using head⟩
      refine ⟨holdAnswer 0x2E#8 .ok (beginSwap i o s), rotateRuns hears (by simp [serveRotateNow, ac, pair, free]), ?_⟩
      have counts : (beginSwap i o s).countParts = s.countParts :=
        countParts_congr (by rw [beginSwap_state_eq]) (by rw [beginSwap_state_eq]) (by rw [rect]; exact ⟨rfl, rfl, rfl, rfl⟩)
      have dropped : s.rect.queue.erase i = s.rect.queue.drop 1 := by simp [queue]
      exact ⟨(congrArg Rect.swap rect :), slot, fun j _ ne => others j ne, (congrArg Rect.running rect :),
        (congrArg Rect.queue rect :).trans dropped, (congrArg Rect.spacing rect :), (congrArg Rect.dwell rect :),
        (congrArg Rect.rotationRequest rect :), (congrArg Rect.requestFreed rect :), (congrArg Rect.rotation rect :),
        (congrArg Rect.lastSwap rect :), (congrArg Rect.im rect :), counts, answered_eq _ _ (beginSwap_state_eq i o s)⟩
  · have runs : exec .swapOverlapExpiry s = .next (finishSwap s) :=
      onExpiry_due s overlapDue finishSwap on (by simp [overlapDue, swap, overlap, due_iff, late])
    obtain ⟨-, -, -, -, -, -, members⟩ := id placed
    have ho := (members w swap).2
    refine ⟨finishSwap s, runs, ?_⟩
    by_cases enough : s.nUp < s.rect.running.length
    · have rect := finishSwap_completed_rect swap enough
      have slot := finishSwap_completed_slot swap enough
      have counts := changeSlot_counts w.outgoing .standby s
      have limit : (finishSwap s).moduleLimit = (changeSlot w.outgoing .standby s).moduleLimit := by
        exact moduleLimit_congr (by simp) (by simp) (congrArg Rect.running rect :) (by simp) (by simp)
      refine ⟨(congrArg Rect.swap rect :), (congrArg Rect.rotation rect :), (congrArg Rect.rotationRequest rect :),
        (congrArg Rect.requestFreed rect :), ?_, (congrArg Rect.spacing rect :).trans (congrArg Rect.spacing counts :), ?_,
        fun j _ ne => by rw [slot, changeSlot_slot_ne _ _ ne], fun _ => ⟨?_, ?_, (congrArg Rect.dwell rect :),
          fun mem => ⟨?_, (congrArg Rect.queue rect :).trans (changeSlot_stopped_queue placed mem)⟩,
          (congrArg Rect.lastSwap rect :)⟩,
        fun short => absurd enough (Nat.not_lt.2 short), finishSwap_state_eq s⟩
      · refine countParts_congr (by rw [finishSwap_state_eq s]) (by rw [finishSwap_state_eq s]) ?_
        rw [rect]
        exact ⟨(congrArg Rect.upFormed counts :), (congrArg Rect.downFormed counts :), (congrArg Rect.settle counts :),
          (congrArg Rect.fitted counts :)⟩
      · intro room
        rw [if_pos enough]
        exact finishSwap_completed_posts swap enough room
      · rw [slot, changeSlot_state .standby (by rw [placed.size]; exact ho)]
      · exact (congrArg Rect.running rect :).trans (changeSlot_stopped_running placed)
      · rw [limit]
        exact (congrArg Rect.im rect :).trans (changeSlot_stopped_limit placed mem)
    · have short := Nat.le_of_not_lt enough
      have ended := finishSwap_absorbed swap short
      have rect := (congrArg State.rect ended).trans (endSwap_rect .absorbed swap)
      have slot : (finishSwap s).slot = s.slot := by rw [ended, endSwap_slot]
      refine ⟨(congrArg Rect.swap rect :), (congrArg Rect.rotation rect :), (congrArg Rect.rotationRequest rect :),
        (congrArg Rect.requestFreed rect :), ?_, (congrArg Rect.spacing rect :), fun room => ?_, fun j _ _ => by rw [slot],
        fun more => absurd more enough, fun _ => ⟨by rw [slot], (congrArg Rect.running rect :), (congrArg Rect.dwell rect :),
          (congrArg Rect.queue rect :), (congrArg Rect.im rect :), (congrArg Rect.lastSwap rect :)⟩, finishSwap_state_eq s⟩
      · refine countParts_congr (by rw [finishSwap_state_eq s]) (by rw [finishSwap_state_eq s]) ?_
        rw [rect]
        exact ⟨rfl, rfl, rfl, rfl⟩
      · rw [if_neg enough, ended]
        exact endSwap_posts .absorbed swap (by omega)
  · exact onExpiry_early s _ _ (by simp [overlapDue, none_])
end

section
/-! SUPPORT. The entry to STOPPING (R139 to R141, R148) and what a move of the feed leaves of the module counts (R94, R96,
R128; log 45). -/

namespace Sys2Proof.Machine

/-! ## The counts last formed (log 45) -/

/-- From `s` to `t` n_up and n_down stand as they were last formed. -/
structure FormedStand (s t : State) : Prop where
  up : t.rect.upFormed = s.rect.upFormed
  down : t.rect.downFormed = s.rect.downFormed

theorem FormedStand.of_eq {s t : State} (h : t.rect.upFormed = s.rect.upFormed ∧ t.rect.downFormed = s.rect.downFormed) :
    FormedStand s t := ⟨h.1, h.2⟩

theorem FormedStand.refl (s : State) : FormedStand s s := ⟨rfl, rfl⟩

theorem FormedStand.trans {s t u : State} (h : FormedStand s t) (k : FormedStand t u) : FormedStand s u :=
  ⟨k.up.trans h.up, k.down.trans h.down⟩

theorem FormedStand.ite {s t u : State} (p : Prop) [Decidable p] (ht : FormedStand s t) (hu : FormedStand s u) :
    FormedStand s (if p then t else u) := by
  split
  · exact ht
  · exact hu

theorem FormedStand.foldl {α : Type} (f : State → α → State) (l : List α) (s : State)
    (h : ∀ s a, FormedStand s (f s a)) : FormedStand s (l.foldl f s) := by
  induction l generalizing s with
  | nil => exact .refl s
  | cons a l ih => exact (h s a).trans (ih (f s a))

theorem ModulesKept.formedStand {s t : State} (h : ModulesKept s t) : FormedStand s t := .of_eq (by rw [h.rect]; simp)

theorem changeSlot_formedStand (i : Nat) (new : SlotState) (s : State) : FormedStand s (changeSlot i new s) :=
  .of_eq (by rw [changeSlot_counts]; simp)

theorem endSwap_formedStand (outcome : SwapOutcome) (s : State) : FormedStand s (endSwap outcome s) := by
  cases swap : s.rect.swap with
  | none => rw [endSwap_none _ _ swap]; exact .refl s
  | some w => exact .of_eq (by rw [endSwap_rect _ swap]; exact ⟨rfl, rfl⟩)

theorem stopOne_formedStand (s : State) : FormedStand s (stopOne s) := by
  rcases stopOne_cases s with h | ⟨i, -, h⟩ <;> rw [h]
  · exact .refl s
  · exact changeSlot_formedStand i .standby s

theorem trimToGen_formedStand (s : State) : FormedStand s (trimToGen s) :=
  .ite _ ((endSwap_formedStand .abandoned s).trans (.foldl _ _ _ fun s _ => stopOne_formedStand s)) (.refl s)

theorem acLost_formedStand (s : State) : FormedStand s (acLost s) :=
  ((endSwap_formedStand .abandoned s).trans
    (.foldl _ (endSwap .abandoned s).rect.running _ fun s i => changeSlot_formedStand i .standby s)).trans
    (.of_eq (by simp [acLost]))

theorem schedulerAcChange_formedStand (ac : Bool) (s : State) : FormedStand s (schedulerAcChange ac s) :=
  .ite _ (acLost_formedStand s) (.ite _ (.of_eq ⟨rfl, rfl⟩) (.refl s))

theorem feedMoved_formedStand (s : State) : FormedStand s (feedMoved s) := by
  have supervised (u : State) : FormedStand u (supervise u) := .of_eq (by simp)
  have acted (old : Sup) (u : State) : FormedStand u (actOnMode old u) :=
    (chargeActed_modules old u).formedStand.trans (schedulerAcChange_formedStand _ _)
  have formed (u : State) : FormedStand u (recomputeIbl u) := .of_eq (by simp)
  have rederived (u : State) : FormedStand u (rederive u) := (supervised u).trans (acted u.sup _)
  have unsettled : FormedStand s (s.onRect fun r => { r with settle := 0 }) := .of_eq ⟨rfl, rfl⟩
  exact ((unsettled.trans (rederived _)).trans (formed _)).trans (trimToGen_formedStand _)

/-- Nothing the generator controller does forms the counts. -/
theorem formedStand_closed : FeedClosed FormedStand where
  refl := .refl
  trans := .trans
  gen f s := .of_eq (by simp)
  cal f s := .of_eq (by simp)
  report c v s := .of_eq (by simp)
  post kind subject value s := .of_eq (by simp)
  fed := feedMoved_formedStand

/-! ## The entry to STOPPING (R139, R140, R148) -/

/-- The entry to STOPPING from a state `v` that differs from `s` in the generator controller and the alarm unit, where what
shuts the gates behind the run is there. -/
theorem enterStopping_entered {reason : Option StopReason} {fail : Option FailReason} {s v : State} {r : Run}
    (run : s.gen.run = some r) (stopped : v.gen.run = some { r with stopReason := reason })
    (failed : v.gen.failReason = fail) (log : v.gen.log = s.gen.log)
    (frame : v = { s with gen := v.gen, alarm := v.alarm }) (shut : RestsAfter (stopState fail) s) :
    StoppingEntered reason fail s (enterStopping v) := by
  have meas : v.meas = s.meas := by rw [frame]
  have cal : v.cal = s.cal := by rw [frame]
  have store : v.store = s.store := by rw [frame]
  have shut' : RestsAfter (stopState v.gen.failReason) v := by
    rw [failed]
    exact (restsAfter_congr meas store).2 shut
  have entered : (genEnter .stopping v).gen = { v.gen with machine := .stopping, stateCount := 0 } := by
    rw [genEnter_gen, enter_offline _ _ (by decide)]
  refine ⟨fun present => ?_, fun absent _ => ?_, fun absent x head => ?_, ?_, ?_⟩
  · rw [enterStopping_present (by rw [meas]; exact present), entered, stopped, run]
    exact ⟨rfl, rfl, rfl⟩
  · have closed := enterStopping_closed (by rw [meas]; exact absent) shut'
    exact ⟨closed.machine.trans (by rw [failed]; rfl), closed.run, closed.rest (by rw [stopped]; rfl)⟩
  · obtain ⟨rest, logged⟩ : ∃ rest, s.gen.log = x :: rest := by
      cases l : s.gen.log with
      | nil => simp [l] at head
      | cons y rest => exact ⟨rest, by simpa [l] using head⟩
    have offline := stopState_offline v.gen.failReason
    have same : (genEnter .stopping v).gen.failReason = v.gen.failReason := by rw [entered]
    have gates := gatesOpen_recordClosed (s := genEnter .stopping v) offline
      ((restsAfter_congr (s := v) (by simp) (by simp)).2 shut') { r with stopReason := reason }
    rw [enterStopping_absent (by rw [meas]; exact absent), confirmStop_eq, same,
      closeRun_some (r := { r with stopReason := reason }) (by rw [entered]; exact stopped),
      evaluateStart_shut _ gates, recordClosed_gen offline, entered, log, logged]
    have stamp : (genEnter .stopping v).stamp = s.stamp := by simp [State.stamp, cal]
    have fuel : (genEnter .stopping v).meas = s.meas := by simp [meas]
    rw [stamp, fuel]
    exact List.mem_cons_self
  · cases present : v.meas.genPresent with
    | true => rw [enterStopping_present present, entered]; exact failed
    | false => exact (enterStopping_closed present shut').failReason.trans failed
  · apply State.ext_parts <;> simp
    all_goals rw [frame]

/-- R141: an engine fault or loss ends the run in flight, and the machine is FAILED behind it. -/
theorem engineFails_entered {reason : StopReason} {fail : FailReason} {s u : State} {r : Run}
    (fails : fail = .engineFault ∨ fail = .engineLost) (run : s.gen.run = some r) (same : u.gen.run = s.gen.run)
    (log : u.gen.log = s.gen.log) (frame : u = { s with gen := u.gen, alarm := u.alarm }) :
    StoppingEntered (some reason) (some fail) s (engineFails reason fail u) := by
  have final : stopState (some fail) = .failed := if_pos (by rcases fails with rfl | rfl <;> simp)
  refine enterStopping_entered run ?_ ?_ ?_ ?_ (.inl (by rw [final]; decide))
  · rw [setFail_gen, setStop_gen, same, run]
    rfl
  · rw [setFail_gen]
  · rw [setFail_gen, setStop_gen]
    exact log
  · apply State.ext_parts <;> simp
    all_goals rw [frame]

end Sys2Proof.Machine
end

section
/-! SUPPORT and the statement about the end of WARMUP (R94, R128, R134, R135, R141, R158, R160). -/

namespace Sys2Proof.Machine

/-! ## The entry to ONLINE (R94, R128) -/

/-- The conditions that the entry to a state can have reported. -/
abbrev enterCodes : List Nat := modeCodes ++ startCodes

theorem genEnter_within (new : GenState) (s : State) : AlarmsWithin enterCodes s (genEnter new s) := by
  have reported (c : Nat) (v : Bool) (u : State) (known : c ∈ enterCodes) : AlarmsWithin enterCodes u (report c v u) :=
    report_within c v u known
  have entered : AlarmsWithin enterCodes s (enterMachine new s) := .of_eq rfl
  have moved (u : State) : AlarmsWithin enterCodes u (if u.online = s.online then u else feedMoved u) := by
    split
    · exact .of_eq rfl
    · exact (feedMoved_within u).mono (by simp)
  rw [genEnter_eq]
  exact (((((entered.trans (moved _)).trans (reported alGenRunning _ _ (by decide))).trans
    (reported alGenLockout _ _ (by decide))).trans (reported alGenStartFail _ _ (by decide))).trans
    (reported alGenStopFail _ _ (by decide))).trans (reported alGenEngineFault _ _ (by decide))

/-- Outside ONLINE the entry to it moves the feed. -/
theorem genEnter_online {s : State} (offline : s.gen.machine ≠ .online) :
    genEnter .online s = reportLockout (report alGenRunning true (feedMoved (enterMachine .online s))) := by
  have was : s.online = false := by simp [State.online, offline]
  rw [genEnter_eq]
  dsimp only
  rw [if_neg (by rw [was]; simp [State.online, enterMachine])]
  simp [enterMachine, GenState.inRun]

theorem genEnter_online_derived {s : State} (offline : s.gen.machine ≠ .online) :
    (genEnter .online s).ModeDerived := by
  rw [genEnter_online offline]
  exact (reportLockout_step _).derived
    ((report_step (codes := runCodes) alGenRunning true _ (by decide)).derived (feedMoved_derived _))

/-- R94: on the entry to ONLINE no more modules run than the generator's budget carries. -/
theorem genEnter_online_trimmed {s : State} (offline : s.gen.machine ≠ .online) (placed : s.RosterPlaced) :
    (genEnter .online s).nRun ≤ (genEnter .online s).nGen := by
  generalize moved : recomputeIbl (rederive ((enterMachine .online s).onRect fun r => { r with settle := 0 })) = u
  have trimmed : feedMoved (enterMachine .online s) = trimToGen u := by rw [← moved]; rfl
  have unsettled : RosterStep s ((enterMachine .online s).onRect fun r => { r with settle := 0 }) :=
    .of_eq ⟨rfl, rfl, rfl, rfl, rfl⟩
  have step : RosterStep s u := by
    rw [← moved]
    exact (unsettled.trans (rederive_rosterStep _)).trans (.of_eq (by simp))
  have online : u.gen.machine = .online := by rw [← moved]; simp [enterMachine]
  have count := (trimToGen_trims online (step.placed placed).live).1
  have store : (trimToGen u).store = u.store := by simp
  have run : (genEnter .online s).nRun = (trimToGen u).nRun := by
    rw [genEnter_online offline, trimmed, State.nRun, State.nRun]
    simp
  have budget : (genEnter .online s).nGen = u.nGen := by
    rw [genEnter_online offline, trimmed]
    simp [State.nGen, State.now]
  rw [run, budget, count]
  exact Nat.min_le_right _ _

/-! ## An exercise served (R160) -/

/-- The calendar at the WARMUP end of a run that carries the exercise mark. -/
def Cal.served (c : Cal) : Cal :=
  if c.exState ≠ .none then
    { c.noExercise with runMark := false, missed := false, last := some { date := c.date, outcome := .served } }
  else { c with runMark := false }

theorem exerciseServed_eq (s : State) : exerciseServed s =
    if s.cal.exState = .none then s.onCal Cal.served
    else reportMissed (dropCause (s.onCal Cal.served)) := by
  unfold exerciseServed Cal.served
  by_cases owed : s.cal.exState = .none <;> simp [owed, State.onCal, Cal.noExercise, Cal.date]

theorem exerciseServed_cal (s : State) : (exerciseServed s).cal = s.cal.served := by
  rw [exerciseServed_eq]
  split <;> simp

theorem exerciseServed_gen (s : State) :
    (exerciseServed s).gen = { s.gen with exercise := if s.cal.exState ≠ .none then none else s.gen.exercise } := by
  rw [exerciseServed_eq]
  by_cases owed : s.cal.exState = .none <;> simp [owed, dropCause]

theorem exerciseServed_missed {s : State} (records : s.alarm.records.length = 40) :
    ((exerciseServed s).record 28).cond = if s.cal.exState ≠ .none then false else (s.record 28).cond := by
  rw [exerciseServed_eq]
  by_cases owed : s.cal.exState = .none
  · simp [owed, State.record]
  · rw [if_neg owed, if_pos owed]
    refine (report_cond 28 _ _ (by simp [records])).trans ?_
    simp [Cal.served, owed]

/-! ## WARMUP (R134) -/

/-- R134: what the run's record and the calendar hold at WARMUP end, before the machine leaves WARMUP. -/
def warmupServed (r : Run) (s : State) : State :=
  let s := onRun (fun r =>
    { r with
      warmupEnd := some s.stamp
      durCount := if r.duration.isSome ∧ r.durCount.isNone then some 0 else r.durCount }) s
  let s := onOpenRecord (fun x => { x with warmupEnd := some s.stamp }) s
  if r.exMark then exerciseServed s else s

theorem warmupEnds_eq {r : Run} {s : State} (run : s.gen.run = some r) :
    warmupEnds s = genEnter (loadState (warmupServed r s) r) (warmupServed r s) := by
  rw [warmupEnds, run]
  rfl

@[simp] theorem warmupServed_frame (r : Run) (s : State) :
    (warmupServed r s).pending = s.pending ∧ (warmupServed r s).powered = s.powered ∧
      (warmupServed r s).markerGood = s.markerGood ∧ (warmupServed r s).meas = s.meas ∧
      (warmupServed r s).sup = s.sup ∧ (warmupServed r s).acct = s.acct ∧ (warmupServed r s).charge = s.charge ∧
      (warmupServed r s).prot = s.prot ∧ (warmupServed r s).rect = s.rect ∧ (warmupServed r s).bus = s.bus ∧
      (warmupServed r s).store = s.store ∧ (warmupServed r s).link = s.link := by
  unfold warmupServed
  cases r.exMark <;> simp

theorem warmupServed_gen (r : Run) (s : State) : (warmupServed r s).gen = { s.gen with
    run := s.gen.run.map fun r =>
      { r with
        warmupEnd := some s.stamp
        durCount := if r.duration.isSome ∧ r.durCount.isNone then some 0 else r.durCount }
    log := s.gen.log.modifyHead fun x => { x with warmupEnd := some s.stamp }
    exercise := if r.exMark = true ∧ s.cal.exState ≠ .none then none else s.gen.exercise } := by
  unfold warmupServed
  cases r.exMark <;> simp [exerciseServed_gen, onOpenRecord_gen, onRun_gen, State.stamp]

theorem warmupServed_cal (r : Run) (s : State) :
    (warmupServed r s).cal = if r.exMark = true then s.cal.served else s.cal := by
  unfold warmupServed
  cases r.exMark <;> simp [exerciseServed_cal]

theorem warmupServed_missed (r : Run) {s : State} (records : s.alarm.records.length = 40) :
    ((warmupServed r s).record 28).cond =
      if r.exMark = true ∧ s.cal.exState ≠ .none then false else (s.record 28).cond := by
  unfold warmupServed
  cases r.exMark with
  | false => simp [State.record]
  | true =>
    simp only [if_true, true_and]
    rw [exerciseServed_missed (by simp [records])]
    simp [State.record]

/-- What an entry leaves of the time of the WARMUP end. -/
theorem enter_warmupEnd (new : GenState) (g : Gen) :
    (g.enter new).run.map Run.warmupEnd = g.run.map Run.warmupEnd ∧
      (g.enter new).log.map RunRec.warmupEnd = g.log.map RunRec.warmupEnd := by
  unfold Gen.enter
  split
  · refine ⟨by cases g.run <;> rfl, ?_⟩
    cases g.log <;> rfl
  · exact ⟨rfl, rfl⟩

theorem reachCount_fault (n : Nat) (s : State) : (reachCount n s).engineFaultInput = s.engineFaultInput := by
  simp only [State.engineFaultInput, functionActive_congr (s := s) (t := reachCount n s) rfl rfl]

/-- R134: from the tenth event of WARMUP an engine-fault input is acted on. -/
theorem reachCount_armed {n : Nat} {s : State} (machine : s.gen.machine = .warmup) :
    faultArmed (reachCount n s) = decide (10 ≤ max n s.gen.stateCount) := by
  simp [faultArmed, reachCount, machine]

end Sys2Proof.Machine

open Sys2Proof Sys2Proof.Machine

/-- Settles O38: a fault enters STOPPING; without one the run is marked, an exercise served and the basis's state entered. -/
theorem warmupEndsByTheBasis : Obligations.WarmupEndsByTheBasis := by
  intro r s on run
  have armRuns : exec .warmupFaultArm s = onExpiry s (stateDue .warmup fun _ => 10) armFaults := rfl
  have endRuns : exec .warmupEnd s = onExpiry s (stateDue .warmup fun s => s.inForce 3 15) warmupTimeReached := rfl
  have stops (n : Nat) : StoppingEntered (some .engineFault) (some .engineFault) s
      (engineFails .engineFault .engineFault (reachCount n s)) := engineFails_entered (.inl rfl) run rfl rfl rfl
  refine ⟨fun machine late => ?_, fun other => ?_, fun machine late => ⟨fun fault armed => ?_, fun sound => ?_⟩⟩
  · have due_ : stateDue .warmup (fun _ => 10) s = true := by simp [stateDue, machine, due_iff, late]
    rw [armRuns, onExpiry_due s _ _ on due_, armFaults]
    refine ⟨fun fault => ⟨_, (armRuns.trans (onExpiry_due s _ _ on due_)).trans (congrArg _ ?_), stops 10⟩, fun sound => ?_⟩
    · rw [armFaults]
      simp [reachCount_fault, fault, takeEngineFault, reachCount_armed machine]
    · simp only [reachCount_fault, sound]
      rfl
  · rw [armRuns, endRuns]
    exact ⟨onExpiry_early s _ _ (by simp [stateDue, other]), onExpiry_early s _ _ (by simp [stateDue, other])⟩
  · have due_ : stateDue .warmup (fun s => s.inForce 3 15) s = true := by simp [stateDue, machine, due_iff, late]
    refine ⟨_, (endRuns.trans (onExpiry_due s _ _ on due_)).trans (congrArg _ ?_), stops (s.inForce 3 15)⟩
    rw [warmupTimeReached]
    simp [reachCount_fault, fault, takeEngineFault, reachCount_armed machine, armed]
  · have due_ : stateDue .warmup (fun s => s.inForce 3 15) s = true := by simp [stateDue, machine, due_iff, late]
    have ends : warmupTimeReached s = warmupEnds (reachCount (s.inForce 3 15) s) := by
      rw [warmupTimeReached]
      rcases sound with none_ | early
      · simp [reachCount_fault, none_]
      · simp [reachCount_armed machine, Nat.not_le.2 early]
    have run' : (reachCount (s.inForce 3 15) s).gen.run = some r := run
    rw [warmupEnds_eq run'] at ends
    generalize marked : warmupServed r (reachCount (s.inForce 3 15) s) = c at ends
    generalize basis : loadState c r = new at ends
    have meas : c.meas = s.meas := by rw [← marked]; simp [reachCount]
    have cal : c.cal = if r.exMark = true then s.cal.served else s.cal := by rw [← marked, warmupServed_cal]; rfl
    have gen := warmupServed_gen r (reachCount (s.inForce 3 15) s)
    rw [marked] at gen
    have offline : c.gen.machine ≠ .online := by rw [gen]; simp [reachCount, machine]
    obtain ⟨ended, logged⟩ := enter_warmupEnd new c.gen
    have carried : (genEnter new c).gen.machine = new := by simp
    have becomes (online : (genEnter new c).gen.machine = .online) : new = .online := carried.symm.trans online
    refine ⟨genEnter new c, (endRuns.trans (onExpiry_due s _ _ on due_)).trans (congrArg _ ends), ?_, by simp, ?_, ?_,
      fun online => ?_, fun online placed => ?_, fun online => ?_, ⟨?_, ?_, fun records => ?_⟩, ?_⟩
    · rw [carried, ← basis]
      cases kind : r.basis <;> simp [loadState, kind, meas]
    · rw [genEnter_gen, ended, gen]
      simp [reachCount, run, State.stamp]
    · rw [genEnter_gen, logged, gen]
      simp [reachCount, State.stamp]
    · obtain rfl := becomes online
      obtain ⟨mode, ac⟩ := genEnter_online_derived offline
      exact ⟨mode, by rw [ac, deriveAc, State.online, online]; simp⟩
    · obtain rfl := becomes online
      have step : RosterStep s c := by
        rw [← marked]
        exact .of_eq (by simp [reachCount])
      exact genEnter_online_trimmed offline (step.placed placed)
    · have formed := formedStand_closed.genEnter new c
      have before : c.rect = s.rect := by rw [← marked]; simp [reachCount]
      rw [State.nUp, State.nDown, formed.up, formed.down, before, capped_online _ _ online, capped_online _ _ online]
      exact ⟨rfl, rfl⟩
    · rw [show (genEnter new c).cal = c.cal by simp, cal, Cal.served]
      by_cases marks : r.exMark = true <;> by_cases owed : s.cal.exState = .none <;>
        simp [marks, owed, Cal.noExercise, Cal.date]
    · rw [show (genEnter new c).gen.exercise = c.gen.exercise by simp, gen]
      rfl
    · rw [(genEnter_within new c).record 28 (by decide), ← marked, warmupServed_missed r (by simpa [reachCount] using records)]
      rfl
    · have frame : c = { s with gen := c.gen, cal := c.cal, alarm := c.alarm } := by
        rw [← marked]
        apply State.ext_parts <;> simp [reachCount]
      apply State.ext_parts <;> simp
      all_goals rw [frame]
end

section
/-! SUPPORT. The counts that a measurement event carries in each slot's record (R89, R99, R100, R105): the records behind the
hours, the start timeouts and the recoveries. -/

namespace Sys2Proof.Machine

/-! ## Work of the scheduler on the records it holds -/

/-- From `s` to `t` the scheduler has moved slots, lists and swap: the hours, the counts formed, settle and the fitted count
stand, and no block but the scheduler and the alarm unit has changed. -/
structure SchedStep (s t : State) : Prop where
  frame : t = { s with rect := t.rect, alarm := t.alarm }
  rows : t.alarm.records.length = s.alarm.records.length
  counts : t.rect.upFormed = s.rect.upFormed ∧ t.rect.downFormed = s.rect.downFormed ∧
    t.rect.settle = s.rect.settle ∧ t.rect.fitted = s.rect.fitted
  size : t.rect.slots.length = s.rect.slots.length
  time : ∀ j, (t.slot j).hours = (s.slot j).hours ∧ (t.slot j).residue = (s.slot j).residue

theorem SchedStep.refl (s : State) : SchedStep s s := ⟨rfl, rfl, ⟨rfl, rfl, rfl, rfl⟩, rfl, fun _ => ⟨rfl, rfl⟩⟩

theorem SchedStep.trans {s t u : State} (h : SchedStep s t) (k : SchedStep t u) : SchedStep s u := by
  obtain ⟨up, down, settle, fitted⟩ := h.counts
  obtain ⟨up', down', settle', fitted'⟩ := k.counts
  refine ⟨?_, k.rows.trans h.rows, ⟨up'.trans up, down'.trans down, settle'.trans settle, fitted'.trans fitted⟩,
    k.size.trans h.size, fun j => ⟨(k.time j).1.trans (h.time j).1, (k.time j).2.trans (h.time j).2⟩⟩
  have frame := k.frame
  rw [h.frame] at frame
  exact frame

theorem SchedStep.ite {s t u : State} (p : Prop) [Decidable p] (ht : SchedStep s t) (hu : SchedStep s u) :
    SchedStep s (if p then t else u) := by
  split
  · exact ht
  · exact hu

theorem SchedStep.foldl {α : Type} (f : State → α → State) (l : List α) (s : State) (h : ∀ s a, SchedStep s (f s a)) :
    SchedStep s (l.foldl f s) := by
  induction l generalizing s with
  | nil => exact .refl s
  | cons a l ih => exact (h s a).trans (ih (f s a))

/-- A write of the scheduler that leaves the slots and the counts. -/
theorem SchedStep.onRect {f : Rect → Rect} (s : State)
    (h : (f s.rect).slots = s.rect.slots ∧ (f s.rect).upFormed = s.rect.upFormed ∧
      (f s.rect).downFormed = s.rect.downFormed ∧ (f s.rect).settle = s.rect.settle ∧
      (f s.rect).fitted = s.rect.fitted) : SchedStep s (s.onRect f) := by
  obtain ⟨slots, up, down, settle, fitted⟩ := h
  exact ⟨rfl, rfl, ⟨up, down, settle, fitted⟩, congrArg List.length slots,
    fun j => by rw [slot_congr (t := s.onRect f) slots]; exact ⟨rfl, rfl⟩⟩

theorem changeSlot_sched (i : Nat) (new : SlotState) (s : State) : SchedStep s (changeSlot i new s) where
  frame := changeSlot_eq i new s
  rows := changeSlot_rows i new s
  counts := by rw [changeSlot_counts]; exact ⟨rfl, rfl, rfl, rfl⟩
  size := changeSlot_length i new s
  time j := by
    by_cases same : j = i
    · subst same
      refine ⟨changeSlot_hours _ _ _ _, ?_⟩
      by_cases stays : (s.slot j).state = new
      · rw [changeSlot_same j new s stays]
      · by_cases inside : j < s.rect.slots.length
        · rw [changeSlot_slot inside stays]
          rfl
        · have short := List.getElem?_eq_none (Nat.le_of_not_lt inside)
          simp [State.slot, changeSlot_slots stays, List.getD_eq_getElem?_getD, short]
    · rw [changeSlot_slot_ne new s same]
      exact ⟨rfl, rfl⟩

theorem endSwap_sched (outcome : SwapOutcome) (s : State) : SchedStep s (endSwap outcome s) where
  frame := by apply State.ext_parts <;> simp
  rows := (endSwap_stands [] outcome s).length
  counts := by
    cases swap : s.rect.swap with
    | none => rw [endSwap_none _ _ swap]; exact ⟨rfl, rfl, rfl, rfl⟩
    | some w => rw [endSwap_rect _ swap]; exact ⟨rfl, rfl, rfl, rfl⟩
  size := by simp
  time j := by rw [endSwap_slot]; exact ⟨rfl, rfl⟩

theorem leaveSwap_sched (i : Nat) (s : State) : SchedStep s (leaveSwap i s) := by
  rcases leaveSwap_cases i s with ⟨h, -⟩ | ⟨w, -, -, h⟩ <;> rw [h]
  · exact .refl s
  · exact endSwap_sched _ s

/-- A write of a slot's record that is not of its time. -/
def KeepsTime (f : Slot → Slot) : Prop := ∀ x, (f x).hours = x.hours ∧ (f x).residue = x.residue

theorem onSlot_sched {f : Slot → Slot} (i : Nat) (s : State)
    (keeps : KeepsTime f := by exact fun _ => ⟨rfl, rfl⟩) : SchedStep s (onSlot i f s) where
  frame := rfl
  rows := rfl
  counts := ⟨rfl, rfl, rfl, rfl⟩
  size := onSlot_length i f s
  time j := ⟨onSlot_field Slot.hours (fun x => (keeps x).1) i j s, onSlot_field Slot.residue (fun x => (keeps x).2) i j s⟩

theorem enterFault_sched (i : Nat) (s : State) : SchedStep s (enterFault i s) :=
  ((changeSlot_sched i .fault s).trans (onSlot_sched i _)).trans (leaveSwap_sched i _)

/-! ## What one slot's count does to its record -/

/-- R105: the record of a slot behind a second that it ran, or did not. -/
def Slot.timed (x : Slot) : Slot := if x.state ≠ .absent ∧ x.data.any ModuleData.running then x.runSecond else x

/-- R99: the record of a slot behind an event of its start. -/
def Slot.startTicked (limit now : Nat) (x : Slot) : Slot :=
  if x.state = .starting then
    if limit ≤ x.startCount + 1 then (x.took .fault now).faulted else { x with startCount := x.startCount + 1 }
  else x

/-- R100: the record of a slot behind an event of its recovery, `clear` saying which status shows no counting fault. -/
def Slot.recoveryTicked (clear : ModuleData → Bool) (limit now : Nat) (x : Slot) : Slot :=
  if x.state = .fault ∧ x.data.any clear then
    if limit ≤ x.recovery + 1 then x.took .standby now else { x with recovery := x.recovery + 1 }
  else x

/-- R105 writes the hours and what is left of a tenth of them. -/
theorem timed_eq (x : Slot) : x.timed = { x with hours := x.timed.hours, residue := x.timed.residue } := by
  unfold Slot.timed Slot.runSecond
  (repeat' split) <;> rfl

theorem addHours_slot {i : Nat} {s : State} (h : i < s.rect.slots.length) :
    (addHours i s).slot i = (s.slot i).timed := by
  have counted := onSlot_slot i Slot.runSecond s h
  unfold addHours Slot.timed
  split
  · dsimp only
    split
    · exact counted
    · exact counted
  · rfl

theorem addHours_slot_ne {i j : Nat} (s : State) (ne : j ≠ i) : (addHours i s).slot j = s.slot j := by
  have counted := onSlot_slot_ne i j Slot.runSecond s ne
  unfold addHours
  split
  · dsimp only
    split
    · exact counted
    · exact counted
  · rfl

theorem startTick_slot {i : Nat} {s : State} (h : i < s.rect.slots.length) :
    (startTick i s).slot i = (s.slot i).startTicked (s.inForce 4 9) s.stamp := by
  unfold startTick Slot.startTicked
  by_cases starting : (s.slot i).state = .starting
  · rw [if_pos starting, if_pos starting]
    split
    · exact enterFault_slot h (by rw [starting]; decide)
    · exact onSlot_slot i _ s h
  · rw [if_neg starting, if_neg starting]

theorem startTick_slot_ne {i j : Nat} (s : State) (ne : j ≠ i) : (startTick i s).slot j = s.slot j := by
  unfold startTick
  split
  · split
    · exact enterFault_slot_ne s ne
    · exact onSlot_slot_ne i j _ s ne
  · rfl

theorem startTick_sched (i : Nat) (s : State) : SchedStep s (startTick i s) :=
  .ite _ (.ite _ (enterFault_sched i s) (onSlot_sched i s)) (.refl s)

theorem recoveryTick_slot {i : Nat} {s : State} (h : i < s.rect.slots.length) : (recoveryTick i s).slot i =
    (s.slot i).recoveryTicked (fun d => !countingFault s d) (s.inForce 4 10) s.stamp := by
  unfold recoveryTick Slot.recoveryTicked
  by_cases clear : (s.slot i).state = .fault ∧ (s.slot i).data.any (fun d => !countingFault s d)
  · rw [if_pos clear, if_pos clear]
    split
    · exact changeSlot_slot h (by rw [clear.1]; decide)
    · exact onSlot_slot i _ s h
  · rw [if_neg clear, if_neg clear]

theorem recoveryTick_slot_ne {i j : Nat} (s : State) (ne : j ≠ i) : (recoveryTick i s).slot j = s.slot j := by
  unfold recoveryTick
  split
  · split
    · exact changeSlot_slot_ne .standby s ne
    · exact onSlot_slot_ne i j _ s ne
  · rfl

theorem recoveryTick_sched (i : Nat) (s : State) : SchedStep s (recoveryTick i s) :=
  .ite _ (.ite _ (changeSlot_sched i .standby s) (onSlot_sched i s)) (.refl s)

/-! ## The fitted slots in turn (log 44) -/

/-- Slots taken one after another, each of which touches its own record, while `P` holds: what each finds of its own record
is what stood there before the first. -/
theorem foldl_ticks {tick : Nat → State → State} {P : State → Prop} {l : List Nat} (once : l.Nodup) {s : State} (start : P s)
    (others : ∀ i j u, j ≠ i → (tick i u).slot j = u.slot j)
    (keeps : ∀ i ∈ l, ∀ u, P u → u.slot i = s.slot i → P (tick i u)) : P (l.foldl (fun u i => tick i u) s) := by
  induction l generalizing s with
  | nil => exact start
  | cons i l ih =>
    obtain ⟨apart, once⟩ := List.nodup_cons.1 once
    refine ih once (keeps i List.mem_cons_self s start rfl) fun j hj u hu same => ?_
    have ne : j ≠ i := fun e => apart (e ▸ hj)
    exact keeps j (List.mem_cons_of_mem i hj) u hu (same.trans (others i j s ne))

/-- The records behind such a turn, each slot's as `g` makes it. -/
theorem foldl_ticks_slot {tick : Nat → State → State} {P : State → Prop} {g : Slot → Slot} {l : List Nat}
    (once : l.Nodup) {s : State} (start : P s) (others : ∀ i j u, j ≠ i → (tick i u).slot j = u.slot j)
    (keeps : ∀ i u, P u → P (tick i u)) (self : ∀ i ∈ l, ∀ u, P u → (tick i u).slot i = g (u.slot i)) (j : Nat) :
    (l.foldl (fun u i => tick i u) s).slot j = if j ∈ l then g (s.slot j) else s.slot j := by
  induction l generalizing s with
  | nil => rfl
  | cons i l ih =>
    obtain ⟨apart, once⟩ := List.nodup_cons.1 once
    rw [List.foldl_cons, ih once (keeps i s start) fun i hi => self i (List.mem_cons_of_mem _ hi)]
    by_cases same : j = i
    · subst same
      rw [if_neg apart, if_pos List.mem_cons_self, self j List.mem_cons_self s start]
    · rw [others i j s same]
      simp [same]

/-- Slots that a turn finds nothing to do for leave the state. -/
theorem foldl_ticks_none {tick : Nat → State → State} {l : List Nat} {s : State} (none_ : ∀ i ∈ l, tick i s = s) :
    l.foldl (fun u i => tick i u) s = s := by
  induction l with
  | nil => rfl
  | cons i l ih =>
    rw [List.foldl_cons, none_ i List.mem_cons_self]
    exact ih fun j hj => none_ j (List.mem_cons_of_mem i hj)

end Sys2Proof.Machine
end

section
/-! SUPPORT. The first steps of a measurement event at the scheduler (R89, R99, R100, R105, R111): every slot's record behind
them, the lists and the swap. -/

namespace Sys2Proof.Machine

/-! ## The event, step by step (R89) -/

def hoursAdded (s : State) : State := s.fittedSlots.foldl (fun s i => addHours i s) s

def startsTicked (s : State) : State := s.fittedSlots.foldl (fun s i => startTick i s) s

def recoveriesTicked (s : State) : State := s.fittedSlots.foldl (fun s i => recoveryTick i s) s

/-- R89: the hours, the starts and the recoveries of the event. -/
def slotsTicked (s : State) : State := recoveriesTicked (startsTicked (hoursAdded s))

/-- R89 to R91: the counts advanced and formed. -/
def countsFormed (s : State) : State := formCounts (advanceCounts s)

/-- R92, R93, R107, R108: the modules started, stopped and swapped at the event. -/
def modulesMoved (s : State) : State := if s.sup.ac then countWork (overlapWork (countsFormed s)) else dropFreed s

/-- R95, R91, R101, R102: the limit formed and the conditions reported. -/
def eventReported (s : State) : State :=
  reportFaults (reportLost (report alRectShortfall (shortfall (recomputeIm s)) (recomputeIm s)))

/-- R111: with the fitted count in force no slot is dropped. -/
theorem refitSlots_same {s : State} (fitted : s.rect.fitted = s.inForce 0 15) : refitSlots s = s := by
  simp [refitSlots, ← fitted, State.onRect]

theorem rectEvent_eq {s : State} (fitted : s.rect.fitted = s.inForce 0 15) :
    rectEvent s = eventReported (modulesMoved (slotsTicked s)) := by
  unfold rectEvent
  rw [refitSlots_same fitted]
  rfl

/-! ## The hours (R105) -/

/-- From `s` to `t` slots have run, and the queue follows their hours. -/
structure HoursStep (s t : State) : Prop where
  frame : t = { s with rect := { s.rect with slots := t.rect.slots, queue := t.rect.queue } }
  size : t.rect.slots.length = s.rect.slots.length

theorem HoursStep.refl (s : State) : HoursStep s s := ⟨rfl, rfl⟩

theorem HoursStep.trans {s t u : State} (h : HoursStep s t) (k : HoursStep t u) : HoursStep s u := by
  refine ⟨?_, k.size.trans h.size⟩
  have frame := k.frame
  rw [h.frame] at frame
  exact frame

theorem addHours_step (i : Nat) (s : State) : HoursStep s (addHours i s) := by
  unfold addHours
  split
  · dsimp only
    split
    · exact ⟨rfl, onSlot_length i Slot.runSecond s⟩
    · exact ⟨rfl, onSlot_length i Slot.runSecond s⟩
  · exact .refl s

theorem hoursAdded_step (s : State) : HoursStep s (hoursAdded s) := by
  unfold hoursAdded
  generalize s.fittedSlots = l
  induction l generalizing s with
  | nil => exact .refl s
  | cons i l ih => exact (addHours_step i s).trans (ih _)

theorem mem_fittedSlots {s : State} {i : Nat} : i ∈ s.fittedSlots ↔ i < s.rect.fitted := List.mem_range

theorem fittedSlots_nodup (s : State) : s.fittedSlots.Nodup := List.nodup_range

theorem hoursAdded_slot {s : State} (size : s.rect.fitted ≤ s.rect.slots.length) (j : Nat) :
    (hoursAdded s).slot j = if j < s.rect.fitted then (s.slot j).timed else s.slot j := by
  have kept (u : State) (h : HoursStep s u) (i : Nat) (hi : i ∈ s.fittedSlots) : i < u.rect.slots.length := by
    rw [h.size]
    exact (mem_fittedSlots.1 hi).trans_le size
  simp only [← mem_fittedSlots]
  exact foldl_ticks_slot (P := HoursStep s) (fittedSlots_nodup s) (.refl s) (fun _ _ u ne => addHours_slot_ne u ne)
    (fun i u h => h.trans (addHours_step i u)) (fun i hi u h => addHours_slot (kept u h i hi)) j

theorem hoursAdded_roster (s : State) : RosterStep s (hoursAdded s) :=
  .foldl _ _ _ fun s i => addHours_rosterStep i s

/-! ## The starts and the recoveries (R99, R100) -/

theorem SchedStep.stamp {s t : State} (h : SchedStep s t) : t.stamp = s.stamp := by rw [h.frame]; rfl

theorem SchedStep.sup {s t : State} (h : SchedStep s t) : t.sup = s.sup := by rw [h.frame]

theorem SchedStep.inForce {s t : State} (h : SchedStep s t) (g i : Nat) : t.inForce g i = s.inForce g i := by
  rw [h.frame]
  rfl

theorem SchedStep.countingFault {s t : State} (h : SchedStep s t) : countingFault t = countingFault s := by
  obtain ⟨-, -, settle, -⟩ := h.counts
  exact countingFault_congr (by rw [h.frame]) settle

theorem startsTicked_sched (s : State) : SchedStep s (startsTicked s) := .foldl _ _ _ fun s i => startTick_sched i s

theorem recoveriesTicked_sched (s : State) : SchedStep s (recoveriesTicked s) :=
  .foldl _ _ _ fun s i => recoveryTick_sched i s

theorem startsTicked_slot {s : State} (size : s.rect.fitted ≤ s.rect.slots.length) (j : Nat) :
    (startsTicked s).slot j =
      if j < s.rect.fitted then (s.slot j).startTicked (s.inForce 4 9) s.stamp else s.slot j := by
  simp only [← mem_fittedSlots]
  refine foldl_ticks_slot (P := SchedStep s) (fittedSlots_nodup s) (.refl s) (fun _ _ u ne => startTick_slot_ne u ne)
    (fun i u h => h.trans (startTick_sched i u)) (fun i hi u h => ?_) j
  rw [startTick_slot (by rw [h.size]; exact (mem_fittedSlots.1 hi).trans_le size), h.inForce, h.stamp]

theorem recoveriesTicked_slot {s : State} (size : s.rect.fitted ≤ s.rect.slots.length) (j : Nat) :
    (recoveriesTicked s).slot j =
      if j < s.rect.fitted then
        (s.slot j).recoveryTicked (fun d => !countingFault s d) (s.inForce 4 10) s.stamp
      else s.slot j := by
  simp only [← mem_fittedSlots]
  refine foldl_ticks_slot (P := SchedStep s) (fittedSlots_nodup s) (.refl s) (fun _ _ u ne => recoveryTick_slot_ne u ne)
    (fun i u h => h.trans (recoveryTick_sched i u)) (fun i hi u h => ?_) j
  rw [recoveryTick_slot (by rw [h.size]; exact (mem_fittedSlots.1 hi).trans_le size), h.inForce, h.stamp,
    h.countingFault]

/-- The record of a fitted slot behind the hours, the starts and the recoveries of an event. -/
def Slot.ticked (s : State) (x : Slot) : Slot :=
  (x.timed.startTicked (s.inForce 4 9) s.stamp).recoveryTicked (fun d => !countingFault s d) (s.inForce 4 10) s.stamp

theorem slotsTicked_sched (s : State) : SchedStep (hoursAdded s) (slotsTicked s) :=
  (startsTicked_sched _).trans (recoveriesTicked_sched _)

theorem slotsTicked_slot {s : State} (size : s.rect.fitted ≤ s.rect.slots.length) (j : Nat) :
    (slotsTicked s).slot j = if j < s.rect.fitted then (s.slot j).ticked s else s.slot j := by
  have hours := hoursAdded_step s
  have starts := startsTicked_sched (hoursAdded s)
  obtain ⟨-, -, -, fitted⟩ := starts.counts
  have same : (hoursAdded s).rect.fitted = s.rect.fitted := by rw [hours.frame]
  have size' : (hoursAdded s).rect.fitted ≤ (hoursAdded s).rect.slots.length := by rw [same, hours.size]; exact size
  have inForce (i : Nat) : (hoursAdded s).inForce 4 i = s.inForce 4 i := by rw [hours.frame]; rfl
  have stamp : (hoursAdded s).stamp = s.stamp := by rw [hours.frame]; rfl
  have faults : countingFault (hoursAdded s) = countingFault s :=
    countingFault_congr (by rw [hours.frame]) (by rw [hours.frame])
  rw [slotsTicked, recoveriesTicked_slot (by rw [fitted, starts.size]; exact size'), startsTicked_slot size',
    hoursAdded_slot size, fitted, same, starts.inForce, starts.stamp, starts.countingFault, inForce, inForce, stamp,
    faults]
  by_cases within : j < s.rect.fitted
  · simp only [if_pos within, Slot.ticked]
  · simp only [if_neg within]

theorem slotsTicked_roster (s : State) : RosterStep s (slotsTicked s) :=
  ((hoursAdded_roster s).trans (.foldl _ _ _ fun s i => startTick_rosterStep i s)).trans
    (.foldl _ _ _ fun s i => recoveryTick_rosterStep i s)

/-- What the first steps leave of the scheduler, and of the other blocks. -/
theorem slotsTicked_frame (s : State) : slotsTicked s =
    { s with rect := (slotsTicked s).rect, alarm := (slotsTicked s).alarm } := by
  have frame := (slotsTicked_sched s).frame
  rw [(hoursAdded_step s).frame] at frame
  exact frame

theorem slotsTicked_counts (s : State) : (slotsTicked s).rect.upFormed = s.rect.upFormed ∧
    (slotsTicked s).rect.downFormed = s.rect.downFormed ∧ (slotsTicked s).rect.settle = s.rect.settle ∧
    (slotsTicked s).rect.fitted = s.rect.fitted := by
  have counts := (slotsTicked_sched s).counts
  rw [(hoursAdded_step s).frame] at counts
  exact counts

theorem slotsTicked_rows (s : State) : (slotsTicked s).alarm.records.length = s.alarm.records.length := by
  have rows := (slotsTicked_sched s).rows
  rw [(hoursAdded_step s).frame] at rows
  exact rows

/-! ## A record behind the first steps -/

theorem timed_state (x : Slot) : x.timed.state = x.state := by rw [timed_eq]

theorem recoveryTicked_other (clear : ModuleData → Bool) (limit now : Nat) {x : Slot} (h : x.state ≠ .fault) :
    x.recoveryTicked clear limit now = x := if_neg fun fault => h fault.1

theorem startTicked_other (limit now : Nat) {x : Slot} (h : x.state ≠ .starting) : x.startTicked limit now = x :=
  if_neg h

/-- A slot in neither count has taken its second at most. -/
theorem ticked_idle (s : State) {x : Slot} (starting : x.state ≠ .starting) (fault : x.state ≠ .fault) :
    x.ticked s = x.timed := by
  rw [Slot.ticked, startTicked_other _ _ (by rw [timed_state]; exact starting),
    recoveryTicked_other _ _ _ (by rw [timed_state]; exact fault)]

/-- R99: a start in time counts on. -/
theorem ticked_starting {s : State} {x : Slot} (starting : x.state = .starting)
    (inTime : x.startCount + 1 < s.inForce 4 9) :
    x.ticked s = { x.timed with startCount := x.startCount + 1 } := by
  have state : x.timed.state = .starting := by rw [timed_state]; exact starting
  have count : x.timed.startCount = x.startCount := by rw [timed_eq]
  rw [Slot.ticked, Slot.startTicked, if_pos state, if_neg (by rw [count]; omega),
    recoveryTicked_other _ _ _ (by simp [state]), count]

/-- R99, log 31: a start that times out is in FAULT, and its recovery counts at that event already. -/
theorem ticked_late {s : State} {x : Slot} (starting : x.state = .starting) (late : s.inForce 4 9 ≤ x.startCount + 1)
    (slow : 1 < s.inForce 4 10) : (x.ticked s).state = .fault ∧ (x.ticked s).faults = min 255 (x.faults + 1) ∧
      (x.ticked s).recovery = if x.data.any fun d => !countingFault s d then 1 else 0 := by
  have state : x.timed.state = .starting := by rw [timed_state]; exact starting
  have fields : x.timed.startCount = x.startCount ∧ x.timed.faults = x.faults ∧ x.timed.data = x.data := by
    rw [timed_eq]
    exact ⟨rfl, rfl, rfl⟩
  obtain ⟨count, faults, data⟩ := fields
  have out : (x.timed.startTicked (s.inForce 4 9) s.stamp) = (x.timed.took .fault s.stamp).faulted := by
    rw [Slot.startTicked, if_pos state, if_pos (by rw [count]; exact late)]
  rw [Slot.ticked, out, Slot.recoveryTicked]
  by_cases clear : x.data.any fun d => !countingFault s d
  · rw [if_pos ⟨rfl, by simpa [Slot.faulted, Slot.took, data] using clear⟩, if_neg (by simpa [Slot.faulted, Slot.took] using slow)]
    simp [Slot.faulted, Slot.took, faults, clear]
  · rw [if_neg fun h => clear (by simpa [Slot.faulted, Slot.took, data] using h.2)]
    simp [Slot.faulted, Slot.took, faults, clear]

/-- R100: a slot in FAULT without counting fault returns at its recovery time. -/
theorem ticked_recovered {s : State} {x : Slot} (fault : x.state = .fault)
    (clear : (x.data.any fun d => !countingFault s d) = true) (reached : s.inForce 4 10 ≤ x.recovery + 1) :
    (x.ticked s).state = .standby := by
  have state : x.timed.state = .fault := by rw [timed_state]; exact fault
  have fields : x.timed.recovery = x.recovery ∧ x.timed.data = x.data := by rw [timed_eq]; exact ⟨rfl, rfl⟩
  obtain ⟨count, data⟩ := fields
  rw [Slot.ticked, startTicked_other _ _ (by rw [state]; decide), Slot.recoveryTicked,
    if_pos ⟨state, by rw [data]; exact clear⟩, if_pos (by rw [count]; exact reached)]
  rfl

theorem ticked_recovering {s : State} {x : Slot} (fault : x.state = .fault)
    (clear : (x.data.any fun d => !countingFault s d) = true) (short : x.recovery + 1 < s.inForce 4 10) :
    x.ticked s = { x.timed with recovery := x.recovery + 1 } := by
  have state : x.timed.state = .fault := by rw [timed_state]; exact fault
  have fields : x.timed.recovery = x.recovery ∧ x.timed.data = x.data := by rw [timed_eq]; exact ⟨rfl, rfl⟩
  obtain ⟨count, data⟩ := fields
  rw [Slot.ticked, startTicked_other _ _ (by rw [state]; decide), Slot.recoveryTicked,
    if_pos ⟨state, by rw [data]; exact clear⟩, if_neg (by rw [count]; omega), count]

theorem ticked_faulty {s : State} {x : Slot} (fault : x.state = .fault)
    (faulty : ¬ (x.data.any fun d => !countingFault s d) = true) : x.ticked s = x.timed := by
  have state : x.timed.state = .fault := by rw [timed_state]; exact fault
  have data : x.timed.data = x.data := by rw [timed_eq]
  rw [Slot.ticked, startTicked_other _ _ (by rw [state]; decide), Slot.recoveryTicked,
    if_neg fun h => faulty (by rw [← data]; exact h.2)]

/-- Which slots are commanded behind the first steps: those that were, but for a start that times out. -/
theorem ticked_commanded (s : State) (x : Slot) : (x.ticked s).state.commanded = true ↔
    x.state.commanded = true ∧ ¬ (x.state = .starting ∧ s.inForce 4 9 ≤ x.startCount + 1) := by
  have state : x.timed.state = x.state := timed_state x
  have count : x.timed.startCount = x.startCount := by rw [timed_eq]
  rw [Slot.ticked, Slot.startTicked]
  by_cases starting : x.state = .starting
  · rw [if_pos (by rw [state]; exact starting), count]
    by_cases late : s.inForce 4 9 ≤ x.startCount + 1
    · have out (clear : ModuleData → Bool) (y : Slot) (fault : y.state = .fault) :
          (y.recoveryTicked clear (s.inForce 4 10) s.stamp).state.commanded = false := by
        unfold Slot.recoveryTicked
        (repeat' split) <;> simp [Slot.took, fault, SlotState.commanded]
      rw [if_pos late, out _ _ rfl]
      simp [starting, late]
    · rw [if_neg late, recoveryTicked_other _ _ _ (by simp [state, starting])]
      simp [state, late]
  · rw [if_neg (by rw [state]; exact starting)]
    by_cases fault : x.state = .fault
    · have out : (x.timed.recoveryTicked (fun d => !countingFault s d) (s.inForce 4 10) s.stamp).state.commanded =
          false := by
        unfold Slot.recoveryTicked
        (repeat' split) <;> simp [Slot.took, state, fault, SlotState.commanded]
      rw [out]
      simp [fault, SlotState.commanded]
    · rw [recoveryTicked_other _ _ _ (by rw [state]; exact fault), state]
      simp [starting]

end Sys2Proof.Machine
end

section
/-! SUPPORT. The running list and the swap behind the first steps of a measurement event (R99, R100, R108, R109). -/

namespace Sys2Proof.Machine

/-! ## The running list (R99) -/

/-- R99: slot `j` is STARTING and its timeout is reached at this event. -/
abbrev State.startLate (s : State) (j : Nat) : Prop :=
  j < s.rect.fitted ∧ (s.slot j).state = .starting ∧ s.inForce 4 9 ≤ (s.slot j).startCount + 1

theorem slotsTicked_commanded {s : State} (size : s.rect.fitted ≤ s.rect.slots.length) (j : Nat) :
    ((slotsTicked s).slot j).state.commanded = true ↔ (s.slot j).state.commanded = true ∧ ¬ s.startLate j := by
  rw [slotsTicked_slot size]
  by_cases within : j < s.rect.fitted
  · rw [if_pos within, ticked_commanded]
    simp [within]
  · rw [if_neg within]
    simp [within]

/-- The running list has lost the starts that timed out. -/
theorem slotsTicked_nRun {s : State} (placed : s.RosterPlaced) (size : s.rect.fitted ≤ 12) :
    (slotsTicked s).nRun = (s.rect.running.filter fun j => decide ¬ s.startLate j).length := by
  have ticked := (slotsTicked_roster s).placed placed
  obtain ⟨-, -, once, -, -, -, -⟩ := id ticked
  obtain ⟨-, -, before, -, -, -, -⟩ := id placed
  refine List.Perm.length_eq ((List.perm_ext_iff_of_nodup once (before.filter _)).2 fun j => ?_)
  rw [ticked.mem_running, slotsTicked_commanded (by rw [placed.size]; exact size), List.mem_filter, placed.mem_running,
    decide_eq_true_iff]
  exact and_assoc.symm

theorem slotsTicked_nRun_le {s : State} (placed : s.RosterPlaced) (size : s.rect.fitted ≤ 12) :
    (slotsTicked s).nRun ≤ s.nRun := by
  rw [slotsTicked_nRun placed size]
  exact List.length_filter_le _ _

/-! ## The swap (R109) -/

theorem enterFault_apart {i : Nat} {s : State} (apart : ∀ w, s.rect.swap = some w → w.incoming ≠ i ∧ w.outgoing ≠ i) :
    (enterFault i s).rect.rotationParts = s.rect.rotationParts := by
  have parts := changeSlot_rotationParts i .fault s
  have swap := changeSlot_swap i .fault s
  rw [enterFault_eq]
  rcases leaveSwap_cases i (onSlot i Slot.faulted (changeSlot i .fault s)) with ⟨stays, -⟩ | ⟨w, held, member, -⟩
  · rw [stays]
    exact parts
  · obtain ⟨incoming, outgoing⟩ := apart w (swap.symm.trans held)
    exact absurd member (not_or.2 ⟨incoming, outgoing⟩)

theorem recoveryTick_rotationParts (i : Nat) (s : State) :
    (recoveryTick i s).rect.rotationParts = s.rect.rotationParts := by
  unfold recoveryTick
  split
  · split
    · exact changeSlot_rotationParts i .standby s
    · rfl
  · rfl

/-- What is held of the swap that has no STARTING slot stands behind the first steps. -/
theorem slotsTicked_rotationParts {s : State} (size : s.rect.fitted ≤ s.rect.slots.length)
    (started : ∀ w, s.rect.swap = some w →
      (s.slot w.incoming).state ≠ .starting ∧ (s.slot w.outgoing).state ≠ .starting) :
    (slotsTicked s).rect.rotationParts = s.rect.rotationParts := by
  generalize counted : hoursAdded s = u
  have parts : u.rect.rotationParts = s.rect.rotationParts := by rw [← counted, (hoursAdded_step s).frame]; rfl
  have state (j : Nat) : (u.slot j).state = (s.slot j).state := by
    rw [← counted, hoursAdded_slot size]
    split
    · exact timed_state _
    · rfl
  have starts : (startsTicked u).rect.rotationParts = s.rect.rotationParts := by
    refine foldl_ticks (P := fun v => v.rect.rotationParts = s.rect.rotationParts) (fittedSlots_nodup u) parts
      (fun _ _ v ne => startTick_slot_ne v ne) fun i _ v same slot => ?_
    have swap : v.rect.swap = s.rect.swap := congrArg Prod.fst same
    unfold startTick
    split
    · next starting =>
      have was : (s.slot i).state = .starting := by rw [← state, ← slot, starting]
      split
      · refine (enterFault_apart fun w held => ?_).trans same
        obtain ⟨incoming, outgoing⟩ := started w (swap ▸ held)
        exact ⟨fun e => incoming (e ▸ was), fun e => outgoing (e ▸ was)⟩
      · exact same
    · exact same
  rw [slotsTicked, counted]
  exact foldl_ticks (P := fun v => v.rect.rotationParts = s.rect.rotationParts) (fittedSlots_nodup _) starts
    (fun _ _ v ne => recoveryTick_slot_ne v ne) fun i _ v same _ => (recoveryTick_rotationParts i v).trans same

/-! ## No start and no recovery -/

/-- With no slot STARTING or in FAULT the first steps are the hours alone. -/
theorem slotsTicked_quiet {s : State} (size : s.rect.fitted ≤ s.rect.slots.length)
    (quiet : ∀ i, i < s.rect.fitted → (s.slot i).state ≠ .starting ∧ (s.slot i).state ≠ .fault) :
    slotsTicked s = hoursAdded s := by
  have fitted : (hoursAdded s).rect.fitted = s.rect.fitted := by rw [(hoursAdded_step s).frame]
  have state (i : Nat) : ((hoursAdded s).slot i).state = (s.slot i).state := by
    rw [hoursAdded_slot size]
    split
    · exact timed_state _
    · rfl
  have still (i : Nat) (hi : i ∈ (hoursAdded s).fittedSlots) :
      ((hoursAdded s).slot i).state ≠ .starting ∧ ((hoursAdded s).slot i).state ≠ .fault := by
    rw [state]
    exact quiet i (by rw [← fitted]; exact mem_fittedSlots.1 hi)
  have starts : startsTicked (hoursAdded s) = hoursAdded s :=
    foldl_ticks_none fun i hi => if_neg (still i hi).1
  rw [slotsTicked, starts]
  exact foldl_ticks_none fun i hi => if_neg fun fault => (still i hi).2 fault.1

end Sys2Proof.Machine
end

section
/-! SUPPORT. The modules started, stopped and swapped at a measurement event (R92, R93, R106 to R108, R110): the choices of
the scheduler and what they make of the slots. -/

namespace Sys2Proof.Machine

/-! ## The slot of most hours (R93) -/

theorem foldl_moreHours_most {s : State} {l : List Nat} {best : Option Nat} {o : Nat}
    (h : l.foldl (moreHours s) best = some o) :
    (∀ j ∈ l, s.hours j ≤ s.hours o) ∧ ∀ b, best = some b → s.hours b ≤ s.hours o := by
  induction l generalizing best with
  | nil => exact ⟨by simp, fun b hb => by rw [Option.some.inj (hb.symm.trans h)]⟩
  | cons i l ih =>
    obtain ⟨rest, first⟩ := ih h
    have reached : s.hours i ≤ s.hours o ∧ ∀ b, best = some b → s.hours b ≤ s.hours o := by
      cases best with
      | none => exact ⟨first i rfl, by simp⟩
      | some b =>
        by_cases more : s.hours b ≤ s.hours i
        · have most := first i (if_pos more)
          exact ⟨most, fun x hx => by rw [← Option.some.inj hx]; omega⟩
        · have most := first b (if_neg more)
          exact ⟨by omega, fun x hx => by rw [← Option.some.inj hx]; exact most⟩
    refine ⟨fun j hj => ?_, reached.2⟩
    rcases List.mem_cons.1 hj with rfl | hj
    · exact reached.1
    · exact rest j hj

theorem mostHours_most {s : State} {l : List Nat} {o : Nat} (h : mostHours s l = some o) :
    ∀ j ∈ l, s.hours j ≤ s.hours o := (foldl_moreHours_most h).1

/-- A slot with more hours than every other is the one of most hours. -/
theorem mostHours_of_most {s : State} {l : List Nat} {o : Nat} (mem : o ∈ l)
    (most : ∀ j ∈ l, j ≠ o → s.hours j < s.hours o) : mostHours s l = some o := by
  obtain ⟨i, found, hi⟩ := mostHours_mem (s := s) (List.ne_nil_of_mem mem)
  by_cases same : i = o
  · rw [found, same]
  · have less := most i hi same
    have more := mostHours_most found o mem
    omega

/-! ## Operations of the scheduler -/

theorem dropFreed_sched (s : State) : SchedStep s (dropFreed s) := .ite _ (.onRect s ⟨rfl, rfl, rfl, rfl, rfl⟩) (.refl s)

@[simp] theorem dropFreed_keeps (s : State) : (dropFreed s).rect.slots = s.rect.slots ∧
    (dropFreed s).rect.running = s.rect.running ∧ (dropFreed s).rect.queue = s.rect.queue ∧
    (dropFreed s).rect.swap = s.rect.swap ∧ (dropFreed s).rect.lastSwap = s.rect.lastSwap ∧
    (dropFreed s).rect.rotation = s.rect.rotation ∧ (dropFreed s).rect.spacing = s.rect.spacing ∧
    (dropFreed s).rect.dwell = s.rect.dwell := by
  rw [dropFreed_rect]
  split <;> simp

@[simp] theorem dropFreed_slot (s : State) : (dropFreed s).slot = s.slot := slot_congr (by simp)

theorem dropFreed_request {s : State} (h : s.rect.rotationRequest = false) :
    (dropFreed s).rect.rotationRequest = false := by
  rw [dropFreed_rect]
  split
  · rfl
  · exact h

theorem spacing_sched (s : State) : SchedStep s (s.onRect fun r => { r with spacing := 0, dwell := 0 }) :=
  .onRect s ⟨rfl, rfl, rfl, rfl, rfl⟩

theorem dwell_sched (s : State) : SchedStep s (s.onRect fun r => { r with dwell := 0 }) :=
  .onRect s ⟨rfl, rfl, rfl, rfl, rfl⟩

theorem startHead_sched (s : State) : SchedStep s (startHead s) := by
  unfold startHead
  split
  · exact .refl s
  · exact (changeSlot_sched _ .starting s).trans (spacing_sched _)

theorem beginSwap_sched (i o : Nat) (s : State) : SchedStep s (beginSwap i o s) :=
  ((SchedStep.onRect (f := Rect.swapBegun i o) s ⟨rfl, rfl, rfl, rfl, rfl⟩).trans (changeSlot_sched i .starting _)).trans
    (spacing_sched _)

theorem finishSwap_sched (s : State) : SchedStep s (finishSwap s) := by
  unfold finishSwap
  split
  · exact .refl s
  · exact .ite _ (((changeSlot_sched _ .standby s).trans (dwell_sched _)).trans (endSwap_sched _ _)) (endSwap_sched _ s)

theorem overlapWork_sched (s : State) : SchedStep s (overlapWork s) := .ite _ (finishSwap_sched s) (.refl s)

theorem stopOne_sched (s : State) : SchedStep s (stopOne s) := by
  rcases stopOne_cases s with h | ⟨i, -, h⟩ <;> rw [h]
  · exact .refl s
  · exact changeSlot_sched i .standby s

theorem stopWork_sched (s : State) : SchedStep s (stopWork s) := .ite _ ((stopOne_sched s).trans (dwell_sched _)) (.refl s)

theorem swapWork_sched (s : State) : SchedStep s (swapWork s) := by
  unfold swapWork
  refine .ite _ ?_ (dropFreed_sched s)
  split
  · exact beginSwap_sched _ _ s
  · exact dropFreed_sched s

theorem countWork_sched (s : State) : SchedStep s (countWork s) :=
  .ite _ ((startHead_sched s).trans (dropFreed_sched _)) ((stopWork_sched s).trans (swapWork_sched _))

theorem SchedStep.nUp {s t : State} (h : SchedStep s t) : t.nUp = s.nUp := by
  obtain ⟨up, -, -, -⟩ := h.counts
  exact nUp_congr (by rw [h.frame]) (by rw [h.frame]) up

theorem SchedStep.nDown {s t : State} (h : SchedStep s t) : t.nDown = s.nDown := by
  obtain ⟨-, down, -, -⟩ := h.counts
  exact nDown_congr (by rw [h.frame]) (by rw [h.frame]) down

/-! ## The choices (R92, R93, R107) -/

/-- R92: the head of the queue is started, and nothing else is done. -/
theorem countWork_starts {s : State} {i : Nat} {rest : List Nat} (short : s.nRun < s.nUp)
    (spaced : s.inForce 4 4 ≤ s.rect.spacing) (queue : s.rect.queue = i :: rest) : countWork s =
      dropFreed ((changeSlot i .starting s).onRect fun r => { r with spacing := 0, dwell := 0 }) := by
  rw [countWork, if_pos ⟨short, spaced, by rw [queue]; simp⟩, startHead, queue]

theorem countWork_stays {s : State} (h : ¬ (s.nRun < s.nUp ∧ s.inForce 4 4 ≤ s.rect.spacing ∧ s.rect.queue ≠ [])) :
    countWork s = swapWork (stopWork s) := if_neg h

/-- R93: a slot of most hours is stopped. -/
theorem stopWork_stops {s : State} (exceeds : max s.nDown s.nUp < s.nRun) (dwelt : s.inForce 4 5 ≤ s.rect.dwell)
    (none_ : s.rect.swap = none) : ∃ o ∈ s.rect.running, mostHours s s.rect.running = some o ∧
      stopWork s = (changeSlot o .standby s).onRect fun r => { r with dwell := 0 } := by
  have some_ : s.rect.running ≠ [] := List.ne_nil_of_length_pos (Nat.zero_lt_of_lt exceeds)
  obtain ⟨o, most, mem⟩ := mostHours_mem (s := s) some_
  refine ⟨o, mem, most, ?_⟩
  rw [stopWork, if_pos ⟨exceeds, dwelt, none_⟩, stopOne, most]

theorem stopWork_stays {s : State}
    (h : ¬ (max s.nDown s.nUp < s.nRun ∧ s.inForce 4 5 ≤ s.rect.dwell ∧ s.rect.swap = none)) : stopWork s = s := if_neg h

/-- Either nothing is stopped, or a slot of most hours while n_run exceeds n_up. -/
theorem stopWork_cases (s : State) : stopWork s = s ∨
    s.nUp < s.nRun ∧ s.rect.swap = none ∧ ∃ o ∈ s.rect.running, mostHours s s.rect.running = some o ∧
      stopWork s = (changeSlot o .standby s).onRect fun r => { r with dwell := 0 } := by
  by_cases stops : max s.nDown s.nUp < s.nRun ∧ s.inForce 4 5 ≤ s.rect.dwell ∧ s.rect.swap = none
  · obtain ⟨exceeds, dwelt, none_⟩ := stops
    exact .inr ⟨(Nat.le_max_right _ _).trans_lt exceeds, none_, stopWork_stops exceeds dwelt none_⟩
  · exact .inl (stopWork_stays stops)

theorem stopWork_rotationParts (s : State) : (stopWork s).rect.rotationParts = s.rect.rotationParts := by
  rcases stopWork_cases s with h | ⟨-, -, o, -, -, h⟩ <;> rw [h]
  exact changeSlot_rotationParts o .standby s

theorem swapWork_begins {s : State} {i o : Nat} (due_ : (rotationIsDue s || s.rect.rotationRequest) = true)
    (free : s.sup.hold = none) (spaced : s.inForce 4 4 ≤ s.rect.spacing) (pair : swapPair s = some (i, o)) :
    swapWork s = beginSwap i o s := by
  rw [swapWork, if_pos ⟨due_, free, spaced⟩, pair]

theorem swapWork_stays {s : State} (h : ¬ ((rotationIsDue s || s.rect.rotationRequest) = true ∧ s.sup.hold = none ∧
    s.inForce 4 4 ≤ s.rect.spacing)) : swapWork s = dropFreed s := if_neg h

theorem swapWork_cases (s : State) :
    swapWork s = dropFreed s ∨ ∃ i o, swapPair s = some (i, o) ∧ swapWork s = beginSwap i o s := by
  unfold swapWork
  split
  · split
    · next i o pair => exact .inr ⟨i, o, pair, rfl⟩
    · exact .inl rfl
  · exact .inl rfl

/-! ## What they make of the slots -/

/-- Modules have been started, stopped or swapped at an event: a slot of neither list stands, a STANDBY slot may have been
started, and one of the running list, with n_run above n_up, stopped. -/
structure Shuffled (s t : State) : Prop where
  stands : ∀ j, (s.slot j).state ≠ .standby → (s.slot j).state.commanded = false → t.slot j = s.slot j
  waits : ∀ j, (s.slot j).state = .standby → (t.slot j).state = .standby ∨ (t.slot j).state = .starting
  runs : ∀ j, (s.slot j).state.commanded = true →
    t.slot j = s.slot j ∨ (t.slot j).state = .standby ∧ t.nUp < s.nRun

theorem Shuffled.of_slots {s t : State} (h : t.slot = s.slot) : Shuffled s t :=
  ⟨fun _ _ _ => by rw [h], fun _ waits => .inl (by rw [h]; exact waits), fun _ _ => .inl (by rw [h])⟩

/-- A STANDBY slot started, the others left. -/
theorem Shuffled.started {s t : State} {i : Nat} (standby : (s.slot i).state = .standby)
    (state : (t.slot i).state = .starting) (others : ∀ j, j ≠ i → t.slot j = s.slot j) : Shuffled s t where
  stands j other _ := others j fun e => other (e ▸ standby)
  waits j waits := by
    by_cases same : j = i
    · exact .inr (by rw [same, state])
    · exact .inl (by rw [others j same]; exact waits)
  runs j runs := .inl (others j fun e => by simp [e, standby, SlotState.commanded] at runs)

theorem State.RosterPlaced.standby_of_head {s : State} (placed : s.RosterPlaced) {i : Nat}
    (head : s.rect.queue.head? = some i) : i < 12 ∧ (s.slot i).state = .standby :=
  placed.mem_queue.1 (List.mem_of_mem_head? head)

theorem beginSwap_started {s : State} {i o : Nat} (placed : s.RosterPlaced) (pair : swapPair s = some (i, o)) :
    (s.slot i).state = .standby ∧ ((beginSwap i o s).slot i).state = .starting ∧
      ∀ j, j ≠ i → (beginSwap i o s).slot j = s.slot j := by
  obtain ⟨-, head, -, -, -⟩ := swapPair_some pair
  obtain ⟨-, standby⟩ := placed.standby_of_head head
  obtain ⟨slot, others⟩ := beginSwap_slot (o := o) placed standby
  exact ⟨standby, by rw [slot]; rfl, others⟩

theorem swapWork_shuffled {s : State} (placed : s.RosterPlaced) : Shuffled s (swapWork s) := by
  rcases swapWork_cases s with h | ⟨i, o, pair, h⟩ <;> rw [h]
  · exact .of_slots (dropFreed_slot s)
  · obtain ⟨standby, state, others⟩ := beginSwap_started placed pair
    exact .started standby state others

/-- A swap that begins starts a STANDBY slot, and moves no other. -/
theorem swapWork_slot {s : State} (placed : s.RosterPlaced) {j : Nat} (other : (s.slot j).state ≠ .standby) :
    (swapWork s).slot j = s.slot j := by
  rcases swapWork_cases s with h | ⟨i, o, pair, h⟩ <;> rw [h]
  · rw [dropFreed_slot]
  · obtain ⟨standby, -, others⟩ := beginSwap_started placed pair
    exact others j fun e => other (e ▸ standby)

/-- A slot that stops stands in STANDBY, the others are left. -/
theorem stopped_slot {s : State} (placed : s.RosterPlaced) {o : Nat} (mem : o ∈ s.rect.running) :
    ((changeSlot o .standby s).slot o).state = .standby ∧
      ∀ j, j ≠ o → (changeSlot o .standby s).slot j = s.slot j :=
  ⟨changeSlot_state .standby (by rw [placed.size]; exact (placed.mem_running.1 mem).1),
    fun _ ne => changeSlot_slot_ne .standby s ne⟩

/-- R93, R107: a slot that is stopped for its hours is not the one that a swap of the same event starts. -/
theorem stopped_not_incoming {s u : State} {i o x : Nat} (most : ∀ j ∈ s.rect.running, s.hours j ≤ s.hours o)
    (hours : ∀ j, u.hours j = s.hours j) (running : ∀ j ∈ u.rect.running, j ∈ s.rect.running)
    (pair : swapPair u = some (i, x)) : i ≠ o := by
  obtain ⟨-, -, candidate, margin, -⟩ := swapPair_some pair
  have less := most x (running x (outgoingCandidate_mem candidate).1)
  rw [hours, hours] at margin
  rintro rfl
  omega

theorem countWork_shuffled {s : State} (placed : s.RosterPlaced) : Shuffled s (countWork s) := by
  by_cases starts : s.nRun < s.nUp ∧ s.inForce 4 4 ≤ s.rect.spacing ∧ s.rect.queue ≠ []
  · obtain ⟨short, spaced, some_⟩ := starts
    obtain ⟨i, rest, queue⟩ := List.exists_cons_of_ne_nil some_
    obtain ⟨-, standby⟩ := placed.standby_of_head (i := i) (by rw [queue]; rfl)
    rw [countWork_starts short spaced queue]
    refine .started standby ?_ fun j ne => ?_
    · rw [dropFreed_slot]
      exact congrArg Slot.state (changeSlot_started_slot placed standby)
    · rw [dropFreed_slot]
      exact changeSlot_slot_ne .starting s ne
  · rw [countWork_stays starts]
    rcases stopWork_cases s with h | ⟨exceeds, -, o, mem, most, h⟩
    · rw [h]
      exact swapWork_shuffled placed
    · obtain ⟨state, others⟩ := stopped_slot placed mem
      have commanded := (placed.mem_running.1 mem).2
      have notStandby := placed.ne_standby mem
      have sched := stopWork_sched s
      have placed' := (stopWork_rosterStep s).placed placed
      have running : (stopWork s).rect.running = s.rect.running.erase o := by
        rw [h]
        exact changeSlot_stopped_running placed
      have slot : (stopWork s).slot = (changeSlot o .standby s).slot := by rw [h]; rfl
      have after := swapWork_shuffled placed'
      have stopped : ((swapWork (stopWork s)).slot o).state = .standby := by
        rcases swapWork_cases (stopWork s) with stays | ⟨i, x, pair, begins⟩
        · rw [stays, dropFreed_slot, slot, state]
        · have ne : i ≠ o := stopped_not_incoming (mostHours_most most) (fun j => (sched.time j).1)
            (fun j hj => List.mem_of_mem_erase (running ▸ hj)) pair
          obtain ⟨-, -, apart⟩ := beginSwap_started placed' pair
          rw [begins, apart o ne.symm, slot, state]
      refine ⟨fun j other idle => ?_, fun j waits => ?_, fun j runs => ?_⟩
      · have ne : j ≠ o := fun e => by simp [e, commanded] at idle
        have same : (stopWork s).slot j = s.slot j := by rw [slot, others j ne]
        rw [after.stands j (by rw [same]; exact other) (by rw [same]; exact idle), same]
      · have ne : j ≠ o := fun e => notStandby (e ▸ waits)
        exact after.waits j (by rw [slot, others j ne]; exact waits)
      · by_cases same : j = o
        · exact .inr ⟨same ▸ stopped, by rw [(sched.trans (swapWork_sched _)).nUp]; exact exceeds⟩
        · have kept : (stopWork s).slot j = s.slot j := by rw [slot, others j same]
          have other : ((stopWork s).slot j).state ≠ .standby := fun e => by
            rw [kept] at e
            simp [e, SlotState.commanded] at runs
          exact .inl ((swapWork_slot placed' other).trans kept)

end Sys2Proof.Machine
end

section
/-! SUPPORT. The end of an overlap and the count of modules at one measurement event (R90 to R93, R107, R108). -/

namespace Sys2Proof.Machine

/-! ## The counts advanced and formed (R89 to R91) -/

theorem countsFormed_rect (s : State) : (countsFormed s).rect = { s.rect with
    spacing := min (s.inForce 4 4) (s.rect.spacing + 1), dwell := min (s.inForce 4 5) (s.rect.dwell + 1)
    settle := min 10 (s.rect.settle + 1), rotation := min 2592000 (s.rect.rotation + 1)
    swap := s.rect.swap.map Swap.overlapSecond, upFormed := upCount s, downFormed := downCount s } := rfl

theorem countsFormed_roster (s : State) : RosterStep s (countsFormed s) :=
  (advanceCounts_rosterStep s).trans (.of_eq ⟨rfl, rfl, rfl, rfl, rfl⟩)

/-! ## A swap that ends (R108) -/

/-- No swap is in flight, none is requested, and the rotation counter has begun again. -/
structure SwapRested (s : State) : Prop where
  swap : s.rect.swap = none
  rotation : s.rect.rotation = 0
  request : s.rect.rotationRequest = false

theorem SwapRested.of_parts {s t : State} (h : SwapRested s) (parts : t.rect.rotationParts = s.rect.rotationParts) :
    SwapRested t := by
  obtain ⟨swap, -, rotation, request, -⟩ : t.rect.swap = s.rect.swap ∧ t.rect.lastSwap = s.rect.lastSwap ∧
      t.rect.rotation = s.rect.rotation ∧ t.rect.rotationRequest = s.rect.rotationRequest ∧
      t.rect.requestFreed = s.rect.requestFreed := by simpa [Rect.rotationParts] using parts
  exact ⟨swap.trans h.swap, rotation.trans h.rotation, request.trans h.request⟩

theorem lastSwap_of_parts {s t : State} (parts : t.rect.rotationParts = s.rect.rotationParts) :
    t.rect.lastSwap = s.rect.lastSwap := congrArg (fun p => p.2.1) parts

theorem SwapRested.dropFreed {s : State} (h : SwapRested s) : SwapRested (dropFreed s) :=
  ⟨by simp [h.swap], by simp [h.rotation], dropFreed_request h.request⟩

/-- Behind a swap that ends none begins at the same event. -/
theorem SwapRested.swapWork {s : State} (h : SwapRested s) : swapWork s = Machine.dropFreed s := by
  refine swapWork_stays fun ⟨due_, _, _⟩ => ?_
  rw [h.request, Bool.or_false, rotationIsDue, decide_eq_true_iff, h.rotation] at due_
  obtain ⟨on, reached⟩ := due_
  omega

/-- R108: how a swap whose overlap has run out ends. -/
theorem finishSwap_ended {s : State} {w : Swap} (swap : s.rect.swap = some w) : SwapRested (finishSwap s) ∧
    (finishSwap s).rect.lastSwap = some
      { incoming := w.incoming, outgoing := w.outgoing
        outcome := if s.nUp < s.nRun then .completed else .absorbed, endTime := s.stamp } := by
  by_cases enough : s.nUp < s.nRun
  · have rect := finishSwap_completed_rect swap enough
    rw [rect, if_pos enough]
    exact ⟨⟨congrArg Rect.swap rect, congrArg Rect.rotation rect, congrArg Rect.rotationRequest rect⟩, rfl⟩
  · have rect := (congrArg State.rect (finishSwap_absorbed swap (Nat.le_of_not_lt enough))).trans
      (endSwap_rect .absorbed swap)
    rw [rect, if_neg enough]
    exact ⟨⟨congrArg Rect.swap rect, congrArg Rect.rotation rect, congrArg Rect.rotationRequest rect⟩, rfl⟩

theorem finishSwap_completed_running {s : State} {w : Swap} (placed : s.RosterPlaced) (swap : s.rect.swap = some w)
    (enough : s.nUp < s.nRun) : (finishSwap s).rect.running = s.rect.running.erase w.outgoing := by
  rw [finishSwap_completed_rect swap enough]
  exact changeSlot_stopped_running placed

theorem finishSwap_absorbed_slot {s : State} {w : Swap} (swap : s.rect.swap = some w) (short : s.nRun ≤ s.nUp) :
    (finishSwap s).slot = s.slot ∧ (finishSwap s).nRun = s.nRun := by
  rw [finishSwap_absorbed swap short, endSwap_slot, State.nRun]
  simp [State.nRun]

/-! ## The count behind a swap that has ended -/

/-- Behind a swap that ends, n_run not below n_up, a stop is all that can follow. -/
theorem countWork_rested {s : State} (rested : SwapRested s) (enough : s.nUp ≤ s.nRun) :
    countWork s = dropFreed (stopWork s) := by
  have still := rested.of_parts (stopWork_rotationParts s)
  rw [countWork_stays fun starts => Nat.not_lt.2 enough starts.1, still.swapWork]

/-- Behind a swap that ends, whatever the count brings, there is none in flight and the last one stands. -/
theorem SwapRested.countWork {s : State} (rested : SwapRested s) :
    SwapRested (countWork s) ∧ (countWork s).rect.lastSwap = s.rect.lastSwap := by
  have last (t : State) : (Machine.dropFreed t).rect.lastSwap = t.rect.lastSwap := by simp
  have keeps {t : State} (parts : t.rect.rotationParts = s.rect.rotationParts) :
      SwapRested (Machine.dropFreed t) ∧ (Machine.dropFreed t).rect.lastSwap = s.rect.lastSwap :=
    ⟨(rested.of_parts parts).dropFreed, (last t).trans (lastSwap_of_parts parts)⟩
  by_cases starts : s.nRun < s.nUp ∧ s.inForce 4 4 ≤ s.rect.spacing ∧ s.rect.queue ≠ []
  · obtain ⟨short, spaced, some_⟩ := starts
    obtain ⟨i, rest, queue⟩ := List.exists_cons_of_ne_nil some_
    rw [countWork_starts short spaced queue]
    exact keeps (changeSlot_rotationParts i .starting s)
  · have still := rested.of_parts (stopWork_rotationParts s)
    rw [countWork_stays starts, still.swapWork]
    exact keeps (stopWork_rotationParts s)

/-- A STANDBY slot is not stopped. -/
theorem stopWork_slot {s : State} (placed : s.RosterPlaced) {j : Nat} (standby : (s.slot j).state = .standby) :
    (stopWork s).slot j = s.slot j := by
  rcases stopWork_cases s with h | ⟨-, -, o, mem, -, h⟩ <;> rw [h]
  exact (stopped_slot placed mem).2 j fun e => placed.ne_standby mem (e ▸ standby)

/-! ## The overlap and the count together -/

theorem overlapWork_cases (s : State) : overlapWork s = s ∨ ∃ w, s.rect.swap = some w ∧ overlapWork s = finishSwap s := by
  cases swap : s.rect.swap with
  | none => exact .inl (by simp [overlapWork, swap])
  | some w =>
    unfold overlapWork
    split
    · exact .inr ⟨w, rfl, rfl⟩
    · exact .inl rfl

/-- What the modules' part of an event makes of the slots. -/
theorem countWork_overlapWork_shuffled {s : State} (placed : s.RosterPlaced) (swapPlaced : s.SwapPlaced) :
    Shuffled s (countWork (overlapWork s)) := by
  rcases overlapWork_cases s with h | ⟨w, swap, h⟩ <;> rw [h]
  · exact countWork_shuffled placed
  · have placed' := (finishSwap_rosterStep s).placed placed
    have after := countWork_shuffled placed'
    have up := (finishSwap_sched s).nUp
    have formed : (countWork (finishSwap s)).nUp = s.nUp := (countWork_sched _).nUp.trans up
    by_cases enough : s.nUp < s.nRun
    · obtain ⟨-, mem, -, -⟩ := swapPlaced w swap
      obtain ⟨state, others⟩ := stopped_slot placed mem
      have commanded := (placed.mem_running.1 mem).2
      have slot := finishSwap_completed_slot swap enough
      have fewer : (finishSwap s).nRun = s.nRun - 1 := by
        rw [State.nRun, finishSwap_completed_running placed swap enough, List.length_erase_of_mem mem]
        rfl
      have stopped : ((countWork (finishSwap s)).slot w.outgoing).state = .standby := by
        rw [countWork_rested (finishSwap_ended swap).1 (by omega), dropFreed_slot,
          stopWork_slot placed' (by rw [slot, state]), slot, state]
      refine ⟨fun j other idle => ?_, fun j waits => ?_, fun j runs => ?_⟩
      · have ne : j ≠ w.outgoing := fun e => by simp [e, commanded] at idle
        have same : (finishSwap s).slot j = s.slot j := by rw [slot, others j ne]
        rw [after.stands j (by rw [same]; exact other) (by rw [same]; exact idle), same]
      · have ne : j ≠ w.outgoing := fun e => by simp [← e, waits, SlotState.commanded] at commanded
        exact after.waits j (by rw [slot, others j ne]; exact waits)
      · by_cases same : j = w.outgoing
        · exact .inr ⟨same ▸ stopped, by rw [formed]; exact enough⟩
        · have kept : (finishSwap s).slot j = s.slot j := by rw [slot, others j same]
          rcases after.runs j (by rw [kept]; exact runs) with stays | ⟨standby, -⟩
          · exact .inl (stays.trans kept)
          · exact .inr ⟨standby, by rw [formed]; exact enough⟩
    · obtain ⟨slot, count⟩ := finishSwap_absorbed_slot swap (Nat.le_of_not_lt enough)
      refine ⟨fun j other idle => ?_, fun j waits => after.waits j (by rw [slot]; exact waits), fun j runs => ?_⟩
      · rw [after.stands j (by rw [slot]; exact other) (by rw [slot]; exact idle), slot]
      · rcases after.runs j (by rw [slot]; exact runs) with stays | ⟨-, more⟩
        · exact .inl (by rw [stays, slot])
        · omega

end Sys2Proof.Machine
end

section
/-! SUPPORT. What a measurement event leaves at the scheduler (R89 to R91, R95, R99, R100, R105): every slot's record, the
counts formed and Im. -/

namespace Sys2Proof.Machine

/-! ## The end of the event (R91, R95, R101, R102) -/

theorem eventReported_rect (s : State) : (eventReported s).rect = { s.rect with im := s.moduleLimit } := by
  simp [eventReported]

theorem eventReported_slot (s : State) : (eventReported s).slot = s.slot := slot_congr (by rw [eventReported_rect])

theorem eventReported_frame (s : State) :
    eventReported s = { s with rect := (eventReported s).rect, alarm := (eventReported s).alarm } := by
  apply State.ext_parts <;> simp [eventReported]

/-- Im is as it is formed at the end of the event. -/
theorem eventReported_limit (s : State) : (eventReported s).rect.im = (eventReported s).moduleLimit := by
  have same : (eventReported s).moduleLimit = s.moduleLimit := by
    refine moduleLimit_congr ?_ ?_ (by rw [eventReported_rect]) ?_ ?_ <;> rw [eventReported_frame]
  rw [same, eventReported_rect]

theorem eventReported_nUp (s : State) : (eventReported s).nUp = s.nUp ∧ (eventReported s).nDown = s.nDown :=
  ⟨nUp_congr (by rw [eventReported_frame]) (by rw [eventReported_frame]) (by rw [eventReported_rect]),
    nDown_congr (by rw [eventReported_frame]) (by rw [eventReported_frame]) (by rw [eventReported_rect])⟩

/-- RECT_SHORTFALL says whether the raised count exceeds n_up. -/
theorem eventReported_shortfall {s : State} (records : s.alarm.records.length = 40) :
    ((eventReported s).record 19).cond = shortfall s := by
  have faults (u : State) : (reportFaults u).record 19 = u.record 19 :=
    (report_record_ne 17 19 _ _ (by decide)).trans (report_record_ne 16 19 _ _ (by decide))
  have lost (u : State) : (reportLost u).record 19 = u.record 19 := report_record_ne alRectLost 19 _ u (by decide)
  rw [eventReported, faults, lost]
  exact report_cond 19 _ _ (by rw [show (recomputeIm s).alarm = s.alarm by simp, records]; decide)

/-! ## The modules' part of the event -/

theorem modulesMoved_on {s : State} (ac : s.sup.ac = true) :
    modulesMoved s = countWork (overlapWork (countsFormed s)) := if_pos ac

theorem modulesMoved_off {s : State} (ac : s.sup.ac = false) : modulesMoved s = dropFreed s := if_neg (by simp [ac])

theorem countedOn_sched (s : State) : SchedStep (countsFormed s) (countWork (overlapWork (countsFormed s))) :=
  (overlapWork_sched _).trans (countWork_sched _)

theorem modulesMoved_frame (s : State) :
    modulesMoved s = { s with rect := (modulesMoved s).rect, alarm := (modulesMoved s).alarm } := by
  cases ac : s.sup.ac with
  | true =>
    rw [modulesMoved_on ac]
    exact (countedOn_sched s).frame
  | false =>
    rw [modulesMoved_off ac]
    exact (dropFreed_sched s).frame

theorem modulesMoved_time (s : State) (j : Nat) : ((modulesMoved s).slot j).hours = (s.slot j).hours ∧
    ((modulesMoved s).slot j).residue = (s.slot j).residue := by
  cases ac : s.sup.ac with
  | true =>
    rw [modulesMoved_on ac]
    exact (countedOn_sched s).time j
  | false =>
    rw [modulesMoved_off ac]
    exact (dropFreed_sched s).time j

theorem modulesMoved_kept (s : State) : (modulesMoved s).alarm.records.length = s.alarm.records.length ∧
    (modulesMoved s).rect.fitted = s.rect.fitted := by
  cases ac : s.sup.ac with
  | true =>
    obtain ⟨-, -, -, fitted⟩ := (countedOn_sched s).counts
    rw [modulesMoved_on ac]
    exact ⟨(countedOn_sched s).rows, fitted⟩
  | false =>
    obtain ⟨-, -, -, fitted⟩ := (dropFreed_sched s).counts
    rw [modulesMoved_off ac]
    exact ⟨(dropFreed_sched s).rows, fitted⟩

theorem modulesMoved_shuffled {s : State} (placed : s.RosterPlaced) (swapPlaced : s.SwapPlaced) :
    Shuffled s (modulesMoved s) := by
  cases ac : s.sup.ac with
  | true =>
    have formed := countsFormed_roster s
    have moved := countWork_overlapWork_shuffled (formed.placed placed) (formed.swapped placed swapPlaced)
    rw [modulesMoved_on ac]
    exact ⟨moved.stands, moved.waits, moved.runs⟩
  | false =>
    rw [modulesMoved_off ac]
    exact .of_slots (dropFreed_slot s)

/-! ## Every slot behind the event -/

/-- The states that R91 counts as available. -/
def SlotState.available (x : SlotState) : Bool := x == .standby || x == .starting || x == .running

theorem Shuffled.available {s t : State} (h : Shuffled s t) (j : Nat) :
    (t.slot j).state.available = (s.slot j).state.available := by
  by_cases standby : (s.slot j).state = .standby
  · rcases h.waits j standby with now | now <;> simp [standby, now, SlotState.available]
  · cases commanded : (s.slot j).state.commanded with
    | false => rw [h.stands j standby commanded]
    | true =>
      rcases h.runs j commanded with same | ⟨now, -⟩
      · rw [same]
      · rcases (commanded_iff _).1 commanded with was | was <;> simp [was, now, SlotState.available]

theorem availableCount_eq (s : State) :
    availableCount s = ((List.range s.rect.fitted).filter fun i => (s.slot i).state.available).length := rfl

theorem Shuffled.availableCount {s t : State} (h : Shuffled s t) (fitted : t.rect.fitted = s.rect.fitted) :
    availableCount t = availableCount s := by
  simp [availableCount_eq, fitted, h.available]

/-- The roster and the swap behind the first steps. -/
theorem slotsTicked_placed {s : State} (placed : s.RosterPlaced) (swapPlaced : s.SwapPlaced) :
    (slotsTicked s).RosterPlaced ∧ (slotsTicked s).SwapPlaced :=
  ⟨(slotsTicked_roster s).placed placed, (slotsTicked_roster s).swapped placed swapPlaced⟩

/-- What the event makes of the slots behind its first steps. -/
theorem rectEvent_shuffled {s : State} (placed : s.RosterPlaced) (swapPlaced : s.SwapPlaced)
    (fitted : s.rect.fitted = s.inForce 0 15) : Shuffled (slotsTicked s) (rectEvent s) := by
  obtain ⟨placed', swapPlaced'⟩ := slotsTicked_placed placed swapPlaced
  have moved := modulesMoved_shuffled placed' swapPlaced'
  rw [rectEvent_eq fitted]
  refine ⟨fun j other idle => ?_, fun j waits => ?_, fun j runs => ?_⟩ <;> rw [eventReported_slot]
  · exact moved.stands j other idle
  · exact moved.waits j waits
  · rw [(eventReported_nUp _).1]
    exact moved.runs j runs

theorem rectEvent_moves {s : State} (fitted : s.rect.fitted = s.inForce 0 15) :
    rectEvent s = { s with rect := (rectEvent s).rect, alarm := (rectEvent s).alarm } := by
  have ticked := slotsTicked_frame s
  have moved := modulesMoved_frame (slotsTicked s)
  have reported := eventReported_frame (modulesMoved (slotsTicked s))
  rw [rectEvent_eq fitted]
  generalize eventReported (modulesMoved (slotsTicked s)) = w at *
  generalize modulesMoved (slotsTicked s) = u at *
  rw [moved, ticked] at reported
  exact reported

/-- R105: the hours are those of the first step. -/
theorem rectEvent_time {s : State} (placed : s.RosterPlaced) (fitted : s.rect.fitted = s.inForce 0 15)
    (size : s.rect.fitted ≤ 12) (j : Nat) :
    ((rectEvent s).slot j).hours = (if j < s.rect.fitted then (s.slot j).timed else s.slot j).hours ∧
      ((rectEvent s).slot j).residue = (if j < s.rect.fitted then (s.slot j).timed else s.slot j).residue := by
  obtain ⟨hours, residue⟩ := (slotsTicked_sched s).time j
  obtain ⟨hours', residue'⟩ := modulesMoved_time (slotsTicked s) j
  rw [hoursAdded_slot (by rw [placed.size]; exact size)] at hours residue
  rw [rectEvent_eq fitted, eventReported_slot]
  exact ⟨hours'.trans hours, residue'.trans residue⟩

/-! ## The counts formed (R90, R91) -/

/-- R91: n_up and n_down are formed at the event from what is available behind it, and RECT_SHORTFALL compares. -/
theorem rectEvent_counts {s : State} (records : s.alarm.records.length = 40) (placed : s.RosterPlaced)
    (swapPlaced : s.SwapPlaced) (fitted : s.rect.fitted = s.inForce 0 15) (ac : s.sup.ac = true) :
    (rectEvent s).nUp = s.capped (min (raisedCount s (capacityHigh s)) (availableCount (rectEvent s))) ∧
      (rectEvent s).nDown = s.capped (min (raisedCount s (capacityLow s)) (availableCount (rectEvent s))) ∧
      (((rectEvent s).record 19).cond = true ↔ (rectEvent s).nUp < raisedCount s (capacityHigh s)) ∧
      (rectEvent s).rect.settle = min 10 (s.rect.settle + 1) := by
  obtain ⟨placed', swapPlaced'⟩ := slotsTicked_placed placed swapPlaced
  have frame := slotsTicked_frame s
  obtain ⟨-, -, settled, -⟩ := slotsTicked_counts s
  generalize ticked : slotsTicked s = v at placed' swapPlaced' frame settled
  have on : v.sup.ac = true := by rw [frame]; exact ac
  have sched := countedOn_sched v
  have moved := modulesMoved_on on
  obtain ⟨rows, fitted'⟩ := modulesMoved_kept v
  have rows' : v.alarm.records.length = s.alarm.records.length := by rw [← ticked, slotsTicked_rows]
  have shuffled := modulesMoved_shuffled placed' swapPlaced'
  have available := shuffled.availableCount fitted'
  have framed := modulesMoved_frame v
  have w : rectEvent s = eventReported (modulesMoved v) := by rw [rectEvent_eq fitted, ticked]
  have reported : availableCount (rectEvent s) = availableCount v := by
    rw [w, ← available, availableCount_eq, availableCount_eq, eventReported_slot, eventReported_rect]
  have caps (n : Nat) : v.capped n = s.capped n := capped_congr (by rw [frame]) (by rw [frame]) n
  have high : raisedCount v (capacityHigh v) = raisedCount s (capacityHigh s) := by rw [frame]; rfl
  have low : raisedCount v (capacityLow v) = raisedCount s (capacityLow s) := by rw [frame]; rfl
  have up : (modulesMoved v).nUp = s.capped (min (raisedCount s (capacityHigh s)) (availableCount v)) := by
    rw [moved, sched.nUp, ← high, ← caps]
    rfl
  have down : (modulesMoved v).nDown = s.capped (min (raisedCount s (capacityLow s)) (availableCount v)) := by
    rw [moved, sched.nDown, ← low, ← caps]
    rfl
  obtain ⟨-, -, settle, -⟩ := sched.counts
  obtain ⟨nUp, nDown⟩ := eventReported_nUp (modulesMoved v)
  rw [reported, w, nUp, nDown]
  refine ⟨up, down, ?_, ?_⟩
  · have capped (n : Nat) : (modulesMoved v).capped n = s.capped n :=
      (capped_congr (by rw [framed]) (by rw [framed]) n).trans (caps n)
    have high' : raisedCount (modulesMoved v) (capacityHigh (modulesMoved v)) = raisedCount s (capacityHigh s) := by
      rw [framed, ← high]
      rfl
    have ac' : (modulesMoved v).sup.ac = true := by rw [framed]; exact on
    rw [eventReported_shortfall (by omega), shortfall, ac', Bool.true_and, decide_eq_true_iff, upCount, loweredCount,
      high', available, capped, up]
  · rw [eventReported_rect, moved]
    refine settle.trans ?_
    rw [← settled]
    rfl

end Sys2Proof.Machine
end

section
/-! SUPPORT. The overlap at a measurement event, and the one choice of an event with no slot STARTING or in FAULT and no swap
in flight (R92, R93, R107, R108). -/

namespace Sys2Proof.Machine

/-! ## An overlap (R108) -/

/-- A slot in neither count behind the first steps. -/
theorem slotsTicked_idle_state {s : State} (size : s.rect.fitted ≤ s.rect.slots.length) {j : Nat}
    (starting : (s.slot j).state ≠ .starting) (fault : (s.slot j).state ≠ .fault) :
    ((slotsTicked s).slot j).state = (s.slot j).state := by
  rw [slotsTicked_slot size]
  split
  · rw [ticked_idle s starting fault, timed_state]
  · rfl

/-- A swap in flight stands while slots are started and none is stopped. -/
theorem countWork_swap_held {s : State} {w : Swap} (swap : s.rect.swap = some w) :
    (countWork s).rect.swap = some w := by
  by_cases starts : s.nRun < s.nUp ∧ s.inForce 4 4 ≤ s.rect.spacing ∧ s.rect.queue ≠ []
  · obtain ⟨short, spaced, some_⟩ := starts
    obtain ⟨i, rest, queue⟩ := List.exists_cons_of_ne_nil some_
    have held : (dropFreed ((changeSlot i .starting s).onRect fun r => { r with spacing := 0, dwell := 0 })).rect.swap =
        (changeSlot i .starting s).rect.swap := by simp
    rw [countWork_starts short spaced queue, held, changeSlot_swap, swap]
  · rw [countWork_stays starts, stopWork_stays (by simp [swap])]
    rcases swapWork_cases s with h | ⟨i, o, pair, -⟩
    · rw [h]
      simpa using swap
    · obtain ⟨none_, -⟩ := swapPair_some pair
      simp [swap] at none_

/-- R108: an overlap of two RUNNING slots counts, and at its end ends the swap, COMPLETED where the others reach n_up. -/
theorem rectEvent_overlap {s : State} {x : Swap} (placed : s.RosterPlaced) (swapPlaced : s.SwapPlaced)
    (fitted : s.rect.fitted = s.inForce 0 15) (size : s.rect.fitted ≤ 12) (ac : s.sup.ac = true)
    (swap : s.rect.swap = some x) (overlap : x.phase = .overlap) (outgoing : (s.slot x.outgoing).state = .running) :
    (x.overlap + 1 < s.inForce 4 8 → (rectEvent s).rect.swap = some { x with overlap := x.overlap + 1 }) ∧
      (s.inForce 4 8 ≤ x.overlap + 1 → SwapRested (rectEvent s) ∧
        (rectEvent s).rect.lastSwap = some
          { incoming := x.incoming, outgoing := x.outgoing
            outcome := if (rectEvent s).nUp < (slotsTicked s).nRun then .completed else .absorbed, endTime := s.stamp } ∧
        ((rectEvent s).slot x.outgoing).state =
          if (rectEvent s).nUp < (slotsTicked s).nRun then .standby else .running) := by
  have size' : s.rect.fitted ≤ s.rect.slots.length := by rw [placed.size]; exact size
  obtain ⟨-, -, -, phase⟩ := swapPlaced x swap
  have incoming := phase.1 overlap
  have parts := slotsTicked_rotationParts size' fun w held => by
    obtain rfl := Option.some.inj (swap.symm.trans held)
    rw [incoming, outgoing]
    decide
  obtain ⟨placed', swapPlaced'⟩ := slotsTicked_placed placed swapPlaced
  have frame := slotsTicked_frame s
  have runs := slotsTicked_idle_state size' (j := x.outgoing) (by rw [outgoing]; decide) (by rw [outgoing]; decide)
  rw [outgoing] at runs
  have event := rectEvent_eq fitted
  generalize slotsTicked s = v at *
  have held : v.rect.swap = some x := (congrArg Prod.fst parts).trans swap
  have moved := modulesMoved_on (s := v) (by rw [frame]; exact ac)
  have limit : v.inForce 4 8 = s.inForce 4 8 := by rw [frame]; rfl
  have stamp : (countsFormed v).stamp = s.stamp := by
    change v.stamp = s.stamp
    rw [frame]
    rfl
  have counted : (countsFormed v).rect.swap = some { x with overlap := x.overlap + 1 } := by
    rw [countsFormed_rect, held]
    simp [Swap.overlapSecond, overlap]
  have formed := countsFormed_roster v
  have placed'' := formed.placed placed'
  have swapPlaced'' := formed.swapped placed' swapPlaced'
  have nUp : (rectEvent s).nUp = (countsFormed v).nUp := by
    rw [event, (eventReported_nUp _).1, moved, (countedOn_sched v).nUp]
  have nRun : (countsFormed v).nRun = v.nRun := rfl
  refine ⟨fun short => ?_, fun ended => ?_⟩
  · have stays : overlapWork (countsFormed v) = countsFormed v := by
      refine if_neg ?_
      rw [counted]
      change ¬ ((x.phase == .overlap && decide (v.inForce 4 8 ≤ x.overlap + 1)) = true)
      simp [limit, short]
    rw [event, eventReported_rect, moved, stays]
    exact countWork_swap_held counted
  · have ends : overlapWork (countsFormed v) = finishSwap (countsFormed v) := by
      refine if_pos ?_
      rw [counted]
      change ((x.phase == .overlap && decide (v.inForce 4 8 ≤ x.overlap + 1)) = true)
      simp [limit, ended, overlap]
    rw [ends] at moved
    obtain ⟨rested, last⟩ := finishSwap_ended counted
    obtain ⟨rested', last'⟩ := rested.countWork
    have rect : (rectEvent s).rect.rotationParts = (countWork (finishSwap (countsFormed v))).rect.rotationParts := by
      rw [event, eventReported_rect, moved]
      rfl
    refine ⟨rested'.of_parts rect, ?_, ?_⟩
    · rw [lastSwap_of_parts rect, nUp, ← nRun]
      exact last'.trans (last.trans (by rw [stamp]))
    · have shuffled := countWork_shuffled ((finishSwap_rosterStep (countsFormed v)).placed placed'')
      rw [nUp, ← nRun, event, eventReported_slot, moved]
      by_cases enough : (countsFormed v).nUp < (countsFormed v).nRun
      · obtain ⟨-, mem, -, -⟩ := swapPlaced'' _ counted
        obtain ⟨state, -⟩ := stopped_slot placed'' mem
        have slot := finishSwap_completed_slot counted enough
        have fewer : (finishSwap (countsFormed v)).nRun = (countsFormed v).nRun - 1 := by
          rw [State.nRun, finishSwap_completed_running placed'' counted enough, List.length_erase_of_mem mem]
          rfl
        have up := (finishSwap_sched (countsFormed v)).nUp
        have standby : ((finishSwap (countsFormed v)).slot x.outgoing).state = .standby := by rw [slot]; exact state
        rw [if_pos enough, countWork_rested rested (by omega), dropFreed_slot,
          stopWork_slot ((finishSwap_rosterStep (countsFormed v)).placed placed'') standby, standby]
      · obtain ⟨slot, count⟩ := finishSwap_absorbed_slot counted (Nat.le_of_not_lt enough)
        have still : ((finishSwap (countsFormed v)).slot x.outgoing).state = .running := by rw [slot]; exact runs
        have up : (countWork (finishSwap (countsFormed v))).nUp = (countsFormed v).nUp :=
          (countWork_sched _).nUp.trans (finishSwap_sched _).nUp
        rw [if_neg enough]
        rcases shuffled.runs x.outgoing (by rw [still]; rfl) with same | ⟨-, more⟩
        · rw [same, still]
        · omega

/-! ## A quiet event -/

/-- `c` stands behind the counts of an event of `s` with no slot STARTING or in FAULT and no swap, at which AC is available;
`w` behind the event. -/
structure QuietEvent (s c w : State) : Prop where
  placed : c.RosterPlaced
  ordered : c.QueueOrdered
  state : ∀ j, (c.slot j).state = (s.slot j).state
  running : c.rect.running = s.rect.running
  swap : c.rect.swap = none
  request : c.rect.rotationRequest = s.rect.rotationRequest
  spacing : c.rect.spacing = min (s.inForce 4 4) (s.rect.spacing + 1)
  dwell : c.rect.dwell = min (s.inForce 4 5) (s.rect.dwell + 1)
  rotation : c.rect.rotation = min 2592000 (s.rect.rotation + 1)
  frame : c = { s with rect := c.rect, alarm := c.alarm }
  event : w = eventReported (countWork c)

/-- None of the twelve slots is STARTING or in FAULT, and no swap is in flight. -/
def State.Quiet (s : State) : Prop :=
  (∀ i, i < 12 → (s.slot i).state ≠ .starting ∧ (s.slot i).state ≠ .fault) ∧ s.rect.swap = none

theorem rectEvent_quiet_hours {s : State} (placed : s.RosterPlaced) (size : s.rect.fitted ≤ 12) (quiet : s.Quiet) :
    slotsTicked s = hoursAdded s :=
  slotsTicked_quiet (by rw [placed.size]; exact size) fun i hi => quiet.1 i (hi.trans_le size)

theorem hoursAdded_state {s : State} (placed : s.RosterPlaced) (size : s.rect.fitted ≤ 12) (j : Nat) :
    ((hoursAdded s).slot j).state = (s.slot j).state := by
  rw [hoursAdded_slot (by rw [placed.size]; exact size)]
  split
  · exact timed_state _
  · rfl

theorem rectEvent_quiet {s : State} (placed : s.RosterPlaced) (ordered : s.QueueOrdered)
    (fitted : s.rect.fitted = s.inForce 0 15) (size : s.rect.fitted ≤ 12) (quiet : s.Quiet) (ac : s.sup.ac = true) :
    QuietEvent s (countsFormed (hoursAdded s)) (rectEvent s) := by
  obtain ⟨-, gone⟩ := id quiet
  have hours := hoursAdded_roster s
  have state := hoursAdded_state placed size
  have step := (hoursAdded_step s).frame
  have event := rectEvent_eq fitted
  rw [rectEvent_quiet_hours placed size quiet] at event
  generalize hoursAdded s = v at *
  have formed := countsFormed_roster v
  have moved := modulesMoved_on (s := v) (by rw [step]; exact ac)
  have none_ : (countsFormed v).rect.swap = none := by
    rw [countsFormed_rect, step, gone]
    rfl
  have stays : overlapWork (countsFormed v) = countsFormed v := if_neg (by simp [none_])
  rw [moved, stays] at event
  refine ⟨formed.placed (hours.placed placed), formed.ordered (hours.placed placed) (hours.ordered placed ordered),
    state, ?_, none_, ?_, ?_, ?_, ?_, ?_, event⟩
  all_goals rw [step]; rfl

end Sys2Proof.Machine
end

section
/-! SUPPORT. The start, the stop and the swap of a quiet measurement event (R92, R93, R107, R110). -/

namespace Sys2Proof.Machine

namespace QuietEvent

variable {s c w : State} (h : QuietEvent s c w)

include h

theorem nRun : c.nRun = s.nRun := congrArg List.length h.running

theorem inForce (i : Nat) : c.inForce 4 i = s.inForce 4 i := by rw [h.frame]; rfl

theorem nUp : w.nUp = c.nUp := by rw [h.event, (eventReported_nUp _).1, (countWork_sched c).nUp]

theorem nDown : w.nDown = c.nDown := by rw [h.event, (eventReported_nUp _).2, (countWork_sched c).nDown]

theorem slot : w.slot = (countWork c).slot := by rw [h.event, eventReported_slot]

theorem hours (j : Nat) : (w.slot j).hours = c.hours j := by
  rw [h.slot]
  exact ((countWork_sched c).time j).1

theorem rect : w.rect = { (countWork c).rect with im := (countWork c).moduleLimit } := by
  rw [h.event, eventReported_rect]

theorem spaced_iff : s.inForce 4 4 ≤ s.rect.spacing + 1 ↔ c.inForce 4 4 ≤ c.rect.spacing := by
  rw [h.spacing, h.inForce]
  omega

theorem dwelt_iff : s.inForce 4 5 ≤ s.rect.dwell + 1 ↔ c.inForce 4 5 ≤ c.rect.dwell := by
  rw [h.dwell, h.inForce]
  omega

theorem queued_iff (placed : s.RosterPlaced) (i : Nat) : i ∈ c.rect.queue ↔ i ∈ s.rect.queue := by
  rw [h.placed.mem_queue, placed.mem_queue, h.state]

theorem waits_iff (placed : s.RosterPlaced) : s.rect.queue ≠ [] ↔ c.rect.queue ≠ [] := by
  rw [ne_eq, ne_eq, List.eq_nil_iff_forall_not_mem, List.eq_nil_iff_forall_not_mem]
  simp only [h.queued_iff placed]

/-- The head of the queue has the fewest hours of the STANDBY slots (R88). -/
theorem head_fewest {i : Nat} {rest : List Nat} (queue : c.rect.queue = i :: rest) {j : Nat}
    (standby : j < 12 ∧ (s.slot j).state = .standby) (ne : j ≠ i) :
    (w.slot i).hours < (w.slot j).hours ∨ (w.slot i).hours = (w.slot j).hours ∧ i < j := by
  have mem : j ∈ c.rect.queue := h.placed.mem_queue.2 (by rw [h.state]; exact standby)
  have ordered := h.ordered
  rw [State.QueueOrdered, queue] at ordered
  rw [queue] at mem
  rw [h.hours, h.hours, ← queueBefore_iff]
  exact (List.pairwise_cons.1 ordered).1 j ((List.mem_cons.1 mem).resolve_left ne)

/-- The slot of fewest hours is the head of the queue. -/
theorem head_of_fewest {i : Nat} (standby : i < 12 ∧ (s.slot i).state = .standby)
    (fewest : ∀ j, j < 12 → (s.slot j).state = .standby → j ≠ i →
      (w.slot i).hours < (w.slot j).hours ∨ (w.slot i).hours = (w.slot j).hours ∧ i < j) :
    c.rect.queue.head? = some i := by
  have mem : i ∈ c.rect.queue := h.placed.mem_queue.2 (by rw [h.state]; exact standby)
  obtain ⟨k, rest, queue⟩ := List.exists_cons_of_ne_nil (List.ne_nil_of_mem mem)
  by_cases same : k = i
  · rw [queue, same]
    rfl
  · obtain ⟨hk, waits⟩ := h.placed.standby_of_head (i := k) (by rw [queue]; rfl)
    rw [h.state] at waits
    have first := fewest k hk waits same
    have later := h.head_fewest queue standby (Ne.symm same)
    omega

/-- R92: the STANDBY slot of fewest hours is started, and nothing else. -/
theorem starts (placed : s.RosterPlaced) (short : s.nRun < w.nUp) (spaced : s.inForce 4 4 ≤ s.rect.spacing + 1)
    (waits : s.rect.queue ≠ []) : ∃ i rest, c.rect.queue = i :: rest ∧ i < 12 ∧ (s.slot i).state = .standby ∧
      (w.slot i).state = .starting ∧ (∀ j, j ≠ i → (w.slot j).state = (s.slot j).state) ∧
      w.rect.running = s.rect.running ++ [i] ∧ w.rect.spacing = 0 ∧ w.rect.dwell = 0 ∧ w.rect.swap = none := by
  obtain ⟨i, rest, queue⟩ := List.exists_cons_of_ne_nil ((h.waits_iff placed).1 waits)
  obtain ⟨hi, standby⟩ := h.placed.standby_of_head (i := i) (by rw [queue]; rfl)
  have counted := countWork_starts (by rw [h.nRun, ← h.nUp]; exact short) (h.spaced_iff.1 spaced) queue
  have slot : w.slot = (changeSlot i .starting c).slot := by
    rw [h.slot, counted, dropFreed_slot]
    rfl
  have started := changeSlot_started h.placed standby
  refine ⟨i, rest, queue, hi, (h.state i).symm.trans standby, ?_, fun j ne => ?_, ?_⟩
  · rw [slot, changeSlot_started_slot h.placed standby]
    rfl
  · rw [slot, changeSlot_slot_ne .starting c ne, h.state]
  · rw [h.rect, counted]
    simp only [dropFreed_keeps, State.onRect_rect, started, h.swap, h.running, and_self]

/-- R93: a running slot of most hours is stopped, and no swap follows under a hold. -/
theorem stops (placed : s.RosterPlaced) (enough : ¬ (s.nRun < w.nUp ∧ s.inForce 4 4 ≤ s.rect.spacing + 1 ∧ s.rect.queue ≠ []))
    (exceeds : max w.nDown w.nUp < s.nRun) (dwelt : s.inForce 4 5 ≤ s.rect.dwell + 1) (held : s.sup.hold ≠ none) :
    ∃ o ∈ s.rect.running, (w.slot o).state = .standby ∧ (∀ j ∈ s.rect.running, (w.slot j).hours ≤ (w.slot o).hours) ∧
      (∀ j, j ≠ o → (w.slot j).state = (s.slot j).state) ∧ w.rect.running = s.rect.running.erase o ∧
      w.rect.dwell = 0 ∧ w.rect.swap = none := by
  rw [h.nUp, ← h.nRun, h.spaced_iff, h.waits_iff placed] at enough
  rw [h.nUp, h.nDown, ← h.nRun] at exceeds
  obtain ⟨o, mem, most, stopped⟩ := stopWork_stops exceeds (h.dwelt_iff.1 dwelt) h.swap
  have hold : (stopWork c).sup.hold ≠ none := by
    rw [(stopWork_sched c).sup, h.frame]
    exact held
  have counted : countWork c = dropFreed (stopWork c) := by
    rw [countWork_stays enough, swapWork_stays fun ⟨_, free, _⟩ => hold free]
  obtain ⟨state, others⟩ := stopped_slot h.placed mem
  have slot : w.slot = (changeSlot o .standby c).slot := by
    rw [h.slot, counted, dropFreed_slot, stopped]
    rfl
  refine ⟨o, h.running ▸ mem, by rw [slot, state], fun j hj => ?_, fun j ne => by rw [slot, others j ne, h.state], ?_⟩
  · rw [h.hours, h.hours]
    exact mostHours_most most j (h.running ▸ hj)
  · rw [h.rect, counted, stopped, ← h.running]
    simp only [dropFreed_keeps, State.onRect_rect, changeSlot_stopped_running h.placed, changeSlot_swap, h.swap, and_self]

theorem counted_still (placed : s.RosterPlaced)
    (enough : ¬ (s.nRun < w.nUp ∧ s.inForce 4 4 ≤ s.rect.spacing + 1 ∧ s.rect.queue ≠ []))
    (few : ¬ (max w.nDown w.nUp < s.nRun ∧ s.inForce 4 5 ≤ s.rect.dwell + 1)) : countWork c = swapWork c := by
  rw [h.nUp, ← h.nRun, h.spaced_iff, h.waits_iff placed] at enough
  rw [h.nUp, h.nDown, ← h.nRun, h.dwelt_iff] at few
  rw [countWork_stays enough, stopWork_stays fun ⟨exceeds, dwelt, _⟩ => few ⟨exceeds, dwelt⟩]

/-- R106, R107, R110: what has to be for a swap to begin. -/
theorem swap_iff : (((rotationIsDue c || c.rect.rotationRequest) = true) ∧ c.sup.hold = none ∧
    c.inForce 4 4 ≤ c.rect.spacing) ↔
      ((s.inForce 4 6 ≠ 0 ∧ s.inForce 4 6 * 3600 ≤ min 2592000 (s.rect.rotation + 1)) ∨ s.rect.rotationRequest = true) ∧
        s.sup.hold = none ∧ s.inForce 4 4 ≤ s.rect.spacing + 1 := by
  have hold : c.sup.hold = s.sup.hold := by rw [h.frame]
  rw [rotationIsDue, h.rotation, h.inForce, h.request, hold, h.spaced_iff, Bool.or_eq_true, decide_eq_true_iff]

/-- R107: under the generator cap there is room for the incoming module. -/
theorem room (budget : s.gen.machine = .online → s.nRun < s.nGen) (online : c.online = true) : c.nRun < c.nGen := by
  have machine : s.gen.machine = .online := by
    rw [h.frame] at online
    simpa [State.online] using online
  have same : c.nGen = s.nGen := by rw [h.frame]; rfl
  rw [h.nRun, same]
  exact budget machine

/-- R107: the swap begins of the least run STANDBY slot for the most run RUNNING one. -/
theorem swaps {i o : Nat} (counted : countWork c = swapWork c)
    (begins : ((rotationIsDue c || c.rect.rotationRequest) = true) ∧ c.sup.hold = none ∧
      c.inForce 4 4 ≤ c.rect.spacing)
    (head : c.rect.queue.head? = some i) (ho : o < 12 ∧ (s.slot o).state = .running)
    (most : ∀ j, j < 12 → j ≠ o → (s.slot j).state = .running → (w.slot j).hours < (w.slot o).hours)
    (margin : (w.slot i).hours + s.inForce 4 7 < (w.slot o).hours) (room : c.online = true → c.nRun < c.nGen) :
    w.rect.swap = some { incoming := i, outgoing := o, phase := .starting, overlap := 0 } ∧
      (w.slot i).state = .starting ∧ (∀ j, j ≠ i → (w.slot j).state = (s.slot j).state) ∧
      w.rect.rotationRequest = false := by
  obtain ⟨due_, free, spaced⟩ := begins
  have mem : o ∈ c.rect.running.filter fun i => (c.slot i).state == .running := by
    simp [h.placed.mem_running, h.state, ho, SlotState.commanded]
  have candidate : outgoingCandidate c = some o := mostHours_of_most mem fun j hj ne => by
    obtain ⟨hj, runs⟩ := List.mem_filter.1 hj
    rw [← h.hours, ← h.hours]
    exact most j (h.placed.mem_running.1 hj).1 ne (by rw [← h.state]; simpa using runs)
  have pair : swapPair c = some (i, o) := by
    rw [swapPair, h.swap, head, candidate]
    exact if_pos ⟨by rw [← h.hours, ← h.hours, h.inForce]; exact margin, room⟩
  rw [swapWork_begins due_ free spaced pair] at counted
  obtain ⟨standby, state, others⟩ := beginSwap_started h.placed pair
  have rect := beginSwap_rect h.placed standby ho.1
  rw [h.slot, h.rect, counted]
  exact ⟨congrArg Rect.swap rect, state, fun j ne => by rw [others j ne, h.state], congrArg Rect.rotationRequest rect⟩

/-- With nothing to start, to stop or to swap the roster stands. -/
theorem rests (counted : countWork c = swapWork c)
    (none_ : ¬ (((rotationIsDue c || c.rect.rotationRequest) = true) ∧ c.sup.hold = none ∧
      c.inForce 4 4 ≤ c.rect.spacing)) :
    (∀ j, (w.slot j).state = (s.slot j).state) ∧ w.rect.running = s.rect.running ∧ w.rect.swap = none := by
  rw [swapWork_stays none_] at counted
  rw [h.slot, h.rect, counted, dropFreed_slot]
  exact ⟨h.state, by simp [h.running], by simp [h.swap]⟩

/-- R106: the rotation counter advances whatever is started, stopped or swapped. -/
theorem rotationCounts : w.rect.rotation = min 2592000 (s.rect.rotation + 1) := by
  have started (i : Nat) (u : State) : (changeSlot i .starting u).rect.rotation = u.rect.rotation := by
    rw [changeSlot_counts]
  have swapped (u : State) : (swapWork u).rect.rotation = u.rect.rotation := by
    rcases swapWork_cases u with stays | ⟨i, o, -, begins⟩
    · simp [stays]
    · rw [begins, beginSwap_eq]
      exact started i _
  have stopped : (stopWork c).rect.rotation = c.rect.rotation :=
    congrArg (fun p => p.2.2.1) (stopWork_rotationParts c)
  rw [h.rect, ← h.rotation]
  by_cases starts : c.nRun < c.nUp ∧ c.inForce 4 4 ≤ c.rect.spacing ∧ c.rect.queue ≠ []
  · obtain ⟨short, spaced, some_⟩ := starts
    obtain ⟨i, rest, queue⟩ := List.exists_cons_of_ne_nil some_
    rw [countWork_starts short spaced queue]
    simpa using started i c
  · rw [countWork_stays starts]
    exact (swapped _).trans stopped

end QuietEvent

end Sys2Proof.Machine
end

section
/-! SUPPORT and the statement about the module count of a measurement event (R89 to R93, R95, R99, R100, R105, R107, R108,
R128). -/

namespace Sys2Proof.Machine

/-! ## The limit of a module (R95) -/

/-- A quotient rounded up, by what it is to cover. -/
theorem ceilDiv_unique {n d q : Nat} (covers : n ≤ d * q) (least : d * q < n + d) : ceilDiv n d = q := by
  have pos : 0 < d := by omega
  have shape : n + d - 1 = d * q + (n + d - 1 - d * q) := by omega
  rw [ceilDiv, shape, Nat.mul_add_div pos, Nat.div_eq_of_lt (by omega), Nat.add_zero]

/-! ## The seconds of a slot (R105) -/

theorem timed_time (x : Slot) : (x.timed.hours, x.timed.residue) =
    if ¬ (x.state ≠ .absent ∧ (x.data.any fun d => d.running) = true) then (x.hours, x.residue)
    else if 9999999 ≤ x.hours then (x.hours, 0)
    else if 360 ≤ x.residue + 1 then (x.hours + 1, 0)
    else (x.hours, x.residue + 1) := by
  unfold Slot.timed
  by_cases runs : x.state ≠ .absent ∧ (x.data.any fun d => d.running) = true
  · rw [if_pos runs, if_neg (not_not.2 runs)]
    unfold Slot.runSecond
    (repeat' split) <;> rfl
  · rw [if_neg runs, if_pos runs]

/-! ## An event while AC is not available (log 45) -/

/-- A quiet event without AC available starts and stops nothing and leaves the counts. -/
theorem rectEvent_quiet_off {s : State} (records : s.alarm.records.length = 40) (placed : s.RosterPlaced)
    (fitted : s.rect.fitted = s.inForce 0 15) (size : s.rect.fitted ≤ 12) (quiet : s.Quiet) (ac : s.sup.ac = false) :
    (∀ j, ((rectEvent s).slot j).state = (s.slot j).state) ∧ (rectEvent s).rect.running = s.rect.running ∧
      ((rectEvent s).record 19).cond = false ∧ (rectEvent s).nUp = s.nUp ∧ (rectEvent s).nDown = s.nDown ∧
      (rectEvent s).rect.spacing = s.rect.spacing ∧ (rectEvent s).rect.dwell = s.rect.dwell ∧
      (rectEvent s).rect.settle = s.rect.settle ∧ (rectEvent s).rect.rotation = s.rect.rotation := by
  have event := rectEvent_eq fitted
  have state := hoursAdded_state placed size
  have step := (hoursAdded_step s).frame
  rw [rectEvent_quiet_hours placed size quiet] at event
  generalize hoursAdded s = v at *
  have off : v.sup.ac = false := by rw [step]; exact ac
  rw [modulesMoved_off off] at event
  have sched := dropFreed_sched v
  obtain ⟨-, -, settle, -⟩ := sched.counts
  obtain ⟨nUp, nDown⟩ := eventReported_nUp (dropFreed v)
  have shortfall_ : shortfall (dropFreed v) = false := by simp [shortfall, off]
  rw [event, eventReported_slot, dropFreed_slot, nUp, nDown, sched.nUp, sched.nDown, eventReported_rect,
    eventReported_shortfall (by rw [sched.rows, step]; exact records)]
  have same : v.nUp = s.nUp ∧ v.nDown = s.nDown := by rw [step]; exact ⟨rfl, rfl⟩
  have kept : v.rect.running = s.rect.running ∧ v.rect.spacing = s.rect.spacing ∧ v.rect.dwell = s.rect.dwell ∧
      v.rect.settle = s.rect.settle ∧ v.rect.rotation = s.rect.rotation := by
    rw [step]
    exact ⟨rfl, rfl, rfl, rfl, rfl⟩
  obtain ⟨running, spacing, dwell, settled, rotation⟩ := kept
  exact ⟨state, by simp [running], shortfall_, same.1, same.2, by simp [spacing], by simp [dwell], settle.trans settled,
    by simp [rotation]⟩

/-! ## The event as a whole -/

/-- R90: the demand, every stage named. -/
theorem demand_eq (s : State) : demand s = s.meas.load + match s.charge.stage with
    | .bulk => s.charge.ibl
    | .absorb => s.batteryCurrent.toNat
    | .float => s.batteryCurrent.toNat
    | .equalize => s.batteryCurrent.toNat
    | .test => 0
    | .discharge => 0 := by
  unfold demand
  cases s.charge.stage <;> rfl

/-- R95: Im in TEST, and else the share of a module. -/
theorem moduleLimit_eq (s : State) :
    (s.charge.stage = .test ∨ s.rect.running = [] → s.moduleLimit = s.inForce 0 14) ∧
      (s.charge.stage ≠ .test → s.rect.running ≠ [] → ∀ q,
        s.meas.load + s.charge.ibl ≤ s.rect.running.length * q →
          s.rect.running.length * q < s.meas.load + s.charge.ibl + s.rect.running.length →
            s.moduleLimit = min (s.inForce 0 14) q) := by
  refine ⟨fun whole => if_pos (whole.imp_right fun none_ => by simp [State.nRun, none_]), fun other some_ q covers least => ?_⟩
  have shared : ¬ (s.charge.stage = .test ∨ s.nRun = 0) := by simp [other, State.nRun, some_]
  rw [State.moduleLimit, if_neg shared, State.nRun, ceilDiv_unique covers least]
  rfl

theorem capped_eq (s : State) (n : Nat) :
    s.capped n = if s.gen.machine = .online then min n (s.now 3 25 / s.now 0 14) else n := by
  by_cases online : s.gen.machine = .online
  · rw [capped_online s n online, if_pos online]
    rfl
  · rw [capped_other s n online, if_neg online]

theorem rectEvent_limit {s : State} (fitted : s.rect.fitted = s.inForce 0 15) :
    (rectEvent s).rect.im = (rectEvent s).moduleLimit := by
  rw [rectEvent_eq fitted]
  exact eventReported_limit _

theorem rectEvent_fitted {s : State} (fitted : s.rect.fitted = s.inForce 0 15) :
    (rectEvent s).rect.fitted = s.rect.fitted := by
  obtain ⟨-, -, -, ticked⟩ := slotsTicked_counts s
  rw [rectEvent_eq fitted, eventReported_rect]
  exact (modulesMoved_kept _).2.trans ticked

section

variable {s : State} (placed : s.RosterPlaced) (swapPlaced : s.SwapPlaced) (fitted : s.rect.fitted = s.inForce 0 15)
  (size : s.rect.fitted ≤ 12) {i : Nat} (hi : i < s.rect.fitted)

include placed swapPlaced fitted size hi

/-- A slot that stands in neither list behind its own count stands so behind the event. -/
theorem rectEvent_stands (other : ((s.slot i).ticked s).state ≠ .standby)
    (idle : ((s.slot i).ticked s).state.commanded = false) : (rectEvent s).slot i = (s.slot i).ticked s := by
  have slot := slotsTicked_slot (s := s) (by rw [placed.size]; exact size) i
  rw [if_pos hi] at slot
  rw [← slot] at other idle
  exact ((rectEvent_shuffled placed swapPlaced fitted).stands i other idle).trans slot

/-- R99, log 31: a start that times out. -/
theorem rectEvent_late (starting : (s.slot i).state = .starting) (late : s.inForce 4 9 ≤ (s.slot i).startCount + 1)
    (slow : 1 < s.inForce 4 10) : ((rectEvent s).slot i).state = .fault ∧
      ((rectEvent s).slot i).faults = min 255 ((s.slot i).faults + 1) ∧
      ((rectEvent s).slot i).recovery = (if (s.slot i).data.any fun d => !countingFault s d then 1 else 0) ∧
      i ∉ (rectEvent s).rect.running ∧
      ∀ x, (rectEvent s).rect.swap = some x → x.incoming ≠ i ∧ x.outgoing ≠ i := by
  obtain ⟨fault, faults, recovery⟩ := ticked_late starting late slow
  have slot := rectEvent_stands placed swapPlaced fitted size hi (by rw [fault]; decide) (by rw [fault]; rfl)
  have event := rectEvent_rosterStep s
  have notIn : i ∉ (rectEvent s).rect.running := fun mem => by
    have commanded := ((event.placed placed).mem_running.1 mem).2
    rw [slot, fault] at commanded
    exact Bool.noConfusion commanded
  rw [slot]
  refine ⟨fault, faults, recovery, notIn, fun x swap => ?_⟩
  obtain ⟨incoming, outgoing, -⟩ := event.swapped placed swapPlaced x swap
  exact ⟨fun e => notIn (e ▸ incoming), fun e => notIn (e ▸ outgoing)⟩

/-- R99, R93: a start in time counts, unless its slot is stopped at the event. -/
theorem rectEvent_inTime (starting : (s.slot i).state = .starting)
    (inTime : (s.slot i).startCount + 1 < s.inForce 4 9) :
    ((rectEvent s).slot i).state = .starting ∧ ((rectEvent s).slot i).startCount = (s.slot i).startCount + 1 ∨
      ((rectEvent s).slot i).state = .standby ∧ (rectEvent s).nUp < s.nRun := by
  have slot := slotsTicked_slot (s := s) (by rw [placed.size]; exact size) i
  have counted := ticked_starting starting inTime
  rw [if_pos hi, counted] at slot
  have state : ((slotsTicked s).slot i).state = .starting := by
    rw [slot]
    exact (timed_state _).trans starting
  rcases (rectEvent_shuffled placed swapPlaced fitted).runs i (by rw [state]; rfl) with same | ⟨standby, fewer⟩
  · exact .inl ⟨by rw [same, state], by rw [same, slot]⟩
  · exact .inr ⟨standby, fewer.trans_le (slotsTicked_nRun_le placed size)⟩

/-- R100: a slot in FAULT that has recovered is in service, in STANDBY or started again. -/
theorem rectEvent_recovered (fault : (s.slot i).state = .fault)
    (clear : ((s.slot i).data.any fun d => !countingFault s d) = true)
    (reached : s.inForce 4 10 ≤ (s.slot i).recovery + 1) :
    ((rectEvent s).slot i).state = .standby ∨ ((rectEvent s).slot i).state = .starting := by
  have slot := slotsTicked_slot (s := s) (by rw [placed.size]; exact size) i
  rw [if_pos hi] at slot
  refine (rectEvent_shuffled placed swapPlaced fitted).waits i ?_
  rw [slot]
  exact ticked_recovered fault clear reached

/-- R100: a slot in FAULT that has not counts, or waits for its fault to go. -/
theorem rectEvent_faulted (fault : (s.slot i).state = .fault) :
    (((s.slot i).data.any fun d => !countingFault s d) = true → (s.slot i).recovery + 1 < s.inForce 4 10 →
        (rectEvent s).slot i = { (s.slot i).timed with recovery := (s.slot i).recovery + 1 }) ∧
      (¬ ((s.slot i).data.any fun d => !countingFault s d) = true → (rectEvent s).slot i = (s.slot i).timed) := by
  have stands (x : Slot) (ticked : (s.slot i).ticked s = x) (state : x.state = .fault) : (rectEvent s).slot i = x := by
    rw [← ticked] at state
    rw [rectEvent_stands placed swapPlaced fitted size hi (by rw [state]; decide) (by rw [state]; rfl), ticked]
  have state : (s.slot i).timed.state = .fault := (timed_state _).trans fault
  exact ⟨fun clear short => stands _ (ticked_recovering fault clear short) state,
    fun faulty => stands _ (ticked_faulty fault faulty) state⟩

end

end Sys2Proof.Machine

open Sys2Proof Sys2Proof.Machine

/-- Settles O60: the record of every slot behind the first steps, the counts formed, the end of an overlap, and the one
choice of a quiet event. -/
theorem eventsSetTheModuleCount : Obligations.EventsSetTheModuleCount := by
  intro s least
  have limit := moduleLimit_eq s
  refine ⟨capped_eq s _, capped_eq s _, limit.1, limit.2, fun records placed ordered swapPlaced fitted most_ => ?_⟩
  have size : s.rect.fitted ≤ 12 := by omega
  have time := rectEvent_time placed fitted size
  have moves := rectEvent_moves fitted
  have formed := rectEvent_limit fitted
  have fitted' := rectEvent_fitted fitted
  have late_ (i : Nat) (hi : i < s.rect.fitted) := rectEvent_late placed swapPlaced fitted size hi
  have inTime_ (i : Nat) (hi : i < s.rect.fitted) := rectEvent_inTime placed swapPlaced fitted size hi
  have recovered (i : Nat) (hi : i < s.rect.fitted) := rectEvent_recovered placed swapPlaced fitted size hi
  have faulted (i : Nat) (hi : i < s.rect.fitted) := rectEvent_faulted placed swapPlaced fitted size hi
  have counts := rectEvent_counts records placed swapPlaced fitted
  have overlaps (x : Swap) := rectEvent_overlap (x := x) placed swapPlaced fitted size
  have quietOff := rectEvent_quiet_off records placed fitted size
  have quietOn := rectEvent_quiet placed ordered fitted size
  rw [slotsTicked_nRun placed size] at overlaps
  generalize rectEvent s = t at *
  generalize countsFormed (hoursAdded s) = c at *
  intro w load raised ready lowered late clear spaced starts stops wanted fewest most others
  refine ⟨fun i hi => ?_, formed, moves, fun i hi starting => ⟨fun isLate slow => ?_, fun inTime => ?_⟩,
    fun i hi fault => ⟨recovered i hi fault, fun isClear short => ?_, fun faulty => ?_⟩, fun ac => ?_,
    fun quiet gone => ⟨fun off => ?_, fun ac => ?_⟩⟩
  · obtain ⟨hours, residue⟩ := time i
    rw [show w = t from rfl, hours, residue]
    by_cases within : i < s.rect.fitted
    · simp only [within, true_and]
      exact timed_time _
    · simp [within]
  · obtain ⟨fault, faults, recovery, notIn, apart⟩ := late_ i hi starting isLate.2.2 slow
    exact ⟨fault, faults, fun clear => recovery.trans (if_pos clear), fun faulty => recovery.trans (if_neg faulty),
      notIn, apart⟩
  · exact inTime_ i hi starting (Nat.lt_of_not_le fun reached => inTime ⟨hi, starting, reached⟩)
  · have slot := (faulted i hi fault).1 isClear short
    rw [show w = t from rfl, slot, timed_eq]
  · have slot := (faulted i hi fault).2 faulty
    rw [show w = t from rfl, slot]
    exact timed_eq _
  · obtain ⟨up, down, short, settle⟩ := counts ac
    have raised_ (percent : Nat) : raisedCount s (s.rm * percent / 100) = raised percent := by
      rw [raisedCount, demand_eq]
      rfl
    have ready_ : availableCount t = ready := by
      rw [availableCount_eq, fitted']
      rfl
    rw [ready_, capped_eq] at up down
    rw [capacityHigh, raised_] at up short
    rw [capacityLow, raised_] at down
    refine ⟨up, down, short, settle, fun x swap overlap outgoing => ?_⟩
    obtain ⟨stands, ends⟩ := overlaps x ac swap overlap outgoing
    refine ⟨stands, fun ended => ?_⟩
    obtain ⟨rested, last, state⟩ := ends ended
    exact ⟨rested.swap, rested.rotation, rested.request, last, state⟩
  · obtain ⟨state, running, short, up, down, spacing, dwell, settle, rotation⟩ := quietOff ⟨quiet, gone⟩ off
    exact ⟨fun j _ _ => state j, running, short, by rw [up, down, spacing, dwell, settle, rotation]⟩
  · have event := quietOn ⟨quiet, gone⟩ ac
    refine ⟨event.rotationCounts, fun begins => ?_, fun enough exceeds held => ?_,
      fun enough few free due_ room i hi standby least_ o ho runs most_ margin budget => ?_,
      fun enough few other => ?_⟩
    · obtain ⟨short, spaced_, waits⟩ := begins
      obtain ⟨i, rest, queue, hi, standby, state, kept, running, spacing, dwell, swap⟩ :=
        event.starts placed short spaced_ waits
      exact ⟨i, hi, standby, state, fun j hj waits ne => event.head_fewest queue ⟨hj, waits⟩ ne,
        fun j _ ne => kept j (by simpa using ne), running, spacing, dwell, swap⟩
    · obtain ⟨o, mem, state, hours, kept, running, dwell, swap⟩ := event.stops placed enough exceeds.1 exceeds.2 held
      exact ⟨o, (placed.mem_running.1 mem).1, mem, state,
        fun j hj runs => hours j (placed.mem_running.2 ⟨hj, by rw [runs]; rfl⟩),
        fun j _ ne => kept j (by simpa using ne), running, dwell, swap⟩
    · obtain ⟨swap, state, kept, request⟩ := event.swaps (event.counted_still placed enough few)
        (event.swap_iff.2 ⟨due_, free, room⟩) (event.head_of_fewest ⟨hi, standby⟩ least_) ⟨ho, runs⟩ most_ margin
        (event.room budget)
      exact ⟨swap, state, fun j _ ne => kept j (by simpa using ne), request⟩
    · obtain ⟨state, running, swap⟩ := event.rests (event.counted_still placed enough few) fun begins => by
        obtain ⟨due_, free, room⟩ := event.swap_iff.1 begins
        rcases other with held | undue | tight
        · exact held free
        · exact undue due_
        · exact tight room
      exact ⟨fun j _ _ => state j, running, swap⟩
end
